-- ==== Sys2Proof/Word.lean ====
section
/-! DEFINITION. The part's smallest words: a byte, and an RGB value of three 8-bit channels. -/

namespace Sys2Proof

/-- Eight bits: a byte of a packet, of library memory, of the serial store; a channel; a coverage. -/
abbrev Byte := BitVec 8

/-- Three 8-bit channels in the order R, G, B: one pixel column of a line (R1), one colour. -/
structure Rgb where
  r : Byte
  g : Byte
  b : Byte
deriving DecidableEq, Repr

/-- Black, (0, 0, 0). -/
def Rgb.black : Rgb := ⟨0, 0, 0⟩

end Sys2Proof
end

