-- ==== Sys2Proof/Syntax.lean ====
section
/-! DEFINITION. The commands: one constructor for each row of spec/opcode_table.json. The table gives
no operands; the operands here are what the outside of the part supplies with the event (log 29). -/

namespace Sys2Proof

/-- The strap inputs sampled at power-on (R173). `blocks` is STORE_SIZE in 1-megabyte blocks. -/
structure Straps where
  board : Nat
  leader : Bool
  inGroup : Bool
  blocks : Nat
deriving DecidableEq, Repr

/-- A command of the part. `ready` and `flip` say that every OTHER part connected to GRP_READY, or to
GRP_FLIP, releases the line when the command samples it (R139); `cols` are the pixel columns that
arrive with a line, left to right. -/
inductive Instr where
  /-- POWER_ON, R173. -/
  | powerOn (straps : Straps)
  /-- RESTART, R179: taken at the head of the table queue. -/
  | restart
  /-- LOAD_COMPLETION, R174. -/
  | loadCompletion
  /-- INPUT_FRAME_START, R6. -/
  | inputFrameStart (ready : Bool)
  /-- CONTROL_LINE, R2. -/
  | controlLine (cols : List Rgb)
  /-- BLANKING_LINE, R17. -/
  | blankingLine
  /-- ACTIVE_LINE, R3. -/
  | activeLine (cols : List Rgb) (flip : Bool)
  /-- LOSS_INTERVAL_EXPIRY, R9. -/
  | lossIntervalExpiry (ready : Bool)
  /-- FALLBACK_FRAME_START, R12. -/
  | fallbackFrameStart (ready : Bool)
  /-- FALLBACK_LINE_START, R12. -/
  | fallbackLineStart (flip : Bool)
  /-- FILL_GRANT, R109. -/
  | fillGrant
  /-- FILL_COMPLETION, R105. -/
  | fillCompletion
  /-- TILE_WRITE, R111. -/
  | tileWrite
  /-- UPLOADS_AHEAD_DRAINED, R126. -/
  | uploadsAheadDrained
  /-- CREDIT_WINDOW_RESTART, R113. -/
  | creditWindowRestart
  /-- SAVE_READ_GRANT, R117. -/
  | saveReadGrant
  /-- STAGE_OPEN, R122: taken at the head of the table queue, as are the commands down to STORE_PROTECT
  but for the three completions. -/
  | stageOpen
  /-- SEED_COMPLETION, R122, R176. -/
  | seedCompletion
  /-- TABLE_WRITE, R123, R124. -/
  | tableWrite
  /-- FLIP_ARM, R125. -/
  | flipArm
  /-- FLIP_CANCEL, R127. -/
  | flipCancel
  /-- STAGE_DISCARD, R127. -/
  | stageDiscard
  /-- CONFIG_WRITE, R128. -/
  | configWrite
  /-- STORE_SAVE, R176. -/
  | storeSave
  /-- SAVE_COMPLETION, R177. -/
  | saveCompletion
  /-- STORE_RECALL, R175. -/
  | storeRecall
  /-- RECALL_COMPLETION, R175. -/
  | recallCompletion
  /-- STORE_PROTECT, R178. -/
  | storeProtect
  /-- PROTECT_PROGRAM_COMPLETION, R178. -/
  | protectProgramCompletion
  /-- STORE_PROGRAM_TIMEOUT, R177, R178. -/
  | storeProgramTimeout
  /-- PAGE_HOLD_EXPIRY, R136. -/
  | pageHoldExpiry
  /-- STORE_READ_COMPLETION, R169. -/
  | storeReadCompletion
  /-- LEADER_WINDOW_END, R143. -/
  | leaderWindowEnd
  /-- MEMBER_WINDOW_END, R145. -/
  | memberWindowEnd
  /-- PULSE_END, R144. -/
  | pulseEnd
  /-- FALLBACK_BLANKING_LINE_PERIOD, R12. -/
  | fallbackBlankingLinePeriod
deriving DecidableEq, Repr

end Sys2Proof
end

