-- ==== Sys2Proof/WellFormed.lean ====
section
/-! DEFINITION. Which commands the outside can send: the straps of a POWER_ON are levels that some
wiring gives (R173). Every other operand is free: a line may carry any number of columns. -/

namespace Sys2Proof

/-- BOARD is 0 to 7 and STORE_SIZE is none, 4, 8 or 16 MB (R173). -/
def Straps.wellFormed (p : Straps) : Bool :=
  decide (p.board < 8) && (p.blocks == 0 || p.blocks == 4 || p.blocks == 8 || p.blocks == 16)

/-- The checks on a command's operands. -/
def Instr.wellFormed : Instr → Bool
  | .powerOn p => p.wellFormed
  | .restart => true
  | .loadCompletion => true
  | .inputFrameStart _ => true
  | .controlLine _ => true
  | .blankingLine => true
  | .activeLine _ _ => true
  | .lossIntervalExpiry _ => true
  | .fallbackFrameStart _ => true
  | .fallbackLineStart _ => true
  | .fillGrant => true
  | .fillCompletion => true
  | .tileWrite => true
  | .uploadsAheadDrained => true
  | .creditWindowRestart => true
  | .saveReadGrant => true
  | .stageOpen => true
  | .seedCompletion => true
  | .tableWrite => true
  | .flipArm => true
  | .flipCancel => true
  | .stageDiscard => true
  | .configWrite => true
  | .storeSave => true
  | .saveCompletion => true
  | .storeRecall => true
  | .recallCompletion => true
  | .storeProtect => true
  | .protectProgramCompletion => true
  | .storeProgramTimeout => true
  | .pageHoldExpiry => true
  | .storeReadCompletion => true
  | .leaderWindowEnd => true
  | .memberWindowEnd => true
  | .pulseEnd => true
  | .fallbackBlankingLinePeriod => true

end Sys2Proof
end

