-- ==== Sys2Proof/Decode.lean ====
section
/-! DEFINITION. Command words. No row of spec/opcode_table.json gives bits (every row's "fields" is
empty), so no word spells a command: the answer is none for every word. The byte layouts of the
packets that arrive INSIDE a control line are in Machine/Formats.lean and Machine/Parser.lean. -/

namespace Sys2Proof

/-- The command that a word of `nbits` bits spells by the table's bits: the table gives none. -/
def decodeTableWord (_nbits _w : Nat) : Option Instr := none

end Sys2Proof
end

