-- ==== Sys2Proof/Config.lean ====
section
/-! DEFINITION. The free values: what the spec leaves open and lets the part go on after. Each is a
constant with no body, so that nothing can be proved of its value; each is applied to the model's own
counter `State.tick`, which moves on at every use. -/

namespace Sys2Proof

/-- How many further entries of the image the loader, or a RECALL, has applied by the next command:
R174 and R175 fix the order of the entries and not the pace (R32 gives both orders of a hot change and
the recalled item). Log 13. -/
opaque Config.loaderPace : Nat → Nat

/-- How many further pieces of the image a SAVE has formed or programmed by the next command: R176 reads
each table entry as it stands when it is written, and fixes no pace. Log 16. -/
opaque Config.storePace : Nat → Nat

/-- How many pixels of the output line in progress had been sent when R13, R14 or R179 ends it at once.
Log 18. -/
opaque Config.pixelsSent : Nat → Nat

/-- How many bytes of the status packet on the return lane had been sent when the next output frame start
cuts it off, R166. Log 22. -/
opaque Config.bytesSent : Nat → Nat

/-- What a stopped erase had made of each byte of its 4-KB sector, by place 0 to 4095; R177. Log 30. -/
opaque Config.bytesLeft : Nat → Nat → Byte

/-- Which bits of a page a stopped page program had not yet cleared (a 1 bit: not reached), by the place of
the byte in the page; R177, R178, R179. Log 17, log 30. -/
opaque Config.bitsNotReached : Nat → Nat → Byte

/-- The bytes sent in the places of a price list that hold no value, by place 0 to 11: R163 stores no
value there and states none to send. Log 19. -/
opaque Config.unusedPriceByte : Nat → Byte

end Sys2Proof
end

