-- ==== Sys2Proof/Machine/State.lean ====
section
/-! DEFINITION. The state of the part, as plain data: one record for each block of the introduction's
block diagram, the queue of waiting commands, the reasons a step can stop, and the state right after
reset. -/

namespace Sys2Proof.Machine

/-! ### Reasons a step can stop -/

/-- Reasons the machine stops with a fault. The spec gives none: an error is an event flag or a refusal
recorded for the player (R158), and the part goes on. -/
inductive Fault where
deriving DecidableEq, Repr

/-- Reasons a command has no meaning. -/
inductive Refusal where
  /-- Raised by `exec` for a command not modelled yet. Safe: the model stops where the part goes on. -/
  | notModelled (mnemonic : String)
  /-- Raised by POWER_ON with strap levels that no wiring gives (`Straps.wellFormed`): R173 samples a
  board number of 0 to 7 and one of four store sizes. Safe: no such event exists. -/
  | strapsIllFormed
deriving DecidableEq, Repr

/-! ### Scene tables (Section 2) -/

/-- The two banks of R20. -/
inductive BankId where
  | a | b
deriving DecidableEq, Repr

/-- Kind of a region, R24. -/
inductive Kind where
  | off | fill | photo | price | badge
deriving DecidableEq, Repr

/-- State of an item, R31. -/
inductive ItemState where
  | available | soldOut | withdrawn
deriving DecidableEq, Repr

/-- Source field of a region: the figure of its item that a PRICE region shows, R30. -/
inductive Figure where
  | price0 | price1 | price2 | price3 | energy
deriving DecidableEq, Repr

/-- Align field of a region, R24. -/
inductive Align where
  | left | center | right
deriving DecidableEq, Repr

/-- Treatment field of a region, R24. -/
inductive Treatment where
  | none | dim | hide
deriving DecidableEq, Repr

/-- Symbol position of a style, R34: NONE, before the figure (the spec's first position), after it. -/
inductive SymbolPos where
  | none | before | after
deriving DecidableEq, Repr

/-- A region entry, R24. `pages` bit k is page k. -/
structure Region where
  kind : Kind
  x : Nat
  y : Nat
  width : Nat
  height : Nat
  level : Nat
  pages : BitVec 8
  item : Option Nat
  figure : Figure
  style : Nat
  photo : Nat
  align : Align
  treatment : Treatment
deriving DecidableEq, Repr

/-- An item entry, R31. -/
structure Item where
  state : ItemState
  prices : List Nat
  energy : Option Nat
deriving DecidableEq, Repr

/-- A style entry, R34. -/
structure Style where
  ink : Rgb
  inkOpacity : Byte
  box : Rgb
  boxOpacity : Byte
  glyphPhoto : Nat
  cellW : Nat
  cellH : Nat
  symbol : SymbolPos
  minorDigits : Nat
  grouping : Bool
  trim : Bool
  dim : Byte
  standby : Rgb
deriving DecidableEq, Repr

/-- A photo directory entry, R37. -/
structure Photo where
  valid : Bool
  area : Nat
  offset : Nat
  width : Nat
  height : Nat
deriving DecidableEq, Repr

/-- One bank: the four tables and the area reference counts, R20. -/
structure Bank where
  regions : List Region
  items : List Item
  styles : List Style
  photos : List Photo
  counts : List Nat
deriving DecidableEq, Repr

/-- Every region after a clear, R42. -/
def Region.cleared : Region :=
  ⟨.off, 0, 0, 1, 1, 0, 0, none, .price0, 0, 0, .left, .none⟩

/-- Every item after a clear, R42. -/
def Item.cleared : Item := ⟨.available, [], none⟩

/-- The reset style, R36. Its standby colour is black: every colour is. -/
def Style.cleared : Style :=
  ⟨.black, 0, .black, 0, 0, 4, 4, .none, 0, false, false, 0, .black⟩

/-- Every directory entry after a clear, R42. -/
def Photo.cleared : Photo := ⟨false, 0, 0, 1, 1⟩

/-- A bank after a clear, R42, with the table sizes of R20. -/
def Bank.cleared : Bank where
  regions := List.replicate 128 .cleared
  items := List.replicate 256 .cleared
  styles := List.replicate 16 .cleared
  photos := List.replicate 512 .cleared
  counts := List.replicate 32 0

/-- The scene table memory: both banks, and the bank selector (R20, R21). -/
structure Tables where
  a : Bank
  b : Bank
  active : BankId
deriving DecidableEq, Repr

/-! ### Link receiver and raster timing (Section 1) -/

/-- The configured raster settings, R4. -/
structure Settings where
  wAct : Nat
  hAct : Nat
  lossMs : Nat
  periodMs : Nat
  colour : Rgb
deriving DecidableEq, Repr

/-- The lock monitor's six states, 1.3. -/
inductive Lock where
  | unlocked | acquiring1 | acquiring2 | locked | slipping1 | slipping2
deriving DecidableEq, Repr

/-- The frame measurement, R3. -/
structure Measure where
  lines : Nat
  widthsOk : Bool
  complete : Bool
deriving DecidableEq, Repr

/-- The input frame in progress as the receiver sees it: how many control lines have come, and whether
an active line has (R2). -/
structure InFrame where
  controls : Nat
  activeSeen : Bool
deriving DecidableEq, Repr

/-- Source of the output raster, 1.4. -/
inductive Source where
  | input | fallback
deriving DecidableEq, Repr

/-- The frame raster record, R10. -/
structure FrameRecord where
  source : Source
  width : Nat
  height : Nat
  colour : Rgb
deriving DecidableEq, Repr

/-- Link receiver, lock monitor and raster timing. `period` is the fallback period of the frame in
progress (R5); `linePeriods` is how many line periods of the fallback frame have begun (R12);
`nextLine` is the number the next output line start carries (R15). -/
structure Raster where
  settings : Settings
  lock : Lock
  measure : Option Measure
  lossTimer : Option Nat
  inFrame : Option InFrame
  record : FrameRecord
  period : Nat
  linePeriods : Nat
  nextLine : Nat
deriving DecidableEq, Repr

/-- What the panel output carries for one output line, R17: nothing yet, a blanking line, pixels with
data-valid, or pixels cut short with the remainder as blanking (R13, R14). -/
inductive PanelLine where
  | nothing
  | blanking
  | pixels (px : List Rgb)
  | cut (px : List Rgb)
deriving DecidableEq, Repr

/-- The panel output pins: the line last sent, and whether it may still be on its way (R13, R14, R79). -/
structure Panel where
  line : PanelLine
  inProgress : Bool
deriving DecidableEq, Repr

/-! ### Scene controller (Section 7) -/

/-- Scene states, 7.1. -/
inductive Phase where
  | settled | seeding | editing | draining | armedLocal | armedGroup | committed | saving | recalling
deriving DecidableEq, Repr

/-- Mode of an armed flip, R120. -/
inductive FlipMode where
  | localOnly | group
deriving DecidableEq, Repr

/-- The armed record, R120. -/
structure Armed where
  mode : FlipMode
  window : Nat
  force : Bool
  tag : Nat
  entryPage : Option Nat
  uploadsAhead : Nat
deriving DecidableEq, Repr

/-- A TABLE_WRITE as the parser accepts it: head fields unchecked, entry bytes as sent (R163). -/
structure TableWriteCmd where
  table : Nat
  start : Nat
  step : Nat
  count : Nat
  mask : Nat
  data : List Byte
deriving DecidableEq, Repr

/-- A FLIP_ARM as the parser accepts it, with the uploads-ahead count the parser gives it (R126). -/
structure FlipArmCmd where
  mode : Nat
  window : Nat
  force : Nat
  tag : Nat
  entryPage : Nat
  ahead : Nat
deriving DecidableEq, Repr

/-- An entry of the table queue, R121, R156. -/
inductive TableCmd where
  | stageOpen
  | tableWrite (w : TableWriteCmd)
  | flipArm (f : FlipArmCmd)
  | flipCancel
  | stageDiscard
  | configWrite (mask : Nat) (data : List Byte)
  | storeSave
  | storeRecall
  | storeProtect (blocks : BitVec 16)
  | restart
deriving DecidableEq, Repr

/-- A rectangle of the canvas, R170. -/
structure Rect where
  x : Nat
  y : Nat
  width : Nat
  height : Nat
deriving DecidableEq, Repr

/-- An entry of the hot queue, R132, R161. -/
inductive HotCmd where
  | itemState (item state : Nat)
  | pageSet (page : Nat)
  | pagePush (page duration threshold : Nat)
  | pagePop
  | thresholdSet (threshold : Nat)
  | watchSet (r : Rect)
  | eventClear (mask : BitVec 24)
deriving DecidableEq, Repr

/-- An entry of the page stack, R134. -/
structure StackEntry where
  page : Nat
  hold : Option Nat
  threshold : Nat
deriving DecidableEq, Repr

/-- The scene controller. The stack's head is its top. -/
structure Scene where
  phase : Phase
  armed : Option Armed
  tableQ : List TableCmd
  hotQ : List HotCmd
  page : Nat
  stack : List StackEntry
  hold : Option Nat
  threshold : Nat
  tag : Nat
  generation : Nat
deriving DecidableEq, Repr

/-! ### Overlay builder (Section 3) -/

/-- The frame view, R46. `duringLoad` marks a view frozen while the start-up load runs, from which the
builder selects no region (R67). -/
structure View where
  bank : BankId
  page : Nat
  threshold : Nat
  width : Nat
  height : Nat
  duringLoad : Bool
deriving DecidableEq, Repr

/-- A photo as a list entry holds it: base tile, width and height in tiles (R38, R52). -/
structure PhotoRef where
  base : Nat
  width : Nat
  height : Nat
deriving DecidableEq, Repr

/-- The laid-out text of a PRICE region, R83. -/
structure TextRec where
  glyphs : List Nat
  advances : List Nat
  width : Nat
  x0 : Nat
  y0 : Nat
  cellW : Nat
  cellH : Nat
  photo : PhotoRef
deriving DecidableEq, Repr

/-- Progress of a line list entry, R52. -/
inductive Progress where
  | notStarted
  | inProgress (next : Nat)
  | done
deriving DecidableEq, Repr

/-- A line list entry, R52. `x` is the region's x; `span` is the first and last column, or none. -/
structure LineEntry where
  region : Nat
  kind : Kind
  style : Style
  x : Nat
  span : Option (Nat × Nat)
  dimmed : Bool
  photoRow : Nat
  photo : Option PhotoRef
  text : Option TextRec
  progress : Progress
deriving DecidableEq, Repr

/-- The line in hand and its line list. -/
structure Work where
  line : Nat
  entries : List LineEntry
deriving DecidableEq, Repr

/-- What the builder waits for at a column, R56, R99, R102. -/
inductive Wait where
  | nothing
  | fill (tile sector : Nat)
  | room
  | way
deriving DecidableEq, Repr

/-- The builder's reading of sectors for the region in progress on the line in hand: the sector the
column before was taken from (R56), the sectors already read (R107), a prefetch still to be
considered once the demand entry is made (R107), and what it waits for. -/
structure Reader where
  held : Option (Nat × Nat)
  seen : List (Nat × Nat)
  owed : Bool
  wait : Wait
deriving DecidableEq, Repr

/-- A layer sample, R57. -/
structure Sample where
  colour : Rgb
  coverage : Byte
deriving DecidableEq, Repr

/-- The layer slots of a pixel, slot 1 first, and its closed mark (R57). -/
structure Pixel where
  slots : List Sample
  closed : Bool
deriving DecidableEq, Repr

/-- A ring entry in use, R60: its line, and the pixels that hold a sample, by rising column; every
other pixel is empty and open. -/
structure RingEntry where
  line : Nat
  pixels : List (Nat × Pixel)
deriving DecidableEq, Repr

/-- The overlay builder. `nextLine` is the next line it takes up (R47). -/
structure Builder where
  view : Option View
  work : Option Work
  nextLine : Nat
  reader : Reader
  ring : List RingEntry
  late : Nat
deriving DecidableEq, Repr

/-! ### Tile cache, fill unit and library memory (Section 6) -/

/-- One sector of a cache line, R98: its bytes where it is valid, and its fill-in-flight mark. -/
structure SectorSlot where
  data : Option (List Byte)
  inFlight : Bool
deriving DecidableEq, Repr

/-- A cache line, R98. -/
structure CacheLine where
  tag : Option Nat
  sectors : List SectorSlot
  confidence : Nat
deriving DecidableEq, Repr

/-- An entry of the fill queue, R103. -/
structure Fill where
  tile : Nat
  sector : Nat
  demand : Bool
  void : Bool
  granted : Bool
deriving DecidableEq, Repr

/-- A granted read under way with the bytes it took at its grant, R109. -/
structure GrantedRead where
  tile : Nat
  sector : Nat
  bytes : List Byte
deriving DecidableEq, Repr

/-- The tile cache and the fill unit: 32 sets of 4 ways, the fill queue, the reads under way in the
order of their grants. -/
structure Cache where
  sets : List (List CacheLine)
  fills : List Fill
  reads : List GrantedRead
deriving DecidableEq, Repr

/-- An entry of the upload queue, R110. -/
structure Upload where
  tile : Nat
  sector : Nat
  bytes : List Byte
deriving DecidableEq, Repr

/-- A credit window in progress, R113. -/
structure CreditWindow where
  length : Nat
  limit : Nat
  lines : Nat
  grants : Nat
deriving DecidableEq, Repr

/-- Library memory and its controller. -/
structure Library where
  mem : List Host.Cell
  uploads : List Upload
  creditLines : Nat
  creditLimit : Nat
  window : Option CreditWindow
deriving DecidableEq, Repr

/-! ### Group sync unit (Section 8) -/

/-- Role of a part, R140. -/
inductive Role where
  | leader | member
deriving DecidableEq, Repr

/-- The group sync unit, and the group lines as the other parts leave them (`true`: released). -/
structure Group where
  role : Role
  participation : Bool
  window : Option Nat
  pulse : Option Nat
  filterHigh : Bool
  filterRun : Nat
  othersReady : Bool
  othersFlip : Bool
deriving DecidableEq, Repr

/-! ### Status unit (Section 10) -/

/-- The 19 event flags in the order of R164. -/
inductive Flag where
  | packetBad | tableFull | hotFull | uploadFull | readFull | refused | lateLine | lineFull
  | overlapClipped | priceOverflow | glyphFault | photoMissing | inputLost | geometryMismatch
  | flipTimeout | missedFlip | stackWrap | stackEmpty | storeFault
deriving DecidableEq, Repr

/-- The last-refusal record, R168. -/
structure LastRefusal where
  packet : Nat
  reason : Nat
  table : Nat
  index : Nat
deriving DecidableEq, Repr

/-- A READ_BACK request, R161: target 1 active, 2 staging, 3 store. -/
structure ReadReq where
  target : Nat
  table : Nat
  index : Nat
deriving DecidableEq, Repr

/-- A reply, R164. -/
structure Reply where
  target : Nat
  table : Nat
  index : Nat
  result : Nat
  data : List Byte
deriving DecidableEq, Repr

/-- The watch computation of the frame in progress, R170: running CRC, lines covered, and whether every
pixel so far was sent. -/
structure WatchRun where
  crc : BitVec 16
  rows : Nat
  whole : Bool
deriving DecidableEq, Repr

/-- A status packet begun at an output frame start and not yet complete, R166. -/
structure StatusDraft where
  lock : Lock
  late : Nat
  watch : Option (BitVec 16)
  uploadFree : Nat
  readFree : Nat
  request : Option ReadReq
  reply : Option Reply
deriving DecidableEq, Repr

/-- The status unit. `framed`: an output frame start has come since reset. `lane` is the packet that the
return lane has sent, or is sending, since the last scene settled; `laneBefore` is the packet before it, as
far as the lane carried it (R166). -/
structure Status where
  frameCount : BitVec 32
  framed : Bool
  flags : BitVec 19
  refusal : Option LastRefusal
  readQ : List ReadReq
  storeRead : Option ReadReq
  storeReply : Option Reply
  watch : Option Rect
  watchRun : WatchRun
  draft : Option StatusDraft
  lane : List Byte
  laneBefore : List Byte
deriving DecidableEq, Repr

/-! ### Store controller and loader (Section 11) -/

/-- Store states, R164, R174. -/
inductive StoreState where
  | none | loading | unprogrammed | loaded | failed
deriving DecidableEq, Repr

/-- A piece of the image that a save writes: the bytes that open a section, one table entry (table
code, index), or the section CRC (R165, R176). -/
inductive SaveUnit where
  | start (bytes : List Byte)
  | entry (table index : Nat)
  | crc
deriving DecidableEq, Repr

/-- A save in progress, R176, R177. `areas` are the pinned areas still to read, the head in progress
at sector `sector` of its 4096; `addr` is where the next page program starts, and `page` holds the bytes
formed for the store from there on and not yet programmed. -/
structure SaveJob where
  seeded : Bool
  units : List SaveUnit
  areas : List Nat
  sector : Nat
  addr : Nat
  page : List Byte
  crc : BitVec 16
  nAreas : Nat
deriving DecidableEq, Repr

/-- The store controller and loader, with the attached serial store. A mark of 0 means protected. -/
structure Store where
  flash : List Host.Cell
  writeMarks : BitVec 16
  readMarks : BitVec 16
  state : StoreState
  imagePos : Nat
  protectJob : Option (BitVec 16)
  save : Option SaveJob
deriving DecidableEq, Repr

/-! ### The whole -/

/-- The state of the part. `straps` are the values sampled at power-on (R173); `pending` is the queue
of waiting commands; `tick` is the model's own counter for free values. -/
structure State where
  pending : List Instr
  straps : Straps
  raster : Raster
  panel : Panel
  tables : Tables
  scene : Scene
  builder : Builder
  cache : Cache
  library : Library
  group : Group
  status : Status
  store : Store
  tick : Nat
deriving DecidableEq, Repr

/-! ### Reset values -/

/-- R19, R4: the raster block at the start of the first fallback frame. -/
def Raster.atReset : Raster where
  settings := ⟨1920, 1080, 100, 16, .black⟩
  lock := .unlocked
  measure := none
  lossTimer := none
  inFrame := none
  record := ⟨.fallback, 1920, 1080, .black⟩
  period := 16
  linePeriods := 0
  nextLine := 0

/-- R138. -/
def Scene.atReset : Scene where
  phase := .settled
  armed := none
  tableQ := []
  hotQ := []
  page := 0
  stack := []
  hold := none
  threshold := 0
  tag := 0
  generation := 0

/-- The builder reads nothing. -/
def Reader.idle : Reader := ⟨none, [], false, .nothing⟩

/-- R44. -/
def Builder.atReset : Builder where
  view := none
  work := none
  nextLine := 0
  reader := .idle
  ring := []
  late := 0

/-- A line that holds no tile, R118. -/
def CacheLine.atReset : CacheLine := ⟨none, List.replicate 4 ⟨none, false⟩, 0⟩

/-- R118. -/
def Cache.atReset : Cache := ⟨List.replicate 32 (List.replicate 4 .atReset), [], []⟩

/-- R171. -/
def Status.atReset : Status where
  frameCount := 0
  framed := false
  flags := 0
  refusal := none
  readQ := []
  storeRead := none
  storeReply := none
  watch := none
  watchRun := ⟨0xFFFF, 0, true⟩
  draft := none
  lane := []
  laneBefore := []

/-- The packet of the first fallback frame after a reset with the straps of `State.reset` (R164, R171):
frame count 0, UNLOCKED, SETTLED, every queue free (64, 16, 32, 4), store state LOADING; its last two bytes are its
check value (R152). -/
def resetPacket : List Byte :=
  [0x50, 0x01, 0x00, 0x22,
   0, 0, 0, 0, 0, 0, 0, 0, 0, 0, 0, 0, 0, 0, 0, 64, 16, 32, 4, 0, 0, 0, 0, 0, 0, 0, 0, 0, 0, 0, 0, 0, 1, 0,
   0xC6, 0xFC]

/-- The part right after reset: what POWER_ON leaves with BOARD 0, ROLE MEMBER, GROUP off and no store
strapped (log 12), its first fallback frame begun (R19), its first packet sent (R171), its start-up
load still to end (R174), library memory and store as log 10 and log 11 say. -/
def State.reset : State where
  pending := []
  straps := ⟨0, false, false, 0⟩
  raster := .atReset
  panel := ⟨.nothing, false⟩
  tables := ⟨.cleared, .cleared, .a⟩
  scene := .atReset
  builder :=
    { Builder.atReset with
      view := some ⟨.a, 0, 0, 1920, 1080, true⟩
      nextLine := 4
      ring := [⟨0, []⟩, ⟨1, []⟩, ⟨2, []⟩, ⟨3, []⟩] }
  cache := .atReset
  library := ⟨[], [], 0, 255, none⟩
  group := ⟨.member, false, none, none, false, 0, true, true⟩
  status := { Status.atReset with framed := true, lane := resetPacket }
  store := ⟨[], 0xFFFF, 0xFFFF, .loading, 0, none, none⟩
  tick := 0

end Sys2Proof.Machine
end

