-- ==== Sys2Proof/Machine/Flags.lean ====
section
/-! DEFINITION. The event flags of the status unit (R164, R167) and the last-refusal record (R168). -/

namespace Sys2Proof.Machine

/-- The number of a flag in the status packet's list, R164. -/
def Flag.bit : Flag → Nat
  | .packetBad => 0
  | .tableFull => 1
  | .hotFull => 2
  | .uploadFull => 3
  | .readFull => 4
  | .refused => 5
  | .lateLine => 6
  | .lineFull => 7
  | .overlapClipped => 8
  | .priceOverflow => 9
  | .glyphFault => 10
  | .photoMissing => 11
  | .inputLost => 12
  | .geometryMismatch => 13
  | .flipTimeout => 14
  | .missedFlip => 15
  | .stackWrap => 16
  | .stackEmpty => 17
  | .storeFault => 18

/-- The mask with the one bit of a flag. -/
def Flag.mask (f : Flag) : BitVec 19 := (1 : BitVec 19) <<< f.bit

/-- The flag is set. -/
def State.flagged (s : State) (f : Flag) : Bool := s.status.flags.getLsbD f.bit

/-- A cause of the flag: the flag is set, whatever its state (R167). -/
def State.raise (f : Flag) (s : State) : State :=
  { s with status := { s.status with flags := s.status.flags ||| f.mask } }

/-- Set every flag of a list. -/
def State.raiseAll : List Flag → State → State
  | [], s => s
  | f :: fs, s => State.raiseAll fs (s.raise f)

/-- EVENT_CLEAR: every flag whose bit is set in the mask is cleared; bits 19 to 23 are ignored (R167). -/
def State.clearFlags (mask : BitVec 24) (s : State) : State :=
  { s with status := { s.status with flags := s.status.flags &&& ~~~(mask.setWidth 19) } }

/-- The reasons of R158 with their codes. -/
inductive Reason where
  | state | range | busy | mode | areaPinned | isProtected | noRoom
deriving DecidableEq, Repr

/-- Code of a reason in the record, R158. -/
def Reason.code : Reason → Nat
  | .state => 1
  | .range => 2
  | .busy => 3
  | .mode => 4
  | .areaPinned => 5
  | .isProtected => 6
  | .noRoom => 7

/-- A refusal made by an owner: REFUSED is set and the whole last-refusal record is overwritten; a rule
that names no table or index gives 0 for each (R121, R168). -/
def State.refuse (packet : Nat) (why : Reason) (table index : Nat) (s : State) : State :=
  { s with
    status :=
      { s.status with
        flags := s.status.flags ||| Flag.refused.mask
        refusal := some ⟨packet, why.code, table, index⟩ } }

end Sys2Proof.Machine
end

