-- ==== Sys2Proof/Machine/Operands.lean ====
section
/-! DEFINITION. How the operands of commands and the fields of byte layouts are read: the byte stream of
a control line (R2), multi-byte values (most significant byte first), and the 16-bit check value. -/

namespace Sys2Proof.Machine

/-- The bytes of pixel columns, left to right, in the order R, G, B. -/
def columnBytes : List Rgb → List Byte
  | [] => []
  | c :: cs => c.r :: c.g :: c.b :: columnBytes cs

/-- The byte stream of a control line: the first W_ACT columns that arrived (R2). -/
def lineStream (wAct : Nat) (cols : List Rgb) : List Byte := columnBytes (cols.take wAct)

/-- Value of bytes sent most significant byte first. -/
def beValue (bs : List Byte) : Nat := bs.foldl (fun n b => n * 256 + b.toNat) 0

/-- A value as `n` bytes, most significant byte first. -/
def beBytes : Nat → Nat → List Byte
  | 0, _ => []
  | n + 1, v => BitVec.ofNat 8 (v / 256 ^ n) :: beBytes n v

/-- The field of `len` bytes at offset `off` as a value. -/
def fieldAt (off len : Nat) (bs : List Byte) : Nat := beValue ((bs.drop off).take len)

/-- Lengthen a list to `n` bytes with zeros, or cut it there. -/
def padTo (n : Nat) (bs : List Byte) : List Byte := (bs ++ List.replicate n 0).take n

/-- One left shift of the CRC register: if the bit shifted out of the top was 1, exclusive-or with
1021 hex (R152). -/
def crcShift (c : BitVec 16) : BitVec 16 :=
  if c.getLsbD 15 then (c <<< 1) ^^^ 0x1021 else c <<< 1

/-- One byte: exclusive-or into the upper 8 bits, then eight shifts (R152). -/
def crcByte (c : BitVec 16) (b : Byte) : BitVec 16 :=
  let c0 := c ^^^ ((b.setWidth 16) <<< 8)
  crcShift (crcShift (crcShift (crcShift (crcShift (crcShift (crcShift (crcShift c0)))))))

/-- The register after more bytes. -/
def crcMore (c : BitVec 16) (bs : List Byte) : BitVec 16 := bs.foldl crcByte c

/-- The check value of R152: the register starts at FFFF hex. -/
def crc16 (bs : List Byte) : BitVec 16 := crcMore 0xFFFF bs

/-- A check value as it is carried: the upper byte first (R152). -/
def crcBytes (c : BitVec 16) : List Byte := [(c >>> 8).setWidth 8, c.setWidth 8]

end Sys2Proof.Machine
end

