-- ==== Sys2Proof/Machine/Ops.lean ====
section
/-! DEFINITION. The shared operations over memories, banks and queues. -/

namespace Sys2Proof.Machine

/-! ### Byte memories in canonical form -/

/-- The byte at an address; an address the list does not hold reads as `d`. -/
def memRead (d : Byte) : List Host.Cell → Nat → Byte
  | [], _ => d
  | (k, v) :: m, a => if a = k then v else memRead d m a

/-- Write one byte, keeping addresses strictly rising and no entry equal to `d`. -/
def memWrite (d : Byte) : List Host.Cell → Nat → Byte → List Host.Cell
  | [], a, b => if b = d then [] else [(a, b)]
  | (k, v) :: m, a, b =>
    if a < k then (if b = d then (k, v) :: m else (a, b) :: (k, v) :: m)
    else if a = k then (if b = d then m else (a, b) :: m)
    else (k, v) :: memWrite d m a b

/-- The canonical form: addresses strictly rising, no entry equal to what an unlisted address reads as. -/
def memWf (d : Byte) : List Host.Cell → Bool
  | [] => true
  | (k, v) :: m => decide (v ≠ d) && m.all (fun c => decide (k < c.1)) && memWf d m

/-- `n` bytes from an address on. -/
def memReadBytes (d : Byte) (m : List Host.Cell) (a : Nat) : Nat → List Byte
  | 0 => []
  | n + 1 => memRead d m a :: memReadBytes d m (a + 1) n

/-- Bytes written from an address on. -/
def memWriteBytes (d : Byte) : List Host.Cell → Nat → List Byte → List Host.Cell
  | m, _, [] => m
  | m, a, b :: bs => memWriteBytes d (memWrite d m a b) (a + 1) bs

/-- What a byte of library memory that nothing has written since power-on reads as. DESIGN CHOICE, log 10:
R97 leaves it unspecified but stable. -/
def libraryFill : Byte := 0

/-- What an erased byte of the serial store reads as, R172. -/
def flashFill : Byte := 0xFF

/-- One byte of library memory. -/
def State.libByte (s : State) (a : Nat) : Byte := memRead libraryFill s.library.mem a

/-- One byte of the serial store. -/
def State.flashByte (s : State) (a : Nat) : Byte := memRead flashFill s.store.flash a

/-- Address of the first byte of a sector in library memory, R96. -/
def sectorAddr (tile sector : Nat) : Nat := tile * 1024 + sector * 256

/-- The 256 bytes of a sector as library memory holds them. -/
def State.librarySector (s : State) (tile sector : Nat) : List Byte :=
  memReadBytes libraryFill s.library.mem (sectorAddr tile sector) 256

/-- One byte of a page program: bits turn from 1 to 0 but not back (R172). -/
def flashProgramByte (m : List Host.Cell) (a : Nat) (b : Byte) : List Host.Cell :=
  memWrite flashFill m a (memRead flashFill m a &&& b)

/-- An erase of the 4-KB sector that holds an address: every byte becomes FF hex (R172). -/
def flashErase (m : List Host.Cell) (a : Nat) : List Host.Cell :=
  m.filter (fun c => decide (c.1 / 4096 ≠ a / 4096))

/-- Size of a program page, R172. -/
def pageSize : Nat := 256

/-- How many bytes lie from an address to the end of its program page. -/
def pageRoom (a : Nat) : Nat := pageSize - a % pageSize

/-- A page program of bytes from an address on: bits turn from 1 to 0 but not back (R172). Every caller keeps
the bytes within the page of the address. -/
def flashProgramPage : List Host.Cell → Nat → List Byte → List Host.Cell
  | m, _, [] => m
  | m, a, b :: bs => flashProgramPage (flashProgramByte m a b) (a + 1) bs

/-- A page program of a save: a page that starts a 4-KB sector has the sector erased before it (R177). -/
def flashWritePage (m : List Host.Cell) (a : Nat) (bs : List Byte) : List Host.Cell :=
  flashProgramPage (if a % 4096 = 0 then flashErase m a else m) a bs

/-- A page program of a save stops before its end (R177), the bytes not yet formed taken as free too: at the
start of a sector the erase may be what stopped, and the whole sector is free; otherwise each bit of the page
is cleared or not yet. Both are free values (log 30). -/
def flashStopPage (tick : Nat) (m : List Host.Cell) (a : Nat) (bs : List Byte) : List Host.Cell :=
  if a % 4096 = 0 then memWriteBytes flashFill m a ((List.range 4096).map (Config.bytesLeft tick))
  else
    flashProgramPage m a
      ((List.range (pageRoom a)).map fun i =>
        bs.getD i 0 ||| Config.bitsNotReached tick (a % pageSize + i))

/-! ### Banks -/

/-- The other bank. -/
def BankId.other : BankId → BankId
  | .a => .b
  | .b => .a

/-- A bank by its letter. -/
def Tables.bank (t : Tables) : BankId → Bank
  | .a => t.a
  | .b => t.b

/-- Replace a bank. -/
def Tables.setBank (t : Tables) (i : BankId) (k : Bank) : Tables :=
  match i with
  | .a => { t with a := k }
  | .b => { t with b := k }

/-- The active bank, R20. -/
def State.activeBank (s : State) : Bank := s.tables.bank s.tables.active

/-- The staging bank, R20. -/
def State.stagingBank (s : State) : Bank := s.tables.bank s.tables.active.other

/-- Replace the active bank's contents. -/
def State.setActive (k : Bank) (s : State) : State :=
  { s with tables := s.tables.setBank s.tables.active k }

/-- Replace the staging bank's contents. -/
def State.setStaging (k : Bank) (s : State) : State :=
  { s with tables := s.tables.setBank s.tables.active.other k }

/-- A region of a bank; every index field names an existing entry (R23). -/
def Bank.region (k : Bank) (i : Nat) : Region := k.regions.getD i .cleared

/-- An item of a bank. -/
def Bank.item (k : Bank) (i : Nat) : Item := k.items.getD i .cleared

/-- A style of a bank. -/
def Bank.style (k : Bank) (i : Nat) : Style := k.styles.getD i .cleared

/-- A directory entry of a bank. -/
def Bank.photo (k : Bank) (i : Nat) : Photo := k.photos.getD i .cleared

/-- The area reference count of an area, R40. -/
def Bank.count (k : Bank) (area : Nat) : Nat := k.counts.getD area 0

/-- Write a region. -/
def Bank.setRegion (k : Bank) (i : Nat) (r : Region) : Bank := { k with regions := k.regions.set i r }

/-- Write an item. -/
def Bank.setItem (k : Bank) (i : Nat) (it : Item) : Bank := { k with items := k.items.set i it }

/-- Write a style. -/
def Bank.setStyle (k : Bank) (i : Nat) (st : Style) : Bank := { k with styles := k.styles.set i st }

/-- First step of R40: if the entry was valid, the count of its old area is decreased by 1. -/
def countOut (p : Photo) (counts : List Nat) : List Nat :=
  if p.valid then counts.set p.area (counts.getD p.area 0 - 1) else counts

/-- Second step of R40: if the entry is valid after the write, the count of its new area is increased
by 1. -/
def countIn (p : Photo) (counts : List Nat) : List Nat :=
  if p.valid then counts.set p.area (counts.getD p.area 0 + 1) else counts

/-- Write a directory entry, the counts following in the two steps of R40. -/
def Bank.setPhoto (k : Bank) (i : Nat) (p : Photo) : Bank :=
  { k with
    photos := k.photos.set i p
    counts := countIn p (countOut (k.photo i) k.counts) }

/-- The state field alone of an item. -/
def Bank.setItemState (k : Bank) (i : Nat) (st : ItemState) : Bank :=
  k.setItem i { k.item i with state := st }

/-- The area of a tile, R96. -/
def tileArea (tile : Nat) : Nat := tile / 1024

/-- An area whose count in the active bank is nonzero is pinned, R41. -/
def State.pinned (s : State) (area : Nat) : Bool := s.activeBank.count area != 0

/-- The areas pinned now, ascending. -/
def State.pinnedAreas (s : State) : List Nat := (List.range 32).filter s.pinned

/-! ### Conditions other blocks observe -/

/-- The table engine is busy from the taking of an accepted STAGE_OPEN, STORE_SAVE or STORE_RECALL to the
end of its operation, R121. -/
def State.engineBusy (s : State) : Bool :=
  s.scene.phase == .seeding || s.scene.phase == .saving || s.scene.phase == .recalling

/-- The start-up load is running, R174. -/
def State.loading (s : State) : Bool := s.store.state == .loading

/-- The output follows the input, R11. -/
def State.followsInput (s : State) : Bool :=
  match s.raster.lock with
  | .unlocked | .acquiring1 | .acquiring2 => false
  | .locked | .slipping1 | .slipping2 => true

/-- A part with participation on releases GRP_READY in ARMED-group and COMMITTED; a part with
participation off always does (R139). -/
def State.releasesReady (s : State) : Bool :=
  !s.group.participation || s.scene.phase == .armedGroup || s.scene.phase == .committed

/-- The leader's pulse is running: line starts are still to come (R144). -/
def State.pulsing (s : State) : Bool :=
  match s.group.pulse with
  | some n => n != 0
  | none => false

/-- GRP_FLIP is held low by a LEADER with participation on, except while its pulse runs (R139). -/
def State.releasesFlip (s : State) : Bool :=
  !(s.group.participation && s.group.role == .leader) || s.pulsing

/-- The level of GRP_READY: high when every part releases it, this one included (R139). -/
def State.readyHigh (s : State) : Bool := s.group.othersReady && s.releasesReady

/-- The level of GRP_FLIP (R139). -/
def State.flipHigh (s : State) : Bool := s.group.othersFlip && s.releasesFlip

/-- A free value has been used: the next use takes another. -/
def State.nextTick (s : State) : State := { s with tick := s.tick + 1 }

end Sys2Proof.Machine
end

