-- ==== Sys2Proof/Machine/Formats.lean ====
section
/-! DEFINITION. Byte layouts of table entries and configuration fields (R159, R163): how masked fields
are read, checked and clamped, and the full encoding of an entry. -/

namespace Sys2Proof.Machine

/-! ### Codes -/

/-- Kind codes, R163. -/
def kindOfCode : Nat → Option Kind
  | 0 => some .off
  | 1 => some .fill
  | 2 => some .photo
  | 3 => some .price
  | 4 => some .badge
  | _ => none

/-- Kind codes, R163. -/
def Kind.code : Kind → Nat
  | .off => 0
  | .fill => 1
  | .photo => 2
  | .price => 3
  | .badge => 4

/-- Source codes, R163. -/
def figureOfCode : Nat → Option Figure
  | 0 => some .price0
  | 1 => some .price1
  | 2 => some .price2
  | 3 => some .price3
  | 4 => some .energy
  | _ => none

/-- Source codes, R163. -/
def Figure.code : Figure → Nat
  | .price0 => 0
  | .price1 => 1
  | .price2 => 2
  | .price3 => 3
  | .energy => 4

/-- Align codes, R163. -/
def alignOfCode : Nat → Option Align
  | 0 => some .left
  | 1 => some .center
  | 2 => some .right
  | _ => none

/-- Align codes, R163. -/
def Align.code : Align → Nat
  | .left => 0
  | .center => 1
  | .right => 2

/-- Treatment codes, R163. -/
def treatmentOfCode : Nat → Option Treatment
  | 0 => some .none
  | 1 => some .dim
  | 2 => some .hide
  | _ => none

/-- Treatment codes, R163. -/
def Treatment.code : Treatment → Nat
  | .none => 0
  | .dim => 1
  | .hide => 2

/-- Item state codes, R163. -/
def itemStateOfCode : Nat → Option ItemState
  | 0 => some .available
  | 1 => some .soldOut
  | 2 => some .withdrawn
  | _ => none

/-- Item state codes, R163. -/
def ItemState.code : ItemState → Nat
  | .available => 0
  | .soldOut => 1
  | .withdrawn => 2

/-- Symbol position codes, R163. -/
def symbolOfCode : Nat → Option SymbolPos
  | 0 => some .none
  | 1 => some .before
  | 2 => some .after
  | _ => none

/-- Symbol position codes, R163. -/
def SymbolPos.code : SymbolPos → Nat
  | .none => 0
  | .before => 1
  | .after => 2

/-- Boolean fields: 0 off or no, 1 on or yes; other values are out of range (R163). -/
def boolOfCode : Nat → Option Bool
  | 0 => some false
  | 1 => some true
  | _ => none

/-- Boolean fields, R163. -/
def boolCode (b : Bool) : Nat := if b then 1 else 0

/-- A value kept where it lies within a range, both ends included. -/
def inRange (lo hi v : Nat) : Option Nat := if lo ≤ v ∧ v ≤ hi then some v else none

/-- Three bytes as a colour, R, G, B. -/
def rgbOf (bs : List Byte) : Rgb := ⟨bs.getD 0 0, bs.getD 1 0, bs.getD 2 0⟩

/-- A colour as three bytes. -/
def rgbBytes (c : Rgb) : List Byte := [c.r, c.g, c.b]

/-! ### Fields of table entries -/

/-- Sizes in bytes of the fields of each table by mask bit, R163; table codes 1 region, 2 item, 3 style,
4 directory. -/
def fieldSizes : Nat → List Nat
  | 1 => [1, 2, 2, 2, 2, 1, 1, 2, 1, 1, 2, 1, 1]
  | 2 => [1, 13, 2]
  | 3 => [3, 1, 3, 1, 2, 1, 1, 1, 1, 1, 1, 1, 3]
  | 4 => [1, 1, 2, 1, 1]
  | _ => []

/-- Entries of each table, R20; code 5 is the area reference counts. -/
def tableSize : Nat → Nat
  | 1 => 128
  | 2 => 256
  | 3 => 16
  | 4 => 512
  | 5 => 32
  | _ => 0

/-- Sum of the sizes of the fields whose mask bits are set, R157; `bit` is the first field's bit. -/
def maskedSize (mask : Nat) : List Nat → Nat → Nat
  | [], _ => 0
  | n :: ns, bit => (if mask.testBit bit then n else 0) + maskedSize mask ns (bit + 1)

/-- The mask that names every field of a table. -/
def fullMask (table : Nat) : Nat := 2 ^ (fieldSizes table).length - 1

/-- Write the masked fields of one entry in ascending order of mask bit; none where a value lies outside
its field's range (R123). -/
def writeMasked {α : Type} (f : Nat → List Byte → α → Option α) (mask : Nat) :
    List Nat → Nat → List Byte → α → Option α
  | [], _, _, e => some e
  | n :: ns, bit, bs, e =>
    if mask.testBit bit then
      match f bit (bs.take n) e with
      | none => none
      | some e' => writeMasked f mask ns (bit + 1) (bs.drop n) e'
    else writeMasked f mask ns (bit + 1) bs e

/-- One field of a region, R24, R163. -/
def regionField (bit : Nat) (bs : List Byte) (r : Region) : Option Region :=
  let v := beValue bs
  match bit with
  | 0 => (kindOfCode v).map fun k => { r with kind := k }
  | 1 => (inRange 0 4095 v).map fun n => { r with x := n }
  | 2 => (inRange 0 4095 v).map fun n => { r with y := n }
  | 3 => (inRange 1 4095 v).map fun n => { r with width := n }
  | 4 => (inRange 1 4095 v).map fun n => { r with height := n }
  | 5 => (inRange 0 7 v).map fun n => { r with level := n }
  | 6 => some { r with pages := BitVec.ofNat 8 v }
  | 7 => if v = 0xFFFF then some { r with item := none }
         else (inRange 0 255 v).map fun n => { r with item := some n }
  | 8 => (figureOfCode v).map fun k => { r with figure := k }
  | 9 => (inRange 0 15 v).map fun n => { r with style := n }
  | 10 => (inRange 0 511 v).map fun n => { r with photo := n }
  | 11 => (alignOfCode v).map fun k => { r with align := k }
  | 12 => (treatmentOfCode v).map fun k => { r with treatment := k }
  | _ => none

/-- A price list of R163: a length byte 0 to 4 and four 3-byte values, of which the first `length` are
used and checked (R31: each 0 to 999,999). -/
def priceList (bs : List Byte) : Option (List Nat) :=
  let n := fieldAt 0 1 bs
  let vs := (List.range n).map fun k => fieldAt (1 + 3 * k) 3 bs
  if n ≤ 4 ∧ vs.all (fun v => decide (v ≤ 999999)) = true then some vs else none

/-- One field of an item, R31, R163. -/
def itemField (bit : Nat) (bs : List Byte) (it : Item) : Option Item :=
  let v := beValue bs
  match bit with
  | 0 => (itemStateOfCode v).map fun k => { it with state := k }
  | 1 => (priceList bs).map fun ps => { it with prices := ps }
  | 2 => if v = 0xFFFF then some { it with energy := none }
         else (inRange 0 9999 v).map fun n => { it with energy := some n }
  | _ => none

/-- One field of a style, R34, R163. -/
def styleField (bit : Nat) (bs : List Byte) (st : Style) : Option Style :=
  let v := beValue bs
  match bit with
  | 0 => some { st with ink := rgbOf bs }
  | 1 => some { st with inkOpacity := BitVec.ofNat 8 v }
  | 2 => some { st with box := rgbOf bs }
  | 3 => some { st with boxOpacity := BitVec.ofNat 8 v }
  | 4 => (inRange 0 511 v).map fun n => { st with glyphPhoto := n }
  | 5 => (inRange 4 64 v).map fun n => { st with cellW := n }
  | 6 => (inRange 4 64 v).map fun n => { st with cellH := n }
  | 7 => (symbolOfCode v).map fun k => { st with symbol := k }
  | 8 => if v = 0 ∨ v = 2 ∨ v = 3 then some { st with minorDigits := v } else none
  | 9 => (boolOfCode v).map fun k => { st with grouping := k }
  | 10 => (boolOfCode v).map fun k => { st with trim := k }
  | 11 => some { st with dim := BitVec.ofNat 8 v }
  | 12 => some { st with standby := rgbOf bs }
  | _ => none

/-- One field of a directory entry, R37, R163. -/
def photoField (bit : Nat) (bs : List Byte) (p : Photo) : Option Photo :=
  let v := beValue bs
  match bit with
  | 0 => (boolOfCode v).map fun k => { p with valid := k }
  | 1 => (inRange 0 31 v).map fun n => { p with area := n }
  | 2 => (inRange 0 1023 v).map fun n => { p with offset := n }
  | 3 => (inRange 1 64 v).map fun n => { p with width := n }
  | 4 => (inRange 1 64 v).map fun n => { p with height := n }
  | _ => none

/-- The extent condition of R37. -/
def Photo.extentOk (p : Photo) : Bool := decide (p.offset + p.width * p.height ≤ 1024)

/-- A directory entry as it would stand after its masked fields are written, where every value is in
range and the extent condition holds (R37, R123). -/
def photoWritten (mask : Nat) (bs : List Byte) (p : Photo) : Option Photo :=
  match writeMasked photoField mask (fieldSizes 4) 0 bs p with
  | none => none
  | some p' => if p'.extentOk then some p' else none

/-- One entry of a table of a bank written with masked fields; none where the write is out of range. -/
def Bank.writeEntry (table mask i : Nat) (bs : List Byte) (k : Bank) : Option Bank :=
  match table with
  | 1 => (writeMasked regionField mask (fieldSizes 1) 0 bs (k.region i)).map (k.setRegion i)
  | 2 => (writeMasked itemField mask (fieldSizes 2) 0 bs (k.item i)).map (k.setItem i)
  | 3 => (writeMasked styleField mask (fieldSizes 3) 0 bs (k.style i)).map (k.setStyle i)
  | 4 => (photoWritten mask bs (k.photo i)).map (k.setPhoto i)
  | _ => none

/-! ### Full encoding of entries, R163 -/

/-- A region in its 19 bytes. -/
def encodeRegion (r : Region) : List Byte :=
  beBytes 1 r.kind.code ++ beBytes 2 r.x ++ beBytes 2 r.y ++ beBytes 2 r.width ++ beBytes 2 r.height
    ++ beBytes 1 r.level ++ [r.pages] ++ beBytes 2 (r.item.getD 0xFFFF) ++ beBytes 1 r.figure.code
    ++ beBytes 1 r.style ++ beBytes 2 r.photo ++ beBytes 1 r.align.code ++ beBytes 1 r.treatment.code

/-- A price list in its 13 bytes; what is sent in the unused places is a free value (log 19). -/
def encodePrices (ps : List Nat) : List Byte :=
  beBytes 1 ps.length ++ (ps.flatMap (beBytes 3))
    ++ (((List.range 12).drop (3 * ps.length)).map Config.unusedPriceByte)

/-- An item in its 16 bytes. -/
def encodeItem (it : Item) : List Byte :=
  beBytes 1 it.state.code ++ encodePrices it.prices ++ beBytes 2 (it.energy.getD 0xFFFF)

/-- A style in its 20 bytes. -/
def encodeStyle (st : Style) : List Byte :=
  rgbBytes st.ink ++ [st.inkOpacity] ++ rgbBytes st.box ++ [st.boxOpacity] ++ beBytes 2 st.glyphPhoto
    ++ beBytes 1 st.cellW ++ beBytes 1 st.cellH ++ beBytes 1 st.symbol.code ++ beBytes 1 st.minorDigits
    ++ beBytes 1 (boolCode st.grouping) ++ beBytes 1 (boolCode st.trim) ++ [st.dim] ++ rgbBytes st.standby

/-- A directory entry in its 6 bytes. -/
def encodePhoto (p : Photo) : List Byte :=
  beBytes 1 (boolCode p.valid) ++ beBytes 1 p.area ++ beBytes 2 p.offset ++ beBytes 1 p.width
    ++ beBytes 1 p.height

/-- An entry of a bank in full encoding, by table code; code 5 is an area reference count in 2 bytes. -/
def Bank.encodeEntry (k : Bank) (table i : Nat) : List Byte :=
  match table with
  | 1 => encodeRegion (k.region i)
  | 2 => encodeItem (k.item i)
  | 3 => encodeStyle (k.style i)
  | 4 => encodePhoto (k.photo i)
  | 5 => beBytes 2 (k.count i)
  | _ => []

/-! ### Configuration fields, R159 -/

/-- Sizes of the configuration fields by mask bit. -/
def configSizes : List Nat := [2, 2, 2, 1, 3, 2, 1, 1, 1]

/-- A value below a range becomes its lower end, a value above its upper end. -/
def clampTo (lo hi v : Nat) : Nat := max lo (min hi v)

/-- The bytes of the masked field `bit`, where the mask names it. -/
def maskedField (mask : Nat) (data : List Byte) (bit : Nat) : Option (List Byte) :=
  if mask.testBit bit then
    some ((data.drop (maskedSize mask (configSizes.take bit) 0)).take (configSizes.getD bit 0))
  else none

/-- Clamped configuration values, each present where the mask names it. -/
structure ConfigFields where
  wAct : Option Nat
  hAct : Option Nat
  lossMs : Option Nat
  periodMs : Option Nat
  colour : Option Rgb
  creditLines : Option Nat
  creditLimit : Option Nat
  role : Option Role
  participation : Option Bool
deriving DecidableEq, Repr

/-- W_ACT into 640 to 1920, then rounded down to a multiple of 16 (R159). -/
def clampWidth (v : Nat) : Nat := clampTo 640 1920 v / 16 * 16

/-- The masked fields of a CONFIG_WRITE payload or a CONFIG section, clamped as R159 gives. -/
def configFields (mask : Nat) (data : List Byte) : ConfigFields where
  wAct := (maskedField mask data 0).map fun bs => clampWidth (beValue bs)
  hAct := (maskedField mask data 1).map fun bs => clampTo 360 1080 (beValue bs)
  lossMs := (maskedField mask data 2).map fun bs => clampTo 20 500 (beValue bs)
  periodMs := (maskedField mask data 3).map fun bs => clampTo 16 42 (beValue bs)
  colour := (maskedField mask data 4).map rgbOf
  creditLines := (maskedField mask data 5).map fun bs => clampTo 0 4095 (beValue bs)
  creditLimit := (maskedField mask data 6).map fun bs => clampTo 1 255 (beValue bs)
  role := (maskedField mask data 7).map fun bs => if beValue bs = 0 then .member else .leader
  participation := (maskedField mask data 8).map fun bs => decide (beValue bs ≠ 0)

end Sys2Proof.Machine
end

