-- ==== Sys2Proof/Machine/GroupSync.lean ====
section
/-! DEFINITION. The group sync unit (Section 8): role and participation, the window, the leader's
decision and pulse, the member's line filter. -/

namespace Sys2Proof.Machine

/-- The part takes samples of GRP_FLIP: role MEMBER and participation on (R146). -/
def Group.sampling (g : Group) : Bool := g.participation && g.role == .member

/-- A write of role or participation, R140: a filter that starts or stops holds low; a pulse ends where
the part is no longer a leader taking part (R144). -/
def Group.reconfigure (role : Role) (participation : Bool) (g : Group) : Group :=
  let g1 := { g with role := role, participation := participation }
  { g1 with
    filterHigh := g.filterHigh && g.sampling && g1.sampling
    filterRun := if g.sampling && g1.sampling then g.filterRun else 0
    pulse := if participation && role == .leader then g.pulse else none }

/-- Role and participation as far as they are given. -/
def Group.configure (role : Option Role) (participation : Option Bool) (g : Group) : Group :=
  g.reconfigure (role.getD g.role) (participation.getD g.participation)

/-- The scene controller enters the armed state of the record's mode; on entry to ARMED-group the window
counter is set to 0 (R125, R126, R141). -/
def State.enterArmed (s : State) : State :=
  match s.scene.armed with
  | some ⟨.group, _, _, _, _, _⟩ =>
    { s with scene := { s.scene with phase := .armedGroup }, group := { s.group with window := some 0 } }
  | some ⟨.localOnly, _, _, _, _, _⟩ => { s with scene := { s.scene with phase := .armedLocal } }
  | none => s

/-- The controller commits to a group flip: the window counter becomes idle (R142, R147). -/
def State.commit (s : State) : State :=
  { s with scene := { s.scene with phase := .committed }, group := { s.group with window := none } }

/-- The leader begins its pulse: the pulse timer is set to 8 and GRP_FLIP is released (R144). -/
def State.beginPulse (s : State) : State := { s with group := { s.group with pulse := some 8 } }

/-- An armed or draining flip ends without a flip: the record is discarded, the window ends, and the
controller takes the state given (R127, R143, R145). -/
def State.disarm (phase : Phase) (s : State) : State :=
  { s with
    scene := { s.scene with phase := phase, armed := none }
    group := { s.group with window := none } }

/-- The window length of the armed record; 0 where there is none. -/
def State.windowLength (s : State) : Nat :=
  match s.scene.armed with
  | some r => r.window
  | none => 0

/-- The output frame start at the group sync unit, R141, R142: in ARMED-group the window counter is
increased, and a leader then reads GRP_READY and, where it is high, pulses and commits. -/
def State.groupFrameStart (s : State) : State :=
  if s.scene.phase = .armedGroup then
    let s1 := { s with group := { s.group with window := some (s.group.window.getD 0 + 1) } }
    if s.group.role = .leader ∧ s.readyHigh = true then s1.beginPulse.commit else s1
  else s

/-- The leader's window has ended with GRP_READY low: LEADER_WINDOW_END is due (R142). -/
def State.leaderWindowDue (s : State) : Bool :=
  s.scene.phase == .armedGroup && s.group.role == .leader
    && (match s.group.window with
        | some n => decide (1 ≤ n ∧ s.windowLength ≤ n)
        | none => false)

/-- R143: FLIP_TIMEOUT; with force on the leader pulses and commits, with force off it returns to
EDITING. -/
def State.leaderWindowEnds (s : State) : State :=
  let s1 := s.raise .flipTimeout
  match s.scene.armed with
  | some r => if r.force then s1.beginPulse.commit else s1.disarm .editing
  | none => s1.disarm .editing

/-- A member's window has ended: MEMBER_WINDOW_END is due (R145). -/
def State.memberWindowDue (s : State) : Bool :=
  s.scene.phase == .armedGroup && s.group.role == .member
    && (match s.group.window with
        | some n => decide (s.windowLength + 2 ≤ n)
        | none => false)

/-- R145: the member returns to EDITING and FLIP_TIMEOUT is set. -/
def State.memberWindowEnds (s : State) : State := (s.raise .flipTimeout).disarm .editing

/-- Each output line start decreases the pulse timer by 1, R144. -/
def State.pulseLine (s : State) : State :=
  match s.group.pulse with
  | none => s
  | some n => { s with group := { s.group with pulse := some (n - 1) } }

/-- The pulse timer has reached 0: PULSE_END is due (R144). -/
def State.pulseDue (s : State) : Bool := s.group.pulse == some 0

/-- R144: the timer becomes none; the leader holds GRP_FLIP low again. -/
def State.pulseEnds (s : State) : State := { s with group := { s.group with pulse := none } }

/-- A pulse recognized by a member, by its scene state (R147). -/
def State.pulseRecognized (s : State) : State :=
  match s.scene.phase with
  | .armedGroup => s.commit
  | .seeding | .editing | .draining => s.raise .missedFlip
  | .settled | .armedLocal | .committed | .saving | .recalling => s

/-- A sample of GRP_FLIP through the line filter, R146: three samples in a row that differ from the
filtered value change it, and a change to high is a recognized pulse. -/
def State.sampleFlip (s : State) : State :=
  if s.group.sampling then
    let level := s.flipHigh
    if level = s.group.filterHigh then { s with group := { s.group with filterRun := 0 } }
    else if s.group.filterRun + 1 < 3 then
      { s with group := { s.group with filterRun := s.group.filterRun + 1 } }
    else
      let s1 := { s with group := { s.group with filterHigh := level, filterRun := 0 } }
      if level then s1.pulseRecognized else s1
  else s

end Sys2Proof.Machine
end

