-- ==== Sys2Proof/Machine/SceneUpdate.lean ====
section
/-! DEFINITION. The scene controller's frame-start update (7.5 to 7.8): the flip, the hot queue, the page
stack and its hold timer. -/

namespace Sys2Proof.Machine

/-- A flip is due at a frame start in ARMED-local, and in COMMITTED entered before it (R131). -/
def State.flipDue (s : State) : Bool := s.scene.phase == .armedLocal || s.scene.phase == .committed

/-- The entry page of a flip: stack emptied, page set, timer cleared; with NONE nothing changes (R131). -/
def Scene.enterPage (page : Option Nat) (c : Scene) : Scene :=
  match page with
  | some p => { c with page := p, stack := [], hold := none }
  | none => c

/-- The flip of R131: selector, tag, generation modulo 65536, entry page, SETTLED. -/
def State.flip (s : State) : State :=
  let s1 := { s with tables := { s.tables with active := s.tables.active.other } }
  match s.scene.armed with
  | none => { s1 with scene := { s1.scene with phase := .settled, generation := (s.scene.generation + 1) % 65536 } }
  | some r =>
    { s1 with
      scene :=
        Scene.enterPage r.entryPage
          { s1.scene with
            tag := r.tag
            generation := (s.scene.generation + 1) % 65536
            phase := .settled
            armed := none } }

/-- Step 1 of the update, R130. -/
def State.flipIfDue (s : State) : State := if s.flipDue then s.flip else s

/-- Remove the top entry of the page stack and restore its values, R135. -/
def State.popEntry (e : StackEntry) (rest : List StackEntry) (s : State) : State :=
  { s with
    scene := { s.scene with page := e.page, hold := e.hold, threshold := e.threshold, stack := rest } }

/-- A threshold given by a hot change: a value above 7 becomes 7 (R133, R134). -/
def clampThreshold (t : Nat) : Nat := min 7 t

/-- PAGE_PUSH with a page of 0 to 7, R134: at most 8 entries, the oldest discarded with STACK_WRAP. -/
def State.pushPage (page duration threshold : Nat) (s : State) : State :=
  let wraps := decide (8 ≤ s.scene.stack.length)
  let kept := if wraps then s.scene.stack.take 7 else s.scene.stack
  let s1 := if wraps then s.raise .stackWrap else s
  { s1 with
    scene :=
      { s1.scene with
        stack := ⟨s.scene.page, s.scene.hold, s.scene.threshold⟩ :: kept
        page := page
        hold := if duration = 0 then none else some duration
        threshold := if threshold = 0xFF then s.scene.threshold else clampThreshold threshold } }

/-- PAGE_SET with a page of 0 to 7, R134. -/
def State.setPage (page : Nat) (s : State) : State :=
  { s with scene := { s.scene with page := page, stack := [], hold := none } }

/-- ITEM_STATE: the state field of the item in both banks (R32, R133). -/
def State.setItemState (item : Nat) (st : ItemState) (s : State) : State :=
  { s with
    tables := { s.tables with a := s.tables.a.setItemState item st, b := s.tables.b.setItemState item st } }

/-- One hot entry applied, R133 to R135, R167, R170. The Bool says that the hold timer has been set or
restored in this update (R136). -/
def applyHot (c : HotCmd) (p : State × Bool) : State × Bool :=
  let s := p.1
  match c with
  | .itemState item code =>
    match itemStateOfCode code with
    | some st => (s.setItemState item st, p.2)
    | none => (s.refuse 0x20 .range 2 item, p.2)
  | .pageSet page =>
    if page ≤ 7 then (s.setPage page, p.2) else (s.refuse 0x21 .range 0 0, p.2)
  | .pagePush page duration threshold =>
    if page ≤ 7 then (s.pushPage page duration threshold, true) else (s.refuse 0x22 .range 0 0, p.2)
  | .pagePop =>
    match s.scene.stack with
    | [] => (s.raise .stackEmpty, p.2)
    | e :: rest => (s.popEntry e rest, true)
  | .thresholdSet t => ({ s with scene := { s.scene with threshold := clampThreshold t } }, p.2)
  | .watchSet r => ({ s with status := { s.status with watch := some r } }, p.2)
  | .eventClear mask => (s.clearFlags mask, p.2)

/-- The hot entries applied in arrival order. -/
def applyHots : List HotCmd → State × Bool → State × Bool
  | [], p => p
  | c :: cs, p => applyHots cs (applyHot c p)

/-- Step 2 of the update: every entry present is applied, oldest first, and the queue is then empty
(R130, R132). -/
def State.applyHotQueue (s : State) : State × Bool :=
  applyHots s.scene.hotQ ({ s with scene := { s.scene with hotQ := [] } }, false)

/-- Step 3 of the update: a timer that is running and was not set or restored in this update is decreased
by 1 (R136). A timer that reaches 0 makes PAGE_HOLD_EXPIRY due. -/
def State.runHoldTimer (touched : Bool) (s : State) : State :=
  match s.scene.hold with
  | none => s
  | some n => if touched then s else { s with scene := { s.scene with hold := some (n - 1) } }

/-- Steps 1 to 3 of the frame-start update, R130. -/
def State.frameUpdate (s : State) : State :=
  let hot := s.flipIfDue.applyHotQueue
  hot.1.runHoldTimer hot.2

/-- The page hold timer has reached 0: the update stands at its step 3 and PAGE_HOLD_EXPIRY is due. -/
def State.holdDue (s : State) : Bool := s.scene.hold == some 0

/-- The timer's pop, R136: as R135, or, with the stack empty, the timer is cleared with STACK_EMPTY. -/
def State.holdPop (s : State) : State :=
  match s.scene.stack with
  | e :: rest => s.popEntry e rest
  | [] => { s.raise .stackEmpty with scene := { s.scene with hold := none } }

/-- The pop where it is due. -/
def State.popIfDue (s : State) : State := if s.holdDue then s.holdPop else s

end Sys2Proof.Machine
end

