-- ==== Sys2Proof/Machine/Arith.lean ====
section
/-! DEFINITION. Pixel arithmetic (Section 4): the one rounding, forming and dimming of samples, and the
blend. -/

namespace Sys2Proof.Machine

/-- round(x) = floor((x + 127) / 255), R68. -/
def round255 (x : Nat) : Nat := (x + 127) / 255

/-- The rounded product of two values of 0 to 255. -/
def scaleByte (a b : Byte) : Byte := BitVec.ofNat 8 (round255 (a.toNat * b.toNat))

/-- A colour with every channel dimmed by the factor `d`, R73. -/
def Rgb.dimBy (d : Byte) (c : Rgb) : Rgb := ⟨scaleByte c.r d, scaleByte c.g d, scaleByte c.b d⟩

/-- The colour of a sample whose record may be marked dimmed, R73. -/
def dimIf (dimmed : Bool) (d : Byte) (c : Rgb) : Rgb := if dimmed then Rgb.dimBy d c else c

/-- One channel of the blend: round(c × a + u × (255 − a)), R75. -/
def blendChannel (c a u : Byte) : Byte :=
  BitVec.ofNat 8 (round255 (c.toNat * a.toNat + u.toNat * (255 - a.toNat)))

/-- One sample applied to the present value, R75. -/
def blendSample (m : Sample) (u : Rgb) : Rgb :=
  ⟨blendChannel m.colour.r m.coverage u.r, blendChannel m.colour.g m.coverage u.g,
    blendChannel m.colour.b m.coverage u.b⟩

/-- The samples of a pixel over its background, from the last filled slot to slot 1 (R75). -/
def blendSlots (slots : List Sample) (u : Rgb) : Rgb := slots.foldr blendSample u

end Sys2Proof.Machine
end

