-- ==== Sys2Proof/Machine/Text.lean ====
section
/-! DEFINITION. Price and energy text (Section 5): usability of a glyph photo, formation, fitting and
placement of the string, and the glyph pixel of a column. Glyphs are cell numbers: 0 to 9 digits, 10
currency symbol, 11 decimal separator, 12 group separator, 13 energy mark, 14 overflow mark (R80). -/

namespace Sys2Proof.Machine

/-- The photo a directory entry describes, R38. -/
def Photo.ref (p : Photo) : PhotoRef := ⟨p.area * 1024 + p.offset, p.width, p.height⟩

/-- The glyph photo of a style, R80. -/
def Bank.glyphPhoto (k : Bank) (st : Style) : Photo := k.photo st.glyphPhoto

/-- A style's glyph photo is usable, R82. -/
def glyphUsable (p : Photo) (st : Style) : Bool :=
  p.valid && decide (15 * st.cellW ≤ 16 * p.width) && decide (st.cellH ≤ 16 * p.height)

/-- Advance of a glyph: half a cell for the two separators, a cell for every other (R81). -/
def advance (cw cell : Nat) : Nat := if cell = 11 ∨ cell = 12 then cw / 2 else cw

/-- Width of a string, R89. -/
def textWidth (cw : Nat) (cells : List Nat) : Nat := (cells.map (advance cw)).sum

/-- Decimal digits of `n` before those in `acc`, most significant first; the first argument bounds their
number. -/
def digitsOnto : Nat → Nat → List Nat → List Nat
  | 0, n, acc => n % 10 :: acc
  | f + 1, n, acc => if n < 10 then n :: acc else digitsOnto f (n / 10) (n % 10 :: acc)

/-- The decimal digits of a number, most significant first, no leading zeros, 0 as the one digit 0. -/
def decimal (n : Nat) : List Nat := digitsOnto n n []

/-- A group separator before every third digit counted from the right, but not before the first; the
digits run from the right here (R85). -/
def groupFromRight : List Nat → List Nat
  | a :: b :: c :: d :: rest => a :: b :: c :: 12 :: groupFromRight (d :: rest)
  | ds => ds

/-- The digits of a whole quantity, grouped where grouping is on (R84, R85, R88). -/
def wholePart (grouping : Bool) (n : Nat) : List Nat :=
  if grouping then (groupFromRight (decimal n).reverse).reverse else decimal n

/-- Exactly `m` digits of the minor quantity, with leading zeros (R86). -/
def minorDigitsOf : Nat → Nat → List Nat
  | 0, _ => []
  | m + 1, v => v / 10 ^ m % 10 :: minorDigitsOf m v

/-- The minor part: absent with no minor digits, or when trim is on and the minor quantity is 0 (R86). -/
def minorPart (m : Nat) (trim : Bool) (minor : Nat) : List Nat :=
  if m = 0 ∨ (trim = true ∧ minor = 0) then [] else 11 :: minorDigitsOf m minor

/-- The price string of a value under a style, R84 to R87. -/
def priceString (st : Style) (v : Nat) : List Nat :=
  let body := wholePart st.grouping (v / 10 ^ st.minorDigits)
    ++ minorPart st.minorDigits st.trim (v % 10 ^ st.minorDigits)
  match st.symbol with
  | .none => body
  | .before => 10 :: body
  | .after => body ++ [10]

/-- The energy string, R88. -/
def energyString (st : Style) (e : Nat) : List Nat := wholePart st.grouping e ++ [13]

/-- The figure of an item that a source names, where it is present (R30). -/
def figureOf (it : Item) : Figure → Option Nat
  | .price0 => it.prices[0]?
  | .price1 => it.prices[1]?
  | .price2 => it.prices[2]?
  | .price3 => it.prices[3]?
  | .energy => it.energy

/-- The string of a figure, R84 to R88. -/
def figureString (st : Style) (src : Figure) (v : Nat) : List Nat :=
  match src with
  | .energy => energyString st v
  | .price0 | .price1 | .price2 | .price3 => priceString st v

/-- Fitting, R90 and R91: separators first, then the symbol (cell 10) or energy mark (cell 13), then the
overflow mark. The second component says that the string overflowed. -/
def fitString (cw width : Nat) (cells : List Nat) : List Nat × Bool :=
  if textWidth cw cells ≤ width then (cells, false)
  else
    let noSep := cells.filter (· ≠ 12)
    if textWidth cw noSep ≤ width then (noSep, false)
    else
      let bare := noSep.filter (fun c => c ≠ 10 ∧ c ≠ 13)
      if textWidth cw bare ≤ width then (bare, false) else ([14], true)

/-- The column of the string's left edge, R92. -/
def textX0 (r : Region) (width : Nat) : Nat :=
  if r.width < width then r.x
  else
    match r.align with
    | .left => r.x
    | .right => r.x + r.width - width
    | .center => r.x + (r.width - width) / 2

/-- The line of the top row of every glyph, R93. -/
def textY0 (r : Region) (cellH : Nat) : Nat :=
  if r.height < cellH then r.y else r.y + (r.height - cellH) / 2

/-- The result of laying out a PRICE region, R83. -/
inductive Layout where
  /-- The glyph photo is not usable: GLYPH_FAULT (R82). -/
  | unusable
  /-- The text record, and whether the overflow mark replaced the string (R91). -/
  | text (t : TextRec) (overflow : Bool)
deriving DecidableEq, Repr

/-- The layout of a PRICE region showing the value `v`, R82 to R93. -/
def layoutText (k : Bank) (st : Style) (r : Region) (v : Nat) : Layout :=
  let gp := k.glyphPhoto st
  if glyphUsable gp st then
    let fitted := fitString st.cellW r.width (figureString st r.figure v)
    let w := textWidth st.cellW fitted.1
    .text
      { glyphs := fitted.1
        advances := fitted.1.map (advance st.cellW)
        width := w
        x0 := textX0 r w
        y0 := textY0 r st.cellH
        cellW := st.cellW
        cellH := st.cellH
        photo := gp.ref }
      fitted.2
  else .unusable

/-- The glyph at `dx` columns from the string's left edge: its cell and the column inside it (R94). -/
def glyphAt : List Nat → List Nat → Nat → Option (Nat × Nat)
  | c :: cs, a :: as, dx => if dx < a then some (c, dx) else glyphAt cs as (dx - a)
  | _, _, _ => none

/-- The glyph pixel of a column on a line: photo column and row of the glyph photo (R94). -/
def TextRec.glyphPixel (t : TextRec) (x y : Nat) : Option (Nat × Nat) :=
  (glyphAt t.glyphs t.advances (x - t.x0)).map fun p => (p.1 * t.cellW + p.2, y - t.y0)

end Sys2Proof.Machine
end

