-- ==== Sys2Proof/Machine/Selection.lean ====
section
/-! DEFINITION. Selecting the regions of a line, their precedence, and their line list entries with the
span of each kind (3.2, 3.3; what decides whether a region draws, 2.7). -/

namespace Sys2Proof.Machine

/-- The region's item: the item its item field names, in a PHOTO, PRICE or BADGE (R27). -/
def itemOf (k : Bank) (r : Region) : Option Item :=
  match r.kind with
  | .photo | .price | .badge => r.item.map k.item
  | .off | .fill => none

/-- What the builder does with a region on a line: selects it, passes it over, or passes it over for its
photo, which sets PHOTO_MISSING (R49, R50). -/
inductive Choice where
  | selected
  | passed
  | photoMissing
deriving DecidableEq, Repr

/-- Tests 1 to 5 of R49: kind, level, page, line, columns. -/
def onLine (v : View) (y : Nat) (r : Region) : Bool :=
  r.kind != .off && decide (v.threshold < r.level) && r.pages.getLsbD v.page
    && decide (r.y ≤ y ∧ y ≤ r.y + r.height - 1) && decide (r.x < v.width)

/-- Tests 6 to 9 of R49: the item's state, the treatment, the badge, the figure. -/
def itemAllows (k : Bank) (r : Region) : Bool :=
  match itemOf k r with
  | none => r.kind != .badge && r.kind != .price
  | some it =>
    it.state != .withdrawn
      && !((r.kind == .photo || r.kind == .price) && r.treatment == .hide && it.state == .soldOut)
      && !(r.kind == .badge && it.state != .soldOut)
      && !(r.kind == .price && (figureOf it r.figure).isNone)

/-- The tests of R49, in the order of R50. -/
def choose (k : Bank) (v : View) (y : Nat) (r : Region) : Choice :=
  if !onLine v y r then .passed
  else if !itemAllows k r then .passed
  else if (r.kind == .photo || r.kind == .badge) && !(k.photo r.photo).valid then .photoMissing
  else .selected

/-- The regions of a bank with their indices, in index order. -/
def indexed {α : Type} : Nat → List α → List (Nat × α)
  | _, [] => []
  | i, r :: rs => (i, r) :: indexed (i + 1) rs

/-- Insert a region before the first of a lower level: earlier regions of equal level stay ahead when
regions are inserted from the last index to the first. -/
def insertByLevel (p : Nat × Region) : List (Nat × Region) → List (Nat × Region)
  | [] => [p]
  | q :: qs => if q.2.level ≤ p.2.level then p :: q :: qs else q :: insertByLevel p qs

/-- Precedence order: level descending, index ascending among equals (R51). -/
def byPrecedence (ps : List (Nat × Region)) : List (Nat × Region) := ps.foldr insertByLevel []

/-- The selected regions of a line in precedence order; none from a view frozen during the start-up load
(R67). -/
def selectedRegions (k : Bank) (v : View) (y : Nat) : List (Nat × Region) :=
  if v.duringLoad then []
  else byPrecedence ((indexed 0 k.regions).filter fun p => choose k v y p.2 == .selected)

/-- Some region is passed over for its photo on the line (R50). -/
def somePhotoMissing (k : Bank) (v : View) (y : Nat) : Bool :=
  !v.duringLoad && k.regions.any fun r => choose k v y r == .photoMissing

/-- The right edge of a region on the canvas, R = min(x + width − 1, W − 1) (3.3). -/
def rightEdge (v : View) (r : Region) : Nat := min (r.x + r.width - 1) (v.width - 1)

/-- A span from `a` to `b`, empty where `b` is left of `a`. -/
def spanOf (a b : Nat) : Option (Nat × Nat) := if a ≤ b then some (a, b) else none

/-- The region's record is marked dimmed: PHOTO or PRICE, an item, treatment DIM and that item SOLD_OUT
(R28, R52). -/
def dimmedOn (k : Bank) (r : Region) : Bool :=
  (r.kind == .photo || r.kind == .price) && r.treatment == .dim
    && (match itemOf k r with
        | some it => it.state == .soldOut
        | none => false)

/-- The span of a photo, R54. -/
def photoSpan (v : View) (y : Nat) (r : Region) (p : PhotoRef) : Option (Nat × Nat) :=
  if 16 * p.height ≤ y - r.y then none
  else spanOf r.x (min (rightEdge v r) (r.x + 16 * p.width - 1))

/-- The columns of the text extent on a line, R55, R93. -/
def textSpan (v : View) (y : Nat) (r : Region) (t : TextRec) : Option (Nat × Nat) :=
  let bottom := min (t.y0 + t.cellH - 1) (min (r.y + r.height - 1) (v.height - 1))
  if t.y0 ≤ y ∧ y ≤ bottom then spanOf t.x0 (min (t.x0 + t.width - 1) (rightEdge v r)) else none

/-- The layout of a PRICE region on a line, where its figure is present (R83). -/
def regionLayout (k : Bank) (r : Region) : Layout :=
  match itemOf k r with
  | none => .unusable
  | some it =>
    match figureOf it r.figure with
    | none => .unusable
    | some n => layoutText k (k.style r.style) r n

/-- The record of a region that has entered the line list, R52, with the flags its layout sets (R82,
R91). -/
def entryOf (k : Bank) (v : View) (y : Nat) (p : Nat × Region) : LineEntry × List Flag :=
  let r := p.2
  let base : LineEntry :=
    { region := p.1
      kind := r.kind
      style := k.style r.style
      x := r.x
      span := none
      dimmed := dimmedOn k r
      photoRow := y - r.y
      photo := none
      text := none
      progress := .notStarted }
  match r.kind with
  | .off => (base, [])
  | .fill => ({ base with span := spanOf r.x (rightEdge v r) }, [])
  | .photo | .badge =>
    let ph := (k.photo r.photo).ref
    ({ base with photo := some ph, span := photoSpan v y r ph }, [])
  | .price =>
    match regionLayout k r with
    | .unusable => (base, [.glyphFault])
    | .text t overflowed =>
      ({ base with text := some t, span := textSpan v y r t }, if overflowed then [.priceOverflow] else [])

/-- The line list of a line and every flag that making it sets: PHOTO_MISSING, LINE_FULL, and those of
the layouts (R50, R51, R83). -/
def lineList (k : Bank) (v : View) (y : Nat) : List LineEntry × List Flag :=
  let sel := selectedRegions k v y
  let made := (sel.take 32).map (entryOf k v y)
  (made.map (·.1),
    (if somePhotoMissing k v y then [.photoMissing] else [])
      ++ (if 32 < sel.length then [.lineFull] else [])
      ++ made.flatMap (·.2))

end Sys2Proof.Machine
end

