-- ==== Sys2Proof/Machine/TileCache.lean ====
section
/-! DEFINITION. The tile cache, its fill queue and its prefetch (6.2 to 6.4), and what a write of library
memory does to them (R111). -/

namespace Sys2Proof.Machine

/-! ### Lines and sets -/

/-- A sector slot with nothing valid and no fill in flight. -/
def SectorSlot.empty : SectorSlot := ⟨none, false⟩

/-- The slot of a sector. -/
def CacheLine.slot (l : CacheLine) (sector : Nat) : SectorSlot := l.sectors.getD sector .empty

/-- A way is busy while any of its fill-in-flight marks is set; otherwise free to replace (R98). -/
def CacheLine.busy (l : CacheLine) : Bool := l.sectors.any (·.inFlight)

/-- A line allocated to a tile: its tag, all four sectors invalid, confidence 1 (R99). -/
def CacheLine.allocated (tile : Nat) : CacheLine := ⟨some tile, List.replicate 4 .empty, 1⟩

/-- Change one sector slot of a line. -/
def CacheLine.mapSlot (sector : Nat) (f : SectorSlot → SectorSlot) (l : CacheLine) : CacheLine :=
  { l with sectors := l.sectors.set sector (f (l.slot sector)) }

/-- The set in which a tile can be held, R98. -/
def setOf (tile : Nat) : Nat := tile % 32

/-- The four ways of a tile's set. -/
def Cache.ways (c : Cache) (tile : Nat) : List CacheLine := c.sets.getD (setOf tile) []

/-- Replace a tile's set. -/
def Cache.setWays (c : Cache) (tile : Nat) (ws : List CacheLine) : Cache :=
  { c with sets := c.sets.set (setOf tile) ws }

/-- The line that holds a tile, where it is present (R98). -/
def Cache.line? (c : Cache) (tile : Nat) : Option CacheLine := (c.ways tile).find? (·.tag == some tile)

/-- Change the line that holds a tile. -/
def Cache.mapLine (c : Cache) (tile : Nat) (f : CacheLine → CacheLine) : Cache :=
  c.setWays tile ((c.ways tile).map fun l => if l.tag = some tile then f l else l)

/-- The bytes of a sector where it is valid (R98). -/
def Cache.valid? (c : Cache) (tile sector : Nat) : Option (List Byte) :=
  match c.line? tile with
  | none => none
  | some l => (l.slot sector).data

/-- A fill of the sector is in flight. -/
def Cache.inFlight (c : Cache) (tile sector : Nat) : Bool :=
  match c.line? tile with
  | none => false
  | some l => (l.slot sector).inFlight

/-! ### Use and victim choice -/

/-- A use of a line: its confidence counter rises by 1, to 3 at most (R100). -/
def Cache.use (c : Cache) (tile : Nat) : Cache :=
  c.mapLine tile fun l => { l with confidence := min 3 (l.confidence + 1) }

/-- Number of the first way that is free to replace and has counter 0. -/
def freeZeroWay (ws : List CacheLine) : Option Nat :=
  ws.findIdx? fun l => !l.busy && l.confidence == 0

/-- The smallest counter among the ways that are free to replace, where there is one. -/
def leastConfidence : List CacheLine → Option Nat
  | [] => none
  | l :: ls =>
    match l.busy, leastConfidence ls with
    | true, m => m
    | false, none => some l.confidence
    | false, some m => some (min l.confidence m)

/-- The victim way for a demand miss on an absent tile, with the set's counters as the choice leaves
them (R101). -/
def victim (ws : List CacheLine) : Option (List CacheLine × Nat) :=
  match freeZeroWay ws with
  | some i => some (ws, i)
  | none =>
    match leastConfidence ws with
    | none => none
    | some m =>
      let ws' := ws.map fun l => if l.busy then l else { l with confidence := l.confidence - m }
      (freeZeroWay ws').map fun i => (ws', i)

/-! ### Entries of the fill queue -/

/-- Add an entry for a sector at the tail of the fill queue and set the sector's fill-in-flight mark. -/
def Cache.addFill (c : Cache) (tile sector : Nat) (demand : Bool) : Cache :=
  let c' := c.mapLine tile (CacheLine.mapSlot sector fun d => { d with inFlight := true })
  { c' with fills := c'.fills ++ [⟨tile, sector, demand, false, false⟩] }

/-- The builder reads a sector whose fill in flight may be a PREFETCH: it becomes a DEMAND and keeps its
place, its grant and its void mark (R104). -/
def Cache.upgrade (c : Cache) (tile sector : Nat) : Cache :=
  { c with
    fills := c.fills.map fun f =>
      if f.tile = tile ∧ f.sector = sector then { f with demand := true } else f }

/-- A considered prefetch of a target sector: made where the three conditions of R108 hold, dropped
otherwise. -/
def Cache.prefetch (c : Cache) (tile sector : Nat) : Cache :=
  if c.valid? tile sector ≠ none ∨ c.inFlight tile sector = true ∨ 4 < c.fills.length then c
  else
    match c.line? tile with
    | some _ => c.addFill tile sector false
    | none =>
      match freeZeroWay (c.ways tile) with
      | none => c
      | some i => (c.setWays tile ((c.ways tile).set i (.allocated tile))).addFill tile sector false

/-- The target of the prefetch considered at a read of sector `sector` of tile `tile` of photo `p`; none
in the photo's bottom tile row (R107). -/
def prefetchTarget (p : PhotoRef) (tile sector : Nat) : Option (Nat × Nat) :=
  if p.height ≤ (tile - p.base) / p.width + 1 then none
  else if sector < 3 then some (tile, sector + 1)
  else some (tile + p.width, 0)

/-- Consider the prefetch of R107 for a read. -/
def Cache.considerPrefetch (c : Cache) (p : PhotoRef) (tile sector : Nat) : Cache :=
  match prefetchTarget p tile sector with
  | none => c
  | some (t, n) => c.prefetch t n

/-! ### A read by the builder -/

/-- The outcomes of a read by the builder, R99: a hit, a wait for a fill already in flight, a miss that
made a demand entry, or a wait for room or for a way. -/
inductive ReadResult where
  | hit
  | joined
  | demanded
  | noRoom
  | noWay
deriving DecidableEq, Repr

/-- A read of a sector by the builder, R99, without the prefetch it may lead to. -/
def Cache.read (c : Cache) (tile sector : Nat) : Cache × ReadResult :=
  match c.line? tile with
  | some l =>
    if (l.slot sector).data ≠ none then (c.use tile, .hit)
    else if (l.slot sector).inFlight then (c.upgrade tile sector, .joined)
    else if c.fills.length < 8 then (c.addFill tile sector true, .demanded)
    else (c, .noRoom)
  | none =>
    if 8 ≤ c.fills.length then (c, .noRoom)
    else
      match victim (c.ways tile) with
      | none => (c, .noWay)
      | some (ws, i) =>
        ((c.setWays tile (ws.set i (.allocated tile))).addFill tile sector true, .demanded)

/-! ### Grants, completions, writes -/

/-- The fill the arbiter chooses: the oldest waiting DEMAND entry, else the oldest waiting PREFETCH
(R109). -/
def Cache.nextGrant (c : Cache) : Option Fill :=
  match c.fills.find? (fun f => !f.granted && f.demand) with
  | some f => some f
  | none => c.fills.find? (fun f => !f.granted)

/-- The grant of a fill: its entry is no longer waiting, and its read takes the bytes that library memory
holds now (R109). -/
def Cache.grant (c : Cache) (f : Fill) (bytes : List Byte) : Cache :=
  { c with
    fills := c.fills.map fun g =>
      if g.tile = f.tile ∧ g.sector = f.sector then { g with granted := true } else g
    reads := c.reads ++ [⟨f.tile, f.sector, bytes⟩] }

/-- The fill of a sector has been marked void by a write (R103). -/
def Cache.isVoid (c : Cache) (tile sector : Nat) : Bool :=
  c.fills.any fun f => decide (f.tile = tile ∧ f.sector = sector) && f.void

/-- Completion of the oldest granted read: its entry leaves the queue; its bytes are installed unless
the entry is void; the fill-in-flight mark is cleared (R105). -/
def Cache.complete (c : Cache) (r : GrantedRead) (rest : List GrantedRead) : Cache :=
  let keep := !c.isVoid r.tile r.sector
  let c' := c.mapLine r.tile (CacheLine.mapSlot r.sector fun d =>
    { data := if keep then some r.bytes else d.data, inFlight := false })
  { c' with
    fills := c'.fills.filter fun f => !decide (f.tile = r.tile ∧ f.sector = r.sector)
    reads := rest }

/-- A write of a sector of library memory: a valid copy is dropped, and a fill of it in flight is marked
void (R111). -/
def Cache.written (c : Cache) (tile sector : Nat) : Cache :=
  let c' := c.mapLine tile (CacheLine.mapSlot sector fun d => { d with data := none })
  { c' with
    fills := c'.fills.map fun f =>
      if f.tile = tile ∧ f.sector = sector then { f with void := true } else f }

/-- Write the bytes of a sector of library memory, the cache kept consistent (R111, R116). -/
def State.writeSector (tile sector : Nat) (bytes : List Byte) (s : State) : State :=
  { s with
    library := { s.library with mem := memWriteBytes libraryFill s.library.mem (sectorAddr tile sector) bytes }
    cache := s.cache.written tile sector }

end Sys2Proof.Machine
end

