-- ==== Sys2Proof/Machine/Overlay.lean ====
section
/-! DEFINITION. The overlay builder at work (Section 3): placing samples in layer slots, producing a
region's columns through the tile cache, taking up lines, the line deadline. The builder works on
without delay until it waits (log 6). -/

namespace Sys2Proof.Machine

/-! ### Layer slots -/

/-- A pixel whose entry has just been allocated, R57. -/
def Pixel.fresh : Pixel := ⟨[], false⟩

/-- The pixel of a column; a column not listed is empty and open. -/
def pixelAt (px : List (Nat × Pixel)) (x : Nat) : Pixel :=
  match px with
  | [] => .fresh
  | (k, p) :: rest => if x = k then p else pixelAt rest x

/-- Replace the pixel of a column, keeping columns rising. -/
def setPixel (px : List (Nat × Pixel)) (x : Nat) (p : Pixel) : List (Nat × Pixel) :=
  match px with
  | [] => [(x, p)]
  | (k, q) :: rest =>
    if x < k then (x, p) :: (k, q) :: rest
    else if x = k then (x, p) :: rest
    else (k, q) :: setPixel rest x p

/-- What R58 does with a sample at a pixel. -/
inductive Placing where
  /-- No slot taken: coverage 0, or the pixel is closed. -/
  | none
  /-- Discarded with OVERLAP_CLIPPED. -/
  | clipped
  /-- Placed. -/
  | placed (p : Pixel)
deriving DecidableEq, Repr

/-- The placement rule of R58, its cases in its order. -/
def placing (m : Sample) (p : Pixel) : Placing :=
  if m.coverage = 0 then .none
  else if p.closed then .none
  else if 4 ≤ p.slots.length then .clipped
  else .placed ⟨p.slots ++ [m], m.coverage == 255⟩

/-- A standby sample at a pixel: it takes the lowest free slot and closes the pixel where the pixel is
open and a slot is free; otherwise nothing is placed and no flag is set (R63). -/
def standbyPixel (colour : Rgb) (p : Pixel) : Pixel :=
  if p.closed ∨ 4 ≤ p.slots.length then p else ⟨p.slots ++ [⟨colour, 255⟩], true⟩

/-- The pixels the ring holds for a line. -/
def ringPixels (ring : List RingEntry) (line : Nat) : List (Nat × Pixel) :=
  match ring.find? (·.line == line) with
  | none => []
  | some e => e.pixels

/-- Replace one pixel of a line's ring entry. -/
def ringSet (ring : List RingEntry) (line x : Nat) (p : Pixel) : List RingEntry :=
  ring.map fun e => if e.line = line then { e with pixels := setPixel e.pixels x p } else e

/-- Place a sample at a column of a line, R58. -/
def State.place (line x : Nat) (m : Sample) (s : State) : State :=
  match placing m (pixelAt (ringPixels s.builder.ring line) x) with
  | .none => s
  | .clipped => s.raise .overlapClipped
  | .placed p => { s with builder := { s.builder with ring := ringSet s.builder.ring line x p } }

/-! ### The samples of a column -/

/-- Where the source pixel of a column lies: the photo, its tile, its sector, and the first byte within
the sector (R54, R94, R96). -/
structure PixelSource where
  photo : PhotoRef
  tile : Nat
  sector : Nat
  byte : Nat
deriving DecidableEq, Repr

/-- The place of a photo pixel, R96. -/
def photoPixel (p : PhotoRef) (px py : Nat) : PixelSource where
  photo := p
  tile := p.base + py / 16 * p.width + px / 16
  sector := py % 16 / 4
  byte := (py % 4 * 16 + px % 16) * 4

/-- The source pixel a column of an entry needs; a FILL needs none (R53 to R55). -/
def LineEntry.source (e : LineEntry) (line x : Nat) : Option PixelSource :=
  match e.kind with
  | .off | .fill => none
  | .photo | .badge => e.photo.map fun p => photoPixel p (x - e.x) e.photoRow
  | .price =>
    match e.text with
    | none => none
    | some t => (t.glyphPixel x line).map fun g => photoPixel t.photo g.1 g.2

/-- The colour channels of a library pixel, R70. -/
def rgbAt (px : List Byte) : Rgb := ⟨px.getD 0 0, px.getD 1 0, px.getD 2 0⟩

/-- The samples of a column in the order they are placed, R69; `px` are the four bytes of the source
pixel, R, G, B, alpha. -/
def LineEntry.samples (e : LineEntry) (px : List Byte) : List Sample :=
  match e.kind with
  | .off => []
  | .fill => [⟨e.style.ink, e.style.inkOpacity⟩]
  | .photo => [⟨dimIf e.dimmed e.style.dim (rgbAt px), px.getD 3 0⟩]
  | .badge => [⟨rgbAt px, px.getD 3 0⟩]
  | .price =>
    ⟨dimIf e.dimmed e.style.dim e.style.ink, scaleByte (px.getD 3 0) e.style.inkOpacity⟩
      :: (if e.style.boxOpacity = 0 then []
          else [⟨dimIf e.dimmed e.style.dim e.style.box, e.style.boxOpacity⟩])

/-- Place samples at a column in order. -/
def placeAll (line x : Nat) : List Sample → State → State
  | [], s => s
  | m :: ms, s => placeAll line x ms (s.place line x m)

/-! ### Reading sectors -/

/-- The builder reads the sector of a source pixel, R99, considering the prefetch of R107 at the first
read on the line, or once the demand entry is made after a wait for room or for a way. The Bool says
that the sector's values may be taken now. -/
def State.readFor (q : PixelSource) (s : State) : State × Bool :=
  let first := !s.builder.reader.seen.contains (q.tile, q.sector)
  let out := s.cache.read q.tile q.sector
  let owes := first || s.builder.reader.owed
  let seen := if first then (q.tile, q.sector) :: s.builder.reader.seen else s.builder.reader.seen
  let cache := match out.2 with
    | .hit | .joined | .demanded => if owes then out.1.considerPrefetch q.photo q.tile q.sector else out.1
    | .noRoom | .noWay => out.1
  let reader : Reader := match out.2 with
    | .hit => ⟨some (q.tile, q.sector), seen, false, .nothing⟩
    | .joined | .demanded => ⟨none, seen, false, .fill q.tile q.sector⟩
    | .noRoom => ⟨none, seen, owes, .room⟩
    | .noWay => ⟨none, seen, owes, .way⟩
  ({ s with cache := cache, builder := { s.builder with reader := reader } }, out.2 == .hit)

/-- Have the sector a column needs at hand: none needed, the sector of the column before (R56), or a
read. The Bool says that the column can be produced now. DESIGN CHOICE, log 35: a column whose sector the region had
held earlier, but not for the column before (a PRICE of digits 1 2 1), is read and used again, as R56 and R99 have it;
R100 says of one read that it serves every column of its sector. -/
def State.fetch (src : Option PixelSource) (s : State) : State × Bool :=
  match src with
  | none => (s, true)
  | some q => if s.builder.reader.held = some (q.tile, q.sector) then (s, true) else s.readFor q

/-- The four bytes of a source pixel as the cache holds them. -/
def State.pixelBytes (s : State) (src : Option PixelSource) : List Byte :=
  match src with
  | none => []
  | some q => (((s.cache.valid? q.tile q.sector).getD []).drop q.byte).take 4

/-! ### Producing regions and lines -/

/-- Produce `n` columns of an entry from column `x` on; the result says at which column the builder
waits, if it does (R56). -/
def produce (e : LineEntry) (line : Nat) : Nat → Nat → State → State × Option Nat
  | 0, _, s => (s, none)
  | n + 1, x, s =>
    match s.fetch (e.source line x) with
    | (s1, false) => (s1, some x)
    | (s1, true) =>
      produce e line n (x + 1) (placeAll line x (e.samples (s1.pixelBytes (e.source line x))) s1)

/-- The builder begins or leaves a region: nothing held, nothing read, nothing awaited. -/
def State.readerIdle (s : State) : State := { s with builder := { s.builder with reader := .idle } }

/-- Work on one entry of the line list from where it stands; the Bool says that it is done. -/
def workEntry (line : Nat) (e : LineEntry) (s : State) : LineEntry × State × Bool :=
  match e.progress, e.span with
  | .done, _ => (e, s, true)
  | _, none => ({ e with progress := .done }, s, true)
  | .notStarted, some (a, b) =>
    match produce e line (b + 1 - a) a s.readerIdle with
    | (s1, none) => ({ e with progress := .done }, s1, true)
    | (s1, some x) => ({ e with progress := .inProgress x }, s1, false)
  | .inProgress next, some (_, b) =>
    match produce e line (b + 1 - next) next s with
    | (s1, none) => ({ e with progress := .done }, s1, true)
    | (s1, some x) => ({ e with progress := .inProgress x }, s1, false)

/-- Work through the line list in its order, one region wholly before the next (R59); the Bool says that
the line is complete. -/
def workList (line : Nat) : List LineEntry → State → List LineEntry × State × Bool
  | [], s => ([], s, true)
  | e :: es, s =>
    match workEntry line e s with
    | (e1, s1, false) => (e1 :: es, s1, false)
    | (e1, s1, true) =>
      match workList line es s1 with
      | (es2, s2, ok) => (e1 :: es2, s2, ok)

/-- Take up the next line where R48 allows it: a view, a canvas line, a free ring entry. DESIGN CHOICE, log 37: R48
alone decides, so that after a line y that no ring entry holds (R64) four lines, y + 1 to y + 4, can be taken up before
the output line start of line y + 1, where R60 says at most three lines ahead, and y + 4 only at that line start. -/
def State.takeUp (s : State) : Option State :=
  match s.builder.view with
  | none => none
  | some v =>
    if s.builder.nextLine < v.height ∧ s.builder.ring.length < 4 then
      let y := s.builder.nextLine
      let made := lineList (s.tables.bank v.bank) v y
      some (State.raiseAll made.2
        { s with
          builder :=
            { s.builder with
              work := some ⟨y, made.1⟩
              nextLine := y + 1
              reader := .idle
              ring := s.builder.ring ++ [⟨y, []⟩] } })
    else none

/-- The builder works on until it waits for a sector, room, a way or a ring entry, or has no line left.
The first argument bounds the steps: with four ring entries ten suffice. -/
def runBuilder : Nat → State → State
  | 0, s => s
  | n + 1, s =>
    match s.builder.work with
    | some w =>
      if s.builder.reader.wait ≠ .nothing then s
      else
        match workList w.line w.entries s with
        | (_, s1, true) =>
          runBuilder n { s1 with builder := { s1.builder with work := none, reader := .idle } }
        | (es, s1, false) => { s1 with builder := { s1.builder with work := some ⟨w.line, es⟩ } }
    | none =>
      match s.takeUp with
      | none => s
      | some s1 => runBuilder n s1

/-- The builder goes on from where it stands. -/
def State.build (s : State) : State := runBuilder 10 s

/-- What a fill completion does to a waiting builder, before it goes on: at the completion it awaits it
takes the values, a use, where the sector is now valid, and otherwise reads again; a builder waiting for
room or for a way reads again at every completion (R102). -/
def State.wake (tile sector : Nat) (s : State) : State :=
  match s.builder.reader.wait with
  | .nothing => s
  | .room | .way =>
    { s with builder := { s.builder with reader := { s.builder.reader with wait := .nothing } } }
  | .fill t n =>
    if t = tile ∧ n = sector then
      if s.cache.valid? tile sector ≠ none then
        { s with
          cache := s.cache.use tile
          builder := { s.builder with
            reader := { s.builder.reader with held := some (tile, sector), wait := .nothing } } }
      else
        { s with builder := { s.builder with reader := { s.builder.reader with wait := .nothing } } }
    else s

/-! ### Frame close, frame view, line deadline -/

/-- Close the frame before, R45: the ring is freed, the work and the view dropped, the late-line count
set to 0 (it has been handed over). -/
def State.closeBuilder (s : State) : State := { s with builder := .atReset }

/-- Freeze the frame view at scene settled, R46. -/
def State.freezeView (s : State) : State :=
  { s with
    builder :=
      { s.builder with
        view := some
          { bank := s.tables.active
            page := s.scene.page
            threshold := s.scene.threshold
            width := s.raster.record.width
            height := s.raster.record.height
            duringLoad := s.loading } } }

/-- Standby samples on a ring line over `n` columns from `x` on, R63. -/
def standbyFill (colour : Rgb) : Nat → Nat → List (Nat × Pixel) → List (Nat × Pixel)
  | 0, _, px => px
  | n + 1, x, px =>
    let p := standbyPixel colour (pixelAt px x)
    standbyFill colour n (x + 1) (if p = .fresh then px else setPixel px x p)

/-- The entry in progress at a deadline: its style's standby colour, next column and last column. -/
def inProgressSpan : List LineEntry → Option (Rgb × Nat × Nat)
  | [] => none
  | e :: es =>
    match e.progress, e.span with
    | .inProgress next, some (_, last) => some (e.style.standby, next, last)
    | _, _ => inProgressSpan es

/-- A canvas line is late: LATE_LINE, and the late-line count rises by 1 (R63, R64, R66). -/
def State.lineLate (s : State) : State :=
  { s.raise .lateLine with builder := { s.builder with late := s.builder.late + 1 } }

/-- R63: work on line `y` ends at once with standby samples for the region in progress. -/
def State.endWork (w : Work) (s : State) : State :=
  let ring := match inProgressSpan w.entries with
    | none => s.builder.ring
    | some (c, next, last) =>
      s.builder.ring.map fun e =>
        if e.line = w.line then { e with pixels := standbyFill c (last + 1 - next) next e.pixels } else e
  { s with builder := { s.builder with ring := ring, work := none, reader := .idle } }.lineLate

/-- The canvas height the builder builds to: the view's, or the record's while no view is frozen. -/
def State.canvasHeight (s : State) : Nat :=
  match s.builder.view with
  | some v => v.height
  | none => s.raster.record.height

/-- R64: a line not taken up is late with no samples, and is resolved. -/
def State.neverTakenUp (y : Nat) (s : State) : State :=
  { s.lineLate with builder := { s.lineLate.builder with nextLine := y + 1 } }

/-- The line deadline of line `y`, R62 to R64. -/
def State.deadline (y : Nat) (s : State) : State :=
  if s.canvasHeight ≤ y then s
  else
    match s.builder.work with
    | some w =>
      if w.line = y then s.endWork w
      else if s.builder.nextLine ≤ y then s.neverTakenUp y else s
    | none => if s.builder.nextLine ≤ y then s.neverTakenUp y else s

/-- The output line start of line `y` frees the ring entry of line y − 1 (R60). -/
def State.freeLineBefore (y : Nat) (s : State) : State :=
  { s with builder := { s.builder with ring := s.builder.ring.filter fun e => e.line + 1 != y } }

end Sys2Proof.Machine
end

