-- ==== Sys2Proof/Machine/Mixer.lean ====
section
/-! DEFINITION. The mixer (R61, R75 to R79), the panel output (R17), and the watch rectangle computed over
the mixer's output (R170). -/

namespace Sys2Proof.Machine

/-- The output pixels of a line from column `x` on: canvas columns blended over the background, columns at
or beyond the canvas width passed through (R75, R78). -/
def mixLine (px : List (Nat × Pixel)) (width : Nat) : Nat → List Rgb → List Rgb
  | _, [] => []
  | x, u :: us =>
    (if x < width then blendSlots (pixelAt px x).slots u else u) :: mixLine px width (x + 1) us

/-- The pixels of line `y` over a background line; lines at or beyond the canvas height, and canvas lines
without a ring entry, are the background alone (R61, R78). -/
def State.mixed (y : Nat) (background : List Rgb) (s : State) : List Rgb :=
  if y < s.raster.record.height then
    mixLine (ringPixels s.builder.ring y) s.raster.record.width 0 background
  else background

/-- The watch rectangle clipped to the canvas of the frame raster record: first and past-the-last column,
first and past-the-last line; none when it holds no pixel (R170). -/
def State.watchClip (s : State) : Option (Nat × Nat × Nat × Nat) :=
  match s.status.watch with
  | none => none
  | some r =>
    let x1 := min (r.x + r.width) s.raster.record.width
    let y1 := min (r.y + r.height) s.raster.record.height
    if r.x < x1 ∧ r.y < y1 then some (r.x, x1, r.y, y1) else none

/-- The watch computation takes in an output line, R170. -/
def State.watchLine (y : Nat) (out : List Rgb) (s : State) : State :=
  match s.watchClip with
  | none => s
  | some (x0, x1, y0, y1) =>
    if y0 ≤ y ∧ y < y1 then
      let run := s.status.watchRun
      let run' : WatchRun :=
        if x1 ≤ out.length then
          { run with
            crc := crcMore run.crc (columnBytes ((out.drop x0).take (x1 - x0)))
            rows := run.rows + 1 }
        else { run with whole := false }
      { s with status := { s.status with watchRun := run' } }
    else s

/-- The watch result of the frame just ended: its CRC where every pixel of the clipped rectangle was
sent, none where it is invalid (R170). -/
def State.watchResult (s : State) : Option (BitVec 16) :=
  match s.watchClip with
  | none => none
  | some (_, _, y0, y1) =>
    if s.status.watchRun.whole ∧ s.status.watchRun.rows = y1 - y0 then some s.status.watchRun.crc else none

/-- The mixer composes line `y` over its background and sends it to the panel with data-valid. -/
def State.mix (y : Nat) (background : List Rgb) (s : State) : State :=
  let out := s.mixed y background
  { s with panel := ⟨.pixels out, true⟩ }.watchLine y out

/-- A blanking line without data-valid to the panel, R17. -/
def State.blankLine (s : State) : State := { s with panel := ⟨.blanking, false⟩ }

/-- The cut line makes the watch result invalid where a pixel of the clipped rectangle had not been
sent. -/
def State.watchCut (sent : Nat) (s : State) : State :=
  match s.watchClip with
  | none => s
  | some (_, x1, y0, y1) =>
    if y0 + 1 ≤ s.raster.nextLine ∧ s.raster.nextLine ≤ y1 ∧ sent < x1 then
      { s with status := { s.status with watchRun := { s.status.watchRun with whole := false } } }
    else s

/-- An output line in progress is ended at once, its remainder sent as blanking (R13, R14, R79); how many
of its pixels had been sent is a free value (log 18). -/
def State.cutLine (s : State) : State :=
  match s.panel.line, s.panel.inProgress with
  | .pixels px, true =>
    let sent := Config.pixelsSent s.tick
    if px.length ≤ sent then { s.nextTick with panel := ⟨.pixels px, false⟩ }
    else { (s.watchCut sent).nextTick with panel := ⟨.cut (px.take sent), false⟩ }
  | _, _ => s

end Sys2Proof.Machine
end

