-- ==== Sys2Proof/Machine/Parser.lean ====
section
/-! DEFINITION. The packet parser (Section 9): framing a control line, the checks on a framed packet, and
dispatch into the four queues. -/

namespace Sys2Proof.Machine

/-- An accepted packet, by the queue its type names (R156). -/
inductive Packet where
  | table (c : TableCmd)
  | hot (c : HotCmd)
  | upload (u : Upload)
  | read (r : ReadReq)
deriving DecidableEq, Repr

/-- A packet accepted where its payload has the length its type requires (check 4 of R154). -/
def sized (n : Nat) (p : List Byte) (k : Packet) : Option Packet := if p.length = n then some k else none

/-- Payload length of a TABLE_WRITE, R157: exact for table codes 1 to 4, at least 7 for any other. -/
def tableWriteLengthOk (p : List Byte) : Bool :=
  let table := fieldAt 0 1 p
  let size := maskedSize (fieldAt 5 2 p) (fieldSizes table) 0
  decide (7 ≤ p.length) &&
    (decide (table = 0 ∨ 4 < table) || decide (p.length = 7 + fieldAt 4 1 p * size))

/-- The fields of a TABLE_WRITE payload, R163. -/
def tableWriteOf (p : List Byte) : TableWriteCmd where
  table := fieldAt 0 1 p
  start := fieldAt 1 2 p
  step := fieldAt 3 1 p
  count := fieldAt 4 1 p
  mask := fieldAt 5 2 p
  data := p.drop 7

/-- Checks 3 to 5 of R154 on a packet meant for this board: its type, its length for the type, and the
fixed fields of TILE_WRITE and READ_BACK. None: PACKET_BAD is set and the packet dropped. `ahead` is
the number of entries in the upload queue, which a FLIP_ARM's entry is given (R126). -/
def packetOf (ahead type : Nat) (p : List Byte) : Option Packet :=
  match type with
  | 0x10 => sized 0 p (.table .stageOpen)
  | 0x11 => if tableWriteLengthOk p then some (.table (.tableWrite (tableWriteOf p))) else none
  | 0x12 => sized 6 p (.table (.flipArm
      ⟨fieldAt 0 1 p, fieldAt 1 1 p, fieldAt 2 1 p, fieldAt 3 2 p, fieldAt 5 1 p, ahead⟩))
  | 0x13 => sized 0 p (.table .flipCancel)
  | 0x14 => sized 0 p (.table .stageDiscard)
  | 0x15 =>
    if 2 ≤ p.length ∧ p.length = 2 + maskedSize (fieldAt 0 2 p) configSizes 0 then
      some (.table (.configWrite (fieldAt 0 2 p) (p.drop 2)))
    else none
  | 0x16 => sized 0 p (.table .storeSave)
  | 0x17 => sized 0 p (.table .storeRecall)
  | 0x18 => sized 2 p (.table (.storeProtect (BitVec.ofNat 16 (fieldAt 0 2 p))))
  | 0x19 => sized 0 p (.table .restart)
  | 0x20 => sized 2 p (.hot (.itemState (fieldAt 0 1 p) (fieldAt 1 1 p)))
  | 0x21 => sized 1 p (.hot (.pageSet (fieldAt 0 1 p)))
  | 0x22 => sized 4 p (.hot (.pagePush (fieldAt 0 1 p) (fieldAt 1 2 p) (fieldAt 3 1 p)))
  | 0x23 => sized 0 p (.hot .pagePop)
  | 0x24 => sized 1 p (.hot (.thresholdSet (fieldAt 0 1 p)))
  | 0x25 => sized 8 p (.hot (.watchSet ⟨fieldAt 0 2 p, fieldAt 2 2 p, fieldAt 4 2 p, fieldAt 6 2 p⟩))
  | 0x26 => sized 3 p (.hot (.eventClear (BitVec.ofNat 24 (fieldAt 0 3 p))))
  | 0x30 =>
    if fieldAt 0 2 p ≤ 32767 ∧ fieldAt 2 1 p ≤ 3 then
      sized 259 p (.upload ⟨fieldAt 0 2 p, fieldAt 2 1 p, p.drop 3⟩)
    else none
  | 0x38 =>
    if 1 ≤ fieldAt 0 1 p ∧ fieldAt 0 1 p ≤ 3 then
      sized 5 p (.read ⟨fieldAt 0 1 p, fieldAt 1 1 p, fieldAt 2 3 p⟩)
    else none
  | _ => none

/-- Dispatch, R155: to the tail of its queue, or dropped with that queue's flag where it is full. -/
def dispatch (k : Packet) (s : State) : State :=
  match k with
  | .table c =>
    if s.scene.tableQ.length < 64 then
      { s with scene := { s.scene with tableQ := s.scene.tableQ ++ [c] } }
    else s.raise .tableFull
  | .hot c =>
    if s.scene.hotQ.length < 16 then
      { s with scene := { s.scene with hotQ := s.scene.hotQ ++ [c] } }
    else s.raise .hotFull
  | .upload u =>
    if s.library.uploads.length < 32 then
      { s with library := { s.library with uploads := s.library.uploads ++ [u] } }
    else s.raise .uploadFull
  | .read r =>
    if s.status.readQ.length < 4 then
      { s with status := { s.status with readQ := s.status.readQ ++ [r] } }
    else s.raise .readFull

/-- Checks 2 to 5 of R154 on a packet whose CRC matches, then dispatch. -/
def checkPacket (type target : Nat) (payload : List Byte) (s : State) : State :=
  if target.testBit s.straps.board then
    match packetOf s.library.uploads.length type payload with
    | some k => dispatch k s
    | none => s.raise .packetBad
  else s

/-- Framing of a control line from a position on (R153) and the CRC check (check 1 of R154). The first
argument bounds the number of packets; the line's length suffices. -/
def parseFrom : Nat → List Byte → State → State
  | 0, _, s => s
  | _ + 1, [], s => s
  | n + 1, b :: bs, s =>
    if b = 0 then s
    else if (b :: bs).length < 4 then s.raise .packetBad
    else
      let len := fieldAt 2 2 (b :: bs)
      if 1018 < len then s.raise .packetBad
      else if (b :: bs).length < 4 + len + 2 then s.raise .packetBad
      else if crcBytes (crc16 ((b :: bs).take (4 + len))) ≠ ((b :: bs).drop (4 + len)).take 2 then
        s.raise .packetBad
      else
        parseFrom n ((b :: bs).drop (4 + len + 2))
          (checkPacket b.toNat (fieldAt 1 1 (b :: bs)) (((b :: bs).drop 4).take len) s)

/-- A control line's byte stream parsed from its first byte; nothing is carried to the next line. -/
def parseLine (stream : List Byte) (s : State) : State := parseFrom stream.length stream s

/-- A packet in the layout of R160 with its CRC. -/
def framePacket (type target : Nat) (payload : List Byte) : List Byte :=
  let body := beBytes 1 type ++ beBytes 1 target ++ beBytes 2 payload.length ++ payload
  body ++ crcBytes (crc16 body)

end Sys2Proof.Machine
end

