-- ==== Sys2Proof/Machine/StatusUnit.lean ====
section
/-! DEFINITION. The status unit (Section 10): the status packet, and read-back. -/

namespace Sys2Proof.Machine

/-- Lock state codes, R164. -/
def Lock.code : Lock → Nat
  | .unlocked => 0
  | .acquiring1 => 1
  | .acquiring2 => 2
  | .locked => 3
  | .slipping1 => 4
  | .slipping2 => 5

/-- Scene state codes, R164. -/
def Phase.code : Phase → Nat
  | .settled => 0
  | .seeding => 1
  | .editing => 2
  | .draining => 3
  | .armedLocal => 4
  | .armedGroup => 5
  | .committed => 6
  | .saving => 7
  | .recalling => 8

/-- Store state codes, R164. -/
def StoreState.code : StoreState → Nat
  | .none => 0
  | .loading => 1
  | .unprogrammed => 2
  | .loaded => 3
  | .failed => 4

/-- The reply to a request for an active or staging entry, from the entry as it stands now (R169). -/
def State.tableReply (q : ReadReq) (s : State) : Reply :=
  let k := if q.target = 1 then s.activeBank else s.stagingBank
  if 1 ≤ q.table ∧ q.index < tableSize q.table then
    ⟨q.target, q.table, q.index, 0, padTo 20 (k.encodeEntry q.table q.index)⟩
  else ⟨q.target, q.table, q.index, 1, List.replicate 20 0⟩

/-- The last-refusal record as it is sent; an empty one is five zero bytes (R164). -/
def refusalBytes : Option LastRefusal → List Byte
  | none => List.replicate 5 0
  | some r => beBytes 1 r.packet ++ beBytes 1 r.reason ++ beBytes 1 r.table ++ beBytes 2 r.index

/-- A reply as it is sent, 26 bytes (R164). -/
def replyBytes (r : Reply) : List Byte :=
  beBytes 1 r.target ++ beBytes 1 r.table ++ beBytes 3 r.index ++ beBytes 1 r.result ++ padTo 20 r.data

/-- The reply a packet carries: the store reply taken at the frame start, or the answer to the table
request taken there. -/
def State.draftReply (d : StatusDraft) (s : State) : Option Reply :=
  match d.reply with
  | some r => some r
  | none => d.request.map s.tableReply

/-- The payload of a status packet, R164: what was taken at the frame start, and the rest as it stands at
scene settled (R166, R138). DESIGN CHOICE, log 38: bits 2 to 7 of the byte at offset 1, of which R164 says nothing, are
sent as 0. -/
def State.statusPayload (d : StatusDraft) (s : State) : List Byte :=
  beBytes 1 s.straps.board
    ++ beBytes 1 (boolCode (s.group.role == .leader) + 2 * boolCode s.group.participation)
    ++ beBytes 4 s.status.frameCount.toNat
    ++ beBytes 1 d.lock.code ++ beBytes 1 s.scene.phase.code
    ++ beBytes 2 s.scene.tag ++ beBytes 2 s.scene.generation
    ++ beBytes 1 s.scene.page ++ beBytes 1 s.scene.stack.length ++ beBytes 1 s.scene.threshold
    ++ beBytes 1 (64 - s.scene.tableQ.length) ++ beBytes 1 (16 - s.scene.hotQ.length)
    ++ beBytes 1 d.uploadFree ++ beBytes 1 d.readFree
    ++ beBytes 3 s.status.flags.toNat
    ++ refusalBytes s.status.refusal
    ++ beBytes 2 d.late
    ++ beBytes 2 (d.watch.getD 0).toNat ++ beBytes 1 (boolCode d.watch.isSome)
    ++ beBytes 1 s.store.state.code
    ++ (match s.draftReply d with
        | none => beBytes 1 0
        | some r => beBytes 1 1 ++ replyBytes r)

/-- The whole status packet: type 50 hex, target mask holding only this board's bit. -/
def State.statusPacket (d : StatusDraft) (s : State) : List Byte :=
  framePacket 0x50 (2 ^ s.straps.board) (s.statusPayload d)

/-- The status unit takes at most one read request at an output frame start, R166, R169: none while a
store read is outstanding or when this packet carries a store reply; a store request is handed to the
store controller. The results are the table request taken and the store reply carried. -/
def State.serveRead (s : State) : State × Option ReadReq × Option Reply :=
  match s.status.storeReply, s.status.storeRead, s.status.readQ with
  | some r, _, _ => ({ s with status := { s.status with storeReply := none } }, none, some r)
  | none, some _, _ => (s, none, none)
  | none, none, [] => (s, none, none)
  | none, none, q :: qs =>
    if q.target = 3 then
      ({ s with status := { s.status with readQ := qs, storeRead := some q } }, none, none)
    else ({ s with status := { s.status with readQ := qs } }, some q, none)

/-- The status unit begins a packet at an output frame start, R166, with the watch result and the
late-line count of the frame just ended; the watch computation starts afresh (R170). -/
def State.beginStatus (watch : Option (BitVec 16)) (late : Nat) (s : State) : State :=
  let taken := s.serveRead
  let s1 := taken.1
  { s1 with
    status :=
      { s1.status with
        frameCount := if s1.status.framed then s1.status.frameCount + 1 else s1.status.frameCount
        framed := true
        watchRun := ⟨0xFFFF, 0, true⟩
        draft := some
          { lock := s1.raster.lock
            late := late
            watch := watch
            uploadFree := 32 - s1.library.uploads.length
            readFree := 4 - s1.status.readQ.length
            request := taken.2.1
            reply := taken.2.2 } } }

/-- An output frame start cuts off the packet still being sent, R166: how many of its bytes the return lane had
carried is a free value (log 22), and a reply among the rest is lost. -/
def State.cutPacket (s : State) : State :=
  match s.status.lane with
  | [] => { s with status := { s.status with laneBefore := [] } }
  | bs =>
    { s.nextTick with
      status := { s.status with lane := [], laneBefore := bs.take (Config.bytesSent s.tick) } }

/-- The packet is completed at scene settled and sent on the return lane, R166. -/
def State.completeStatus (s : State) : State :=
  match s.status.draft with
  | none => s
  | some d => { s with status := { s.status with lane := s.statusPacket d, draft := none } }

end Sys2Proof.Machine
end

