-- ==== Sys2Proof/Machine/ConfigApply.lean ====
section
/-! DEFINITION. Writing configuration fields (R128, R159) into the blocks that own them, and the credit
window (R113, R114). -/

namespace Sys2Proof.Machine

/-- The credit settings after a write, R114: a window begins when L becomes nonzero, ends when L becomes
0, and otherwise keeps its length and limit until its restart. -/
def Library.configureCredit (lines limit : Option Nat) (l : Library) : Library :=
  let newLines := lines.getD l.creditLines
  let newLimit := limit.getD l.creditLimit
  { l with
    creditLines := newLines
    creditLimit := newLimit
    window :=
      if newLines = 0 then none
      else if l.creditLines = 0 then some ⟨newLines, newLimit, 0, 0⟩
      else l.window }

/-- The raster settings after a write, R4, R5. -/
def Settings.configure (f : ConfigFields) (g : Settings) : Settings where
  wAct := f.wAct.getD g.wAct
  hAct := f.hAct.getD g.hAct
  lossMs := f.lossMs.getD g.lossMs
  periodMs := f.periodMs.getD g.periodMs
  colour := f.colour.getD g.colour

/-- Every masked field is written, together (R128, R159). -/
def State.applyConfig (f : ConfigFields) (s : State) : State :=
  { s with
    raster := { s.raster with settings := s.raster.settings.configure f }
    library := s.library.configureCredit f.creditLines f.creditLimit
    group := s.group.configure f.role f.participation }

/-- The head of the upload queue is eligible for grant, R113. -/
def Library.creditRemains (l : Library) : Bool :=
  match l.window with
  | none => true
  | some w => decide (w.grants < w.limit)

/-- An output line start counts in the credit window, R113. -/
def State.creditLine (s : State) : State :=
  match s.library.window with
  | none => s
  | some w => { s with library := { s.library with window := some { w with lines := w.lines + 1 } } }

/-- A grant of an upload counts in the credit window, R113. -/
def Library.creditGrant (l : Library) : Library :=
  match l.window with
  | none => l
  | some w => { l with window := some { w with grants := w.grants + 1 } }

/-- The lines-elapsed count has reached the window's length: CREDIT_WINDOW_RESTART is due (R113). -/
def State.creditDue (s : State) : Bool :=
  match s.library.window with
  | none => false
  | some w => decide (w.length ≤ w.lines)

/-- The window restarts: both counts 0, with the length and limit now in force (R113, R114). -/
def State.creditRestarts (s : State) : State :=
  { s with library := { s.library with window := some ⟨s.library.creditLines, s.library.creditLimit, 0, 0⟩ } }

end Sys2Proof.Machine
end

