-- ==== Sys2Proof/Machine/StoreControl.lean ====
section
/-! DEFINITION. The store controller and loader (Section 11, R165): reading an image, writing one, the
protect record, store read-back. -/

namespace Sys2Proof.Machine

/-! ### The image as it stands in the store -/

/-- Bytes in a block of the store, R172. -/
def blockSize : Nat := 1048576

/-- Size of the store in bytes. -/
def State.storeSize (s : State) : Nat := s.straps.blocks * blockSize

/-- Bytes of the store. -/
def flashBytes (m : List Host.Cell) (a n : Nat) : List Byte := memReadBytes flashFill m a n

/-- One application of the loader: a configuration, a table entry in full encoding, or a sector of a
tile. -/
inductive ImageAct where
  | config (f : ConfigFields)
  | entry (table index : Nat) (bytes : List Byte)
  | sector (tile sector : Nat) (bytes : List Byte)
deriving DecidableEq, Repr

/-- How reading an image ends, R174. -/
inductive LoadOutcome where
  | noStore
  | unprogrammed
  | failed
  | loaded (tag : Nat)
deriving DecidableEq, Repr

/-- An entry in full encoding holds only values within their fields' ranges, and a directory entry meets
the extent condition (R174). -/
def entryValid (table : Nat) (bs : List Byte) : Bool :=
  match table with
  | 1 => (writeMasked regionField (fullMask 1) (fieldSizes 1) 0 bs .cleared).isSome
  | 2 => (writeMasked itemField (fullMask 2) (fieldSizes 2) 0 bs .cleared).isSome
  | 3 => (writeMasked styleField (fullMask 3) (fieldSizes 3) 0 bs .cleared).isSome
  | 4 => (photoWritten (fullMask 4) bs .cleared).isSome
  | _ => false

/-- The applications of `n` entries from index `i` on, up to the first fault; the Bool says there is
none. -/
def entryActs (table : Nat) : Nat → Nat → List Byte → List ImageAct × Bool
  | 0, _, _ => ([], true)
  | n + 1, i, bs =>
    let size := (fieldSizes table).sum
    if i < tableSize table ∧ entryValid table (bs.take size) = true then
      let rest := entryActs table n (i + 1) (bs.drop size)
      (.entry table i (bs.take size) :: rest.1, rest.2)
    else ([], false)

/-- The applications of `n` sectors, the `k`-th from the first tile on. -/
def sectorActs (first : Nat) : Nat → Nat → List Byte → List ImageAct
  | 0, _, _ => []
  | n + 1, k, bs => .sector (first + k / 4) (k % 4) (bs.take 256) :: sectorActs first n (k + 1) (bs.drop 256)

/-- Table code of a table section's kind, R165. -/
def sectionTable : Nat → Nat
  | 2 => 3
  | 3 => 2
  | 4 => 1
  | 5 => 4
  | _ => 0

/-- The applications of a section's payload, and whether it is without fault but for its CRC (R165, R174).
DESIGN CHOICE, log 14: a payload whose length is not the one its own head gives is a fault; and of a faulty
section, a table section applies its entries up to the fault (`entryActs`), while a payload of a wrong length and
a TILES section past tile 32767 apply nothing. -/
def sectionActs (kind : Nat) (payload : List Byte) : List ImageAct × Bool :=
  let first := fieldAt 0 2 payload
  let count := fieldAt 2 2 payload
  match kind with
  | 1 =>
    if 2 ≤ payload.length ∧ payload.length = 2 + maskedSize first configSizes 0 then
      ([.config (configFields first (payload.drop 2))], true)
    else ([], false)
  | 2 | 3 | 4 | 5 =>
    let table := sectionTable kind
    if 4 ≤ payload.length ∧ payload.length = 4 + count * (fieldSizes table).sum then
      entryActs table count first (payload.drop 4)
    else ([], false)
  | 6 =>
    if 4 ≤ payload.length ∧ payload.length = 4 + count * 1024 ∧ first + count ≤ 32768 then
      (sectorActs first (count * 4) 0 (payload.drop 4), true)
    else ([], false)
  | _ => ([], false)

/-- The applications of `n` sections from an address on, up to the first fault. The last section must end
with the last byte of the image length (R174). DESIGN CHOICE, log 14: a section that runs past the image length
applies nothing of itself; a section of a wrong CRC has been applied, as R174 checks the CRC after it. -/
def imageSections (m : List Host.Cell) (len : Nat) : Nat → Nat → List ImageAct × Bool
  | 0, _ => ([], true)
  | n + 1, a =>
    let kind := beValue (flashBytes m a 1)
    let plen := beValue (flashBytes m (a + 1) 4)
    let next := a + 5 + plen + 2
    if len < next then ([], false)
    else
      let acts := sectionActs kind (flashBytes m (a + 5) plen)
      if !acts.2 || crcBytes (crc16 (flashBytes m a (5 + plen))) != flashBytes m (a + 5 + plen) 2
          || (n == 0 && next != len) then (acts.1, false)
      else
        let rest := imageSections m len n next
        (acts.1 ++ rest.1, rest.2)

/-- Everything the loader applies, in order, and how the reading ends (R174). -/
def readImage (blocks : Nat) (m : List Host.Cell) : List ImageAct × LoadOutcome :=
  if blocks = 0 then ([], .noStore)
  else if flashBytes m 0 4 ≠ [0x4D, 0x45, 0x4E, 0x55] then ([], .unprogrammed)
  else
    let len := beValue (flashBytes m 4 4)
    if blocks * blockSize - 4096 < len then ([], .failed)
    else
      let sections := imageSections m len (beValue (flashBytes m 10 1)) 11
      (sections.1, if sections.2 then .loaded (beValue (flashBytes m 8 2)) else .failed)

/-! ### Applying the image -/

/-- One application by the start-up loader: into the active bank, the configuration, library memory
(R174, R116). -/
def loadAct (c : ImageAct) (s : State) : State :=
  match c with
  | .config f => s.applyConfig f
  | .entry table i bs =>
    match s.activeBank.writeEntry table (fullMask table) i bs with
    | some k => s.setActive k
    | none => s
  | .sector tile n bs => s.writeSector tile n bs

/-- One application by a RECALL: entries into staging; CONFIG and TILES are skipped (R175). -/
def recallAct (c : ImageAct) (s : State) : State :=
  match c with
  | .entry table i bs =>
    match s.stagingBank.writeEntry table (fullMask table) i bs with
    | some k => s.setStaging k
    | none => s
  | .config _ => s
  | .sector _ _ _ => s

/-- Apply up to `n` applications in order; the number says how many were applied. -/
def applyActs (f : ImageAct → State → State) : List ImageAct → Nat → State → State × Nat
  | [], _, s => (s, 0)
  | _ :: _, 0, s => (s, 0)
  | c :: cs, n + 1, s =>
    let r := applyActs f cs n (f c s)
    (r.1, r.2 + 1)

/-- What the image still holds for the loader, or a RECALL, to apply. -/
def State.imageRest (s : State) : List ImageAct :=
  (readImage s.straps.blocks s.store.flash).1.drop s.store.imagePos

/-- Apply up to `n` further pieces of the image and note how far it has come. -/
def State.applyImage (f : ImageAct → State → State) (n : Nat) (s : State) : State :=
  let r := applyActs f s.imageRest n s
  { r.1 with store := { r.1.store with imagePos := s.store.imagePos + r.2 } }

/-- Apply all that is left of the image. -/
def State.applyImageRest (f : ImageAct → State → State) (s : State) : State :=
  s.applyImage f s.imageRest.length

/-- How the reading of the image in the store ends. -/
def State.imageOutcome (s : State) : LoadOutcome := (readImage s.straps.blocks s.store.flash).2

/-- The store state that an outcome gives, R174, R175. -/
def LoadOutcome.storeState : LoadOutcome → StoreState
  | .noStore => .none
  | .unprogrammed => .unprogrammed
  | .failed => .failed
  | .loaded _ => .loaded

/-- Set the store state. -/
def State.setStoreState (st : StoreState) (s : State) : State :=
  { s with store := { s.store with state := st } }

/-- The end of the start-up load, R174: on LOADED the active tag becomes the header's; on FAILED
STORE_FAULT is set and the active bank is cleared again (R43). -/
def State.loadEnds (s : State) : State :=
  let s1 := s.applyImageRest loadAct
  match s.imageOutcome with
  | .noStore => s1.setStoreState .none
  | .unprogrammed => s1.setStoreState .unprogrammed
  | .failed => ((s1.setActive .cleared).raise .storeFault).setStoreState .failed
  | .loaded tag => { s1 with scene := { s1.scene with tag := tag } }.setStoreState .loaded

/-- The end of a RECALL, R175: EDITING on success; STORE_FAULT and SETTLED on failure. -/
def State.recallEnds (s : State) : State :=
  let s1 := (s.applyImageRest recallAct).setStoreState s.imageOutcome.storeState
  match s.imageOutcome with
  | .loaded _ => { s1 with scene := { s1.scene with phase := .editing } }
  | .noStore | .unprogrammed | .failed =>
    { s1.raise .storeFault with scene := { s1.scene with phase := .settled } }

/-! ### The protect record -/

/-- Address of a block's byte in the protect record, the last 16 bytes of the store (R165). -/
def recordAddr (blocks block : Nat) : Nat := blocks * blockSize - 16 + block

/-- Sixteen marks from a function of the block. -/
def marksOf (f : Nat → Bool) : BitVec 16 :=
  (List.range 16).foldl (fun v b => if f b then v ||| ((1 : BitVec 16) <<< b) else v) 0

/-- The copy of the marks at bit `bit` of the record bytes; with no store every block is unprotected
(R173). -/
def recordMarks (blocks bit : Nat) (m : List Host.Cell) : BitVec 16 :=
  if blocks = 0 then 0xFFFF
  else marksOf fun b => (memRead flashFill m (recordAddr blocks b)).getLsbD bit

/-- The store controller reads the protect record, R173. -/
def Store.readRecord (blocks : Nat) (st : Store) : Store :=
  { st with
    writeMarks := recordMarks blocks 7 st.flash
    readMarks := recordMarks blocks 6 st.flash }

/-- A block's record byte as its marks give it, bits 0 to 5 written as 1 (R165). -/
def recordByte (st : Store) (b : Nat) : Byte :=
  (if st.writeMarks.getLsbD b then 0x80 else 0) ||| (if st.readMarks.getLsbD b then 0x40 else 0) ||| 0x3F

/-- The page program of the protect record, 16 bytes of one page: the record bytes of the blocks named, FF hex
for the others; bits of `notReached` stay as they are (R178). -/
def programRecord (blocks : Nat) (st : Store) (notReached : Nat → Byte) (named : BitVec 16)
    (m : List Host.Cell) : List Host.Cell :=
  flashProgramPage m (recordAddr blocks 0)
    ((List.range 16).map fun b => if named.getLsbD b then recordByte st b ||| notReached b else 0xFF)

/-- The page program of the protect record ends, R178. -/
def State.protectEnds (s : State) : State :=
  match s.store.protectJob with
  | none => s
  | some named =>
    { s with
      store :=
        { s.store with
          flash := programRecord s.straps.blocks s.store (fun _ => 0) named s.store.flash
          protectJob := none } }

/-- A protect program in progress stops, the record as far as it had reached (R178, R179): which bits had
been cleared is a free value (log 17). -/
def State.protectStops (s : State) : State :=
  match s.store.protectJob with
  | none => s
  | some named =>
    { s.nextTick with
      store :=
        { s.store with
          flash := programRecord s.straps.blocks s.store
            (fun b => Config.bitsNotReached s.tick (recordAddr s.straps.blocks b % pageSize)) named s.store.flash
          protectJob := none } }

/-- STORE_PROTECT on the copy, R178: for each block named the write-protect mark is cleared, or, where it
was already 0, the read-protect mark. DESIGN CHOICE, log 32: a mask that names no block begins a page program
too, one that clears no bit, so that store commands are BUSY until its completion. -/
def Store.protect (named : BitVec 16) (st : Store) : Store :=
  { st with
    writeMarks := st.writeMarks &&& ~~~named
    readMarks := st.readMarks &&& ~~~(named &&& ~~~st.writeMarks)
    protectJob := some named }

/-! ### Saving -/

/-- Size of an image with `n` pinned areas, R176. -/
def imageSize (n : Nat) : Nat := 9997 + n * 1048587

/-- A save finds no room, R176; with no store strapped never. -/
def State.noRoom (s : State) : Bool :=
  s.straps.blocks == 0 || decide (s.storeSize - 4096 < imageSize s.pinnedAreas.length)

/-- Some block from block 0 to the block of the image's last byte is write-protected, R176. -/
def State.saveProtected (s : State) : Bool :=
  (List.range ((imageSize s.pinnedAreas.length - 1) / blockSize + 1)).any fun b =>
    !s.store.writeMarks.getLsbD b

/-- The opening bytes of a section: kind and payload length, R165. -/
def sectionStart (kind plen : Nat) : List Byte := beBytes 1 kind ++ beBytes 4 plen

/-- The CONFIG section's payload: mask bits 0 to 6, the raster and credit settings in force (R176). -/
def State.configPayload (s : State) : List Byte :=
  beBytes 2 0x7F ++ beBytes 2 s.raster.settings.wAct ++ beBytes 2 s.raster.settings.hAct
    ++ beBytes 2 s.raster.settings.lossMs ++ beBytes 1 s.raster.settings.periodMs
    ++ rgbBytes s.raster.settings.colour
    ++ beBytes 2 s.library.creditLines ++ beBytes 1 s.library.creditLimit

/-- The units of a table section: its start, its entries, its CRC. -/
def tableUnits (kind : Nat) : List SaveUnit :=
  let table := sectionTable kind
  let n := tableSize table
  .start (sectionStart kind (4 + n * (fieldSizes table).sum) ++ beBytes 2 0 ++ beBytes 2 n)
    :: ((List.range n).map fun i => SaveUnit.entry table i) ++ [.crc]

/-- The units of an image before its tiles: CONFIG, STYLE, ITEM, REGION, DIRECTORY (R176). -/
def State.saveUnits (s : State) : List SaveUnit :=
  .start (sectionStart 1 15 ++ s.configPayload) :: .crc
    :: (tableUnits 2 ++ tableUnits 3 ++ tableUnits 4 ++ tableUnits 5)

/-- An entry as a save writes it: every item with state AVAILABLE, except a WITHDRAWN one (R176). -/
def savedEntry (k : Bank) (table i : Nat) : List Byte :=
  if table = 2 then
    let it := k.item i
    encodeItem { it with state := if it.state = .withdrawn then .withdrawn else .available }
  else k.encodeEntry table i

/-- Bytes of the running section are formed behind those formed before. -/
def formBytes (bs : List Byte) (j : SaveJob) : SaveJob :=
  { j with page := j.page ++ bs, crc := crcMore j.crc bs }

/-- Form one unit of the image, a table entry as it stands now (R176). -/
def formUnit (k : Bank) (u : SaveUnit) (j : SaveJob) : SaveJob :=
  match u with
  | .start bs => formBytes bs { j with crc := 0xFFFF }
  | .entry table i => formBytes (savedEntry k table i) j
  | .crc => formBytes (crcBytes j.crc) j

/-- The bytes formed fill their program page to its end. -/
def SaveJob.pageFull (j : SaveJob) : Bool := decide (pageRoom j.addr ≤ j.page.length)

/-- Program the page in hand, R177: the bytes formed as far as they lie in it. -/
def saveProgram (r : SaveJob × List Host.Cell) : SaveJob × List Host.Cell :=
  let bs := r.1.page.take (pageRoom r.1.addr)
  ({ r.1 with addr := r.1.addr + bs.length, page := r.1.page.drop bs.length }, flashWritePage r.2 r.1.addr bs)

/-- One piece of a save's work: a full page is programmed, or else the next unit is formed. -/
def savePiece (k : Bank) (r : SaveJob × List Host.Cell) : SaveJob × List Host.Cell :=
  if r.1.pageFull then saveProgram r
  else
    match r.1.units with
    | [] => r
    | u :: us => (formUnit k u { r.1 with units := us }, r.2)

/-- Up to `n` pieces of a save's work. -/
def saveSome (k : Bank) : Nat → SaveJob × List Host.Cell → SaveJob × List Host.Cell
  | 0, r => r
  | n + 1, r => saveSome k n (savePiece k r)

/-- Form all the units left. -/
def formAll (k : Bank) : List SaveUnit → SaveJob → SaveJob
  | [], j => { j with units := [] }
  | u :: us, j => formAll k us (formUnit k u j)

/-- Program every full page in hand. The first argument bounds their number; the length of what is formed
suffices. -/
def programPages : Nat → SaveJob × List Host.Cell → SaveJob × List Host.Cell
  | 0, r => r
  | n + 1, r => if r.1.pageFull then programPages n (saveProgram r) else r

/-- All the work left that needs no further read: every unit formed, every full page programmed. -/
def saveAll (k : Bank) (j : SaveJob) (m : List Host.Cell) : SaveJob × List Host.Cell :=
  let j1 := formAll k j.units j
  programPages j1.page.length (j1, m)

/-- Put a save job and the store contents back. -/
def State.setSave (r : SaveJob × List Host.Cell) (s : State) : State :=
  { s with store := { s.store with save := some r.1, flash := r.2 } }

/-- The seed copy of a save has finished: sector 0 is erased, the store state becomes UNPROGRAMMED, and
the sections are to be written from address 11 on (R176, R177). -/
def State.beginSaving (j : SaveJob) (s : State) : State :=
  { s with
    store :=
      { s.store with
        flash := flashErase s.store.flash 0
        state := .unprogrammed
        save := some { j with seeded := true, units := s.saveUnits, sector := 0, addr := 11, page := [] } } }

/-- A save that writes needs a read of one sector: all before it is formed and its full pages are programmed, a
TILES section is opened at an area's first sector and closed after its last (R117, R165, R177). The bytes read
are formed, and programmed in their turn. -/
def State.saveSector (j : SaveJob) (area : Nat) (rest : List Nat) (s : State) : State :=
  let r := saveAll s.stagingBank j s.store.flash
  let j1 := if j.sector = 0 then
      formUnit s.stagingBank
        (.start (sectionStart 6 1048580 ++ beBytes 2 (area * 1024) ++ beBytes 2 1024)) r.1
    else r.1
  let j2 := formBytes (s.librarySector (area * 1024 + j.sector / 4) (j.sector % 4)) j1
  if j.sector + 1 = 4096 then
    s.setSave ({ formUnit s.stagingBank .crc j2 with areas := rest, sector := 0 }, r.2)
  else s.setSave ({ j2 with sector := j.sector + 1 }, r.2)

/-- The header of an image, R165: signature, length, scene tag, section count. -/
def imageHeader (len tag sections : Nat) : List Byte :=
  [0x4D, 0x45, 0x4E, 0x55] ++ beBytes 4 len ++ beBytes 2 tag ++ beBytes 1 sections

/-- The save ends, R177: what is left is written, its last page as far as it is filled, and the header last, a
page program of its own at address 0; the store is LOADED and the controller SETTLED. -/
def State.saveEnds (j : SaveJob) (s : State) : State :=
  let r0 := saveAll s.stagingBank j s.store.flash
  let r := if r0.1.page.isEmpty then r0 else saveProgram r0
  { s with
    scene := { s.scene with phase := .settled }
    store :=
      { s.store with
        flash := flashProgramPage r.2 0 (imageHeader r.1.addr s.scene.tag (5 + j.nAreas))
        state := .loaded
        save := none } }

/-- A save that writes stops before its end, with the page in hand as far as it had come (R177, R179): a free
value (log 30). A save whose seed copy still runs leaves the store as it is. -/
def State.saveStops (s : State) : State :=
  match s.store.save with
  | none => s
  | some j =>
    if j.seeded then
      { s.nextTick with
        store :=
          { s.store with
            flash := flashStopPage s.tick s.store.flash j.addr j.page
            save := none } }
    else { s with store := { s.store with save := none } }

/-! ### Store operations in progress -/

/-- A store command is refused with BUSY while a protect program or a store read-back is in progress
(R178). -/
def State.storeBusy (s : State) : Bool := s.store.protectJob.isSome || s.status.storeRead.isSome

/-- An operation of the store controller that a store read-back waits for (R169). -/
def State.storeOperating (s : State) : Bool :=
  s.loading || s.scene.phase == .saving || s.scene.phase == .recalling || s.store.protectJob.isSome

/-- The reply to a store read-back, R169: bytes of read-protected blocks read as 0. -/
def State.storeReply (q : ReadReq) (s : State) : Reply :=
  if s.straps.blocks = 0 then ⟨q.target, q.table, q.index, 2, List.replicate 20 0⟩
  else if s.storeSize < q.index + 16 then ⟨q.target, q.table, q.index, 1, List.replicate 20 0⟩
  else
    ⟨q.target, q.table, q.index, 0,
      padTo 20 ((List.range 16).map fun i =>
        if s.store.readMarks.getLsbD ((q.index + i) / blockSize) then s.flashByte (q.index + i) else 0)⟩

/-! ### Work that goes on between commands -/

/-- A SAVE that writes goes on with its work by a number of pieces that the spec leaves open (log 16). -/
def State.saveGoesOn (s : State) : State :=
  match s.scene.phase, s.store.save with
  | .saving, some j =>
    if j.seeded then
      (s.setSave (saveSome s.stagingBank (Config.storePace s.tick) (j, s.store.flash))).nextTick
    else s
  | _, _ => s

/-- The loader, a RECALL and a SAVE go on with their work at a pace the spec leaves open (log 13, log
16). -/
def State.background (s : State) : State :=
  if s.loading then (s.applyImage loadAct (Config.loaderPace s.tick)).nextTick
  else if s.scene.phase = .recalling then (s.applyImage recallAct (Config.loaderPace s.tick)).nextTick
  else s.saveGoesOn

end Sys2Proof.Machine
end

