-- ==== Sys2Proof/Machine/Frame.lean ====
section
/-! DEFINITION. The two events that pace the part, output frame start and output line start (R15), the
lock monitor's moves (R6 to R9), the steps a counter brings due, and what stands before every command. -/

namespace Sys2Proof.Machine

/-! ### Output frame start -/

/-- Latch the frame raster record, R10; line numbers restart at 0 (R15); a fallback frame also latches its
period and begins at line period 0 (R5, R12). -/
def Raster.latch (src : Source) (r : Raster) : Raster :=
  { r with
    record := ⟨src, r.settings.wAct, r.settings.hAct, r.settings.colour⟩
    period := if src = .fallback then r.settings.periodMs else r.period
    linePeriods := 0
    nextLine := 0 }

/-- The record latched, the frame before closed at the builder and at the status unit, the packet on the return
lane cut off, the next status packet begun (R10, R45, R166, R170). The late-line count and the watch result
are those of the frame just ended. -/
def State.openFrame (src : Source) (s : State) : State :=
  let watch := s.watchResult
  let late := s.builder.late
  { s with
    raster := s.raster.latch src
    panel := { s.panel with inProgress := false } }.closeBuilder.cutPacket.beginStatus watch late

/-- Scene settled, R130 step 4: the status packet takes its values and is sent, the builder freezes its
view and takes up line 0 (R166, R46). -/
def State.settleScene (s : State) : State := s.completeStatus.freezeView.build

/-- An output frame start up to scene settled: the frame before closed, the update's steps 1 to 3 (R130), and the
group sync unit's count and decision (R141, R142; their place behind the flip and before scene settled is log 7).
Where the frame before has not had its scene settled event, the pop of its update is made first, and it is closed
with no view and its status packet never completed (R45; log 4). -/
def State.beginFrame (src : Source) (s : State) : State :=
  ((s.popIfDue.openFrame src).frameUpdate).groupFrameStart

/-- An output frame start, R15. Where the page hold timer reaches 0 in the update, scene settled waits for
PAGE_HOLD_EXPIRY: the raster's lines and frame starts can come before it, and a line start that does finds no view,
so that its line is late (R64, R65; log 4). -/
def State.outputFrameStart (src : Source) (s : State) : State :=
  let s1 := s.beginFrame src
  if s1.holdDue then s1 else s1.settleScene

/-! ### Output line start -/

/-- The part of an output line start that the other blocks take: credit window, pulse timer, line filter
(R113, R144, R146). -/
def State.clockLine (s : State) : State := s.creditLine.pulseLine.sampleFlip

/-- An output line start over a background line, R15: the deadline of its line, the mixer's line, a ring
entry freed, the builder going on, and the clocked counters (log 8). -/
def State.outputLineStart (background : List Rgb) (s : State) : State :=
  let y := s.raster.nextLine
  let s1 := (((s.deadline y).mix y background).freeLineBefore y).build
  { s1 with raster := { s1.raster with nextLine := y + 1 } }.clockLine

/-! ### The lock monitor -/

/-- The judgement of the input frame just ended, R6: none where there is no complete measurement. -/
def Raster.judge (r : Raster) : Option Bool :=
  match r.measure with
  | none => none
  | some m => if m.complete then some (m.widthsOk && decide (m.lines = r.settings.hAct)) else none

/-- The lock state after a matching frame, R7. -/
def Lock.matched : Lock → Lock
  | .unlocked => .acquiring1
  | .acquiring1 => .acquiring2
  | .acquiring2 | .locked | .slipping1 | .slipping2 => .locked

/-- The lock state after a mismatching frame, R8. -/
def Lock.mismatched : Lock → Lock
  | .unlocked | .acquiring1 | .acquiring2 | .slipping2 => .unlocked
  | .locked => .slipping1
  | .slipping1 => .slipping2

/-- The output follows the input in LOCKED and SLIPPING, R11. -/
def Lock.follows : Lock → Bool
  | .unlocked | .acquiring1 | .acquiring2 => false
  | .locked | .slipping1 | .slipping2 => true

/-- The lock state after a judgement; none leaves it as it is (R6). -/
def Lock.judged (j : Option Bool) (l : Lock) : Lock :=
  match j with
  | none => l
  | some true => l.matched
  | some false => l.mismatched

/-- An input frame start at the lock monitor and the receiver: the judgement, the move, the loss timer,
the new measurement, the new input frame (R6, R3, R9, R1). -/
def State.judgeFrame (s : State) : State :=
  let j := s.raster.judge
  let next := s.raster.lock.judged j
  let s1 := if j = some false then s.raise .geometryMismatch else s
  let s2 := if s.raster.lock.follows && !next.follows then s1.raise .inputLost else s1
  { s2 with
    raster :=
      { s2.raster with
        lock := next
        lossTimer := some s.raster.settings.lossMs
        measure := some ⟨0, true, true⟩
        inFrame := some ⟨0, false⟩ } }

/-- The output frame start that an input frame start brings, given the lock state before: of source INPUT
where the lock is held or gained (R11, R14), of source FALLBACK where it is given up (R13), none
otherwise (R12). -/
def State.inputFrameOutput (before : Lock) (s : State) : State :=
  if s.raster.lock.follows then
    (if before.follows then s else s.cutLine).outputFrameStart .input
  else if before.follows then s.outputFrameStart .fallback
  else s

/-- The loss interval expiry, R9, R13. -/
def State.loseInput (s : State) : State :=
  let before := s.raster.lock
  let s1 :=
    { s with
      raster := { s.raster with lock := .unlocked, lossTimer := none, measure := none, inFrame := none } }
  if before.follows then ((s1.raise .inputLost).cutLine).outputFrameStart .fallback else s1

/-! ### Steps that a counter brings due (log 4) -/

/-- The load ends at once where no store is strapped: LOAD_COMPLETION is due (R174). -/
def State.loadDue (s : State) : Bool := s.loading && s.straps.blocks == 0

/-- LOAD_COMPLETION where it is due, R174. -/
def State.settleLoad (s : State) : State := if s.loadDue then s.loadEnds else s

/-- PAGE_HOLD_EXPIRY where it is due: the pop, then scene settled (R136, R130). -/
def State.settleHold (s : State) : State := if s.holdDue then s.holdPop.settleScene else s

/-- UPLOADS_AHEAD_DRAINED is due: DRAINING with an uploads-ahead count of 0 (R126). -/
def State.drainedDue (s : State) : Bool :=
  s.scene.phase == .draining
    && (match s.scene.armed with
        | some r => r.uploadsAhead == 0
        | none => false)

/-- UPLOADS_AHEAD_DRAINED where it is due, R126. -/
def State.settleDrained (s : State) : State := if s.drainedDue then s.enterArmed else s

/-- CREDIT_WINDOW_RESTART where it is due, R113. -/
def State.settleCredit (s : State) : State := if s.creditDue then s.creditRestarts else s

/-- PULSE_END where it is due, R144. -/
def State.settlePulse (s : State) : State := if s.pulseDue then s.pulseEnds else s

/-- LEADER_WINDOW_END where it is due, R143. -/
def State.settleLeaderWindow (s : State) : State := if s.leaderWindowDue then s.leaderWindowEnds else s

/-- MEMBER_WINDOW_END where it is due, R145. -/
def State.settleMemberWindow (s : State) : State := if s.memberWindowDue then s.memberWindowEnds else s

/-- The steps due at the table engine, the credit window and the group sync unit. -/
def State.settleCounters (s : State) : State :=
  s.settleDrained.settleCredit.settlePulse.settleLeaderWindow.settleMemberWindow

/-- Every step that is due is taken. -/
def State.settleDue (s : State) : State := s.settleLoad.settleHold.settleCounters

/-- What stands before every command but the steps above, the raster's lines and frame starts, and RESTART: the
steps that are due, taken before it, and the store controller's own work (log 4, log 13, log 16). -/
def State.prelude (s : State) : State := s.settleDue.background

/-- What stands before a line or a frame start of the raster, and before RESTART: as before every command, but that
a hold expiry, and the scene settled event behind it, may still be to come (R45, R65; log 4). -/
def State.rasterPrelude (s : State) : State := s.settleLoad.settleCounters.background

end Sys2Proof.Machine
end

