-- ==== Sys2Proof/Machine/CounterFamily.lean ====
section
/-! DEFINITION. The steps that a counter of the scene controller or of the group sync unit brings due
(log 4): where the step is not due, it does not come and nothing changes. A step of the other counters may come
before a PAGE_HOLD_EXPIRY that is due. -/

namespace Sys2Proof.Machine

/-- PAGE_HOLD_EXPIRY, R136: the pop, or the timer cleared with STACK_EMPTY; then the update in which it fell goes
on to scene settled (R130). -/
def execPageHoldExpiry (s : State) : Host.Outcome State Fault Refusal := .next s.settleLoad.settleHold

/-- LEADER_WINDOW_END, R143. -/
def execLeaderWindowEnd (s : State) : Host.Outcome State Fault Refusal := .next s.settleLoad.settleLeaderWindow

/-- MEMBER_WINDOW_END, R145. -/
def execMemberWindowEnd (s : State) : Host.Outcome State Fault Refusal := .next s.settleLoad.settleMemberWindow

/-- PULSE_END, R144. -/
def execPulseEnd (s : State) : Host.Outcome State Fault Refusal := .next s.settleLoad.settlePulse

end Sys2Proof.Machine
end

