-- ==== Sys2Proof/Machine/LinkFamily.lean ====
section
/-! DEFINITION. The events of the forward path (R1) and the loss interval expiry (R9). -/

namespace Sys2Proof.Machine

/-- The level the other parts leave on GRP_READY at this frame start, R139 (log 9). -/
def State.seeReady (ready : Bool) (s : State) : State :=
  { s with group := { s.group with othersReady := ready } }

/-- The level the other parts leave on GRP_FLIP at this line start, R139 (log 9). -/
def State.seeFlip (flip : Bool) (s : State) : State :=
  { s with group := { s.group with othersFlip := flip } }

/-- INPUT_FRAME_START, R6: the frame just ended is judged, the lock monitor moves, the loss timer starts
and a new measurement begins; then the output frame start it brings, if any (R11, R13, R14). -/
def execInputFrameStart (ready : Bool) (s : State) : Host.Outcome State Fault Refusal :=
  let s1 := s.rasterPrelude.seeReady ready
  .next (s1.judgeFrame.inputFrameOutput s1.raster.lock)

/-- What the receiver does with a control line of the input frame in progress, R2: it is passed to the
parser, or ignored with PACKET_BAD; during the start-up load no byte is passed. -/
def State.receiveControl (f : InFrame) (cols : List Rgb) (s : State) : State :=
  let s1 := { s with raster := { s.raster with inFrame := some { f with controls := f.controls + 1 } } }
  if f.activeSeen || decide (8 ≤ f.controls) then s1.raise .packetBad
  else if s1.loading then s1
  else parseLine (lineStream s1.raster.settings.wAct cols) s1

/-- While the source is INPUT a control or blanking line goes to the panel as blanking, R17. -/
def State.blankIfInput (s : State) : State := if s.followsInput then s.blankLine else s

/-- CONTROL_LINE, R2: a line that belongs to no input frame is discarded (R1). -/
def execControlLine (cols : List Rgb) (s : State) : Host.Outcome State Fault Refusal :=
  let s1 := s.rasterPrelude
  match s1.raster.inFrame with
  | none => .next s1
  | some f => .next (s1.receiveControl f cols).blankIfInput

/-- BLANKING_LINE, R17: the measurement is unchanged (R3). -/
def execBlankingLine (s : State) : Host.Outcome State Fault Refusal :=
  let s1 := s.rasterPrelude
  match s1.raster.inFrame with
  | none => .next s1
  | some _ => .next s1.blankIfInput

/-- An active line in the frame measurement, R3, and at the receiver, R2. -/
def State.measureLine (f : InFrame) (columns : Nat) (s : State) : State :=
  { s with
    raster :=
      { s.raster with
        inFrame := some { f with activeSeen := true }
        measure := s.raster.measure.map fun m =>
          { m with
            lines := m.lines + 1
            widthsOk := m.widthsOk && decide (columns = s.raster.settings.wAct) } } }

/-- ACTIVE_LINE, R3: counted in the measurement and, while the output follows the input, an output line
start over its own pixels (R11, R18). -/
def execActiveLine (cols : List Rgb) (flip : Bool) (s : State) : Host.Outcome State Fault Refusal :=
  let s1 := s.rasterPrelude.seeFlip flip
  match s1.raster.inFrame with
  | none => .next s1
  | some f =>
    let s2 := s1.measureLine f cols.length
    if s2.followsInput then .next (s2.outputLineStart cols) else .next s2

/-- LOSS_INTERVAL_EXPIRY, R9: nothing expires while the loss timer is stopped. -/
def execLossIntervalExpiry (ready : Bool) (s : State) : Host.Outcome State Fault Refusal :=
  let s1 := s.rasterPrelude.seeReady ready
  match s1.raster.lossTimer with
  | none => .next s1
  | some _ => .next s1.loseInput

end Sys2Proof.Machine
end

