-- ==== Sys2Proof/Machine/FallbackFamily.lean ====
section
/-! DEFINITION. The fallback raster's events (R12). They come only while the output does not follow the
input, and each only at its place among the line periods of the frame in progress; the time between them is the
sender's (log 5). -/

namespace Sys2Proof.Machine

/-- All H + 45 line periods of the fallback frame in progress have begun, R12. -/
def Raster.periodsDone (r : Raster) : Bool := r.linePeriods == r.record.height + 45

/-- Line period 45 + y begins next, for the line y that comes next, a line of the frame (R12). -/
def Raster.lineDue (r : Raster) : Bool :=
  r.linePeriods == 45 + r.nextLine && decide (r.nextLine < r.record.height)

/-- FALLBACK_FRAME_START, R12: at the end of line period H + 44 the next fallback frame begins with the settings
then in force. -/
def execFallbackFrameStart (ready : Bool) (s : State) : Host.Outcome State Fault Refusal :=
  let s1 := s.rasterPrelude.seeReady ready
  if s1.followsInput || !s1.raster.periodsDone then .next s1 else .next (s1.outputFrameStart .fallback)

/-- FALLBACK_BLANKING_LINE_PERIOD, R12: line periods 0 to 44 send blanking lines. -/
def execFallbackBlankingLinePeriod (s : State) : Host.Outcome State Fault Refusal :=
  let s1 := s.rasterPrelude
  if s1.followsInput || decide (45 ≤ s1.raster.linePeriods) then .next s1
  else
    .next { s1.blankLine with raster := { s1.raster with linePeriods := s1.raster.linePeriods + 1 } }

/-- FALLBACK_LINE_START, R12: line period 45 + y begins, after the 45 blanking line periods and the lines before
it: the output line start of line y, over the fallback colour of the frame raster record (R18). -/
def execFallbackLineStart (flip : Bool) (s : State) : Host.Outcome State Fault Refusal :=
  let s1 := s.rasterPrelude.seeFlip flip
  if s1.followsInput || !s1.raster.lineDue then .next s1
  else
    let s2 := { s1 with raster := { s1.raster with linePeriods := s1.raster.linePeriods + 1 } }
    .next (s2.outputLineStart (List.replicate s2.raster.record.width s2.raster.record.colour))

end Sys2Proof.Machine
end

