-- ==== Sys2Proof/Machine/LibraryFamily.lean ====
section
/-! DEFINITION. The library arbiter's grants, fill completions, uploads, and the two counters that hang on
them (Section 6, R126). -/

namespace Sys2Proof.Machine

/-- FILL_GRANT, R109: the oldest waiting DEMAND, else the oldest waiting PREFETCH; its read takes the
bytes that library memory holds now. With no waiting entry there is no grant. -/
def execFillGrant (s : State) : Host.Outcome State Fault Refusal :=
  let s1 := s.prelude
  match s1.cache.nextGrant with
  | none => .next s1
  | some f => .next { s1 with cache := s1.cache.grant f (s1.librarySector f.tile f.sector) }

/-- A fill completion, R105, and the builder that waits for it, R102. -/
def State.completeFill (r : GrantedRead) (rest : List GrantedRead) (s : State) : State :=
  ({ s with cache := s.cache.complete r rest }.wake r.tile r.sector).build

/-- FILL_COMPLETION, R105: completions come in the order of the grants (R109). -/
def execFillCompletion (s : State) : Host.Outcome State Fault Refusal :=
  let s1 := s.prelude
  match s1.cache.reads with
  | [] => .next s1
  | r :: rest => .next (s1.completeFill r rest)

/-- A count decreased by 1 where it is nonzero, in a FLIP_ARM waiting in the table queue (R126). -/
def TableCmd.disposed : TableCmd → TableCmd
  | .flipArm f => .flipArm { f with ahead := f.ahead - 1 }
  | c => c

/-- A disposal report, R115, R126: every nonzero uploads-ahead count is decreased by 1. -/
def State.dispose (s : State) : State :=
  { s with
    scene :=
      { s.scene with
        tableQ := s.scene.tableQ.map TableCmd.disposed
        armed := s.scene.armed.map fun r => { r with uploadsAhead := r.uploadsAhead - 1 } } }

/-- The grant of the upload at the head of the queue, R111: refused with AREA_PINNED, or written; either
way one credit and one disposal. -/
def State.grantUpload (u : Upload) (rest : List Upload) (s : State) : State :=
  let s1 := { s with library := { s.library with uploads := rest }.creditGrant }
  (if s.pinned (tileArea u.tile) then s1.refuse 0x30 .areaPinned 0 u.tile
    else s1.writeSector u.tile u.sector u.bytes).dispose

/-- TILE_WRITE, R111: granted when no fill waits and a credit remains (R109, R113). -/
def execTileWrite (s : State) : Host.Outcome State Fault Refusal :=
  let s1 := s.prelude
  match s1.cache.nextGrant, s1.library.uploads with
  | none, u :: rest => if s1.library.creditRemains then .next (s1.grantUpload u rest) else .next s1
  | _, _ => .next s1

/-- UPLOADS_AHEAD_DRAINED, R126: DRAINING with a count of 0 enters the armed state of its mode. -/
def execUploadsAheadDrained (s : State) : Host.Outcome State Fault Refusal := .next s.settleLoad.settleDrained

/-- CREDIT_WINDOW_RESTART, R113. -/
def execCreditWindowRestart (s : State) : Host.Outcome State Fault Refusal := .next s.settleLoad.settleCredit

/-- An upload is eligible for grant: one waits and a credit remains (R113). -/
def State.uploadEligible (s : State) : Bool := !s.library.uploads.isEmpty && s.library.creditRemains

/-- SAVE_READ_GRANT, R117: the next read of a save in progress, at the lowest rank of R109. -/
def execSaveReadGrant (s : State) : Host.Outcome State Fault Refusal :=
  let s1 := s.prelude
  match s1.scene.phase, s1.store.save with
  | .saving, some j =>
    match j.areas with
    | [] => .next s1
    | area :: rest =>
      if j.seeded && s1.cache.nextGrant.isNone && !s1.uploadEligible then .next (s1.saveSector j area rest)
      else .next s1
  | _, _ => .next s1

end Sys2Proof.Machine
end

