-- ==== Sys2Proof/Machine/ResetFamily.lean ====
section
/-! DEFINITION. POWER_ON, RESTART and LOAD_COMPLETION (Section 11, and the reset tables of every section). -/

namespace Sys2Proof.Machine

/-- Every block at its reset values, for the straps now held: R19, R42, R44, R118, R138, R151, R171, and
the start of the load (R173, R174). Library memory, the serial store, the levels the other parts leave on the
group lines and the return lane stay: the first frame start that follows cuts the packet still on the lane
(R166). R169 discards an outstanding store read and the queued requests; that a store reply whose read has completed
and which no packet has carried yet goes with them is the model's choice (log 33). -/
def State.resetBlocks (s : State) : State :=
  { s with
    raster := .atReset
    tables := ⟨.cleared, .cleared, .a⟩
    scene := .atReset
    builder := .atReset
    cache := .atReset
    library := ⟨s.library.mem, [], 0, 255, none⟩
    group :=
      { role := if s.straps.leader then .leader else .member
        participation := s.straps.inGroup
        window := none
        pulse := none
        filterHigh := false
        filterRun := 0
        othersReady := s.group.othersReady
        othersFlip := s.group.othersFlip }
    status := { Status.atReset with lane := s.status.lane }
    store :=
      { Store.readRecord s.straps.blocks s.store with
        state := .loading
        imagePos := 0
        protectJob := none
        save := none } }

/-- POWER_ON, R173: the straps are sampled, library memory is unspecified (log 10), every block is reset,
the first fallback frame starts (R19) and the load begins. A save that writes has gone on by a free number of pieces
since the last command, and stops (log 16, log 26). Straps that no wiring gives are refused. -/
def execPowerOn (straps : Straps) (s : State) : Host.Outcome State Fault Refusal :=
  if straps.wellFormed then
    .next
      ({ s.saveGoesOn.protectStops.saveStops with
          straps := straps
          panel := ⟨.nothing, false⟩
          status := .atReset
          library := { s.library with mem := [] } }.resetBlocks.outputFrameStart .fallback)
  else .refused .strapsIllFormed

/-- The warm restart of R179: no straps are sampled and library memory is kept; the output line in
progress is ended at once (R19), and a store operation in progress is abandoned where it stands. -/
def State.warmRestart (s : State) : State :=
  (s.protectStops.saveStops.cutLine.resetBlocks).outputFrameStart .fallback

/-- RESTART, R179: taken at the head of the table queue even while the engine is busy (R121). -/
def execRestart (s : State) : Host.Outcome State Fault Refusal :=
  let s1 := s.rasterPrelude
  match s1.scene.tableQ with
  | .restart :: _ => .next s1.warmRestart
  | _ => .next s1

/-- LOAD_COMPLETION, R174: the start-up load in progress ends; with no store it is due at once, and nothing
comes before it. -/
def execLoadCompletion (s : State) : Host.Outcome State Fault Refusal :=
  if s.loadDue then .next s.settleLoad
  else
    let s1 := s.prelude
    if s1.loading then .next s1.loadEnds else .next s1

end Sys2Proof.Machine
end

