-- ==== Sys2Proof/Machine/TableFamily.lean ====
section
/-! DEFINITION. The table engine and the table commands (7.2 to 7.4). Each command is the engine taking
the head of the table queue while it is idle; where the head is another command, or the engine is busy,
nothing is taken (log 3). -/

namespace Sys2Proof.Machine

/-- The command the table engine can take now: the head of its queue while it is idle (R121). -/
def State.tableHead (s : State) : Option TableCmd := if s.engineBusy then none else s.scene.tableQ.head?

/-- The head of the table queue has been taken (R121). -/
def State.takeHead (s : State) : State := { s with scene := { s.scene with tableQ := s.scene.tableQ.tail } }

/-- The scene controller enters a state. -/
def State.enter (phase : Phase) (s : State) : State := { s with scene := { s.scene with phase := phase } }

/-- STAGE_OPEN taken, R122. -/
def State.openStage (s : State) : State :=
  if s.scene.phase = .settled then s.enter .seeding else s.refuse 0x10 .state 0 0

/-- STAGE_OPEN, R122: the seed copy begins in SEEDING. -/
def execStageOpen (s : State) : Host.Outcome State Fault Refusal :=
  let s1 := s.prelude
  match s1.tableHead with
  | some .stageOpen => .next s1.takeHead.openStage
  | _ => .next s1

/-- The seed copy, whole: every entry and all counts of the active bank over staging (R122; log 15). -/
def State.seedCopy (s : State) : State := s.setStaging s.activeBank

/-- SEED_COMPLETION, R122: EDITING after a STAGE_OPEN; after a STORE_SAVE the save begins to write
(R176, R177). -/
def execSeedCompletion (s : State) : Host.Outcome State Fault Refusal :=
  let s1 := s.prelude
  match s1.scene.phase, s1.store.save with
  | .seeding, _ => .next (s1.seedCopy.enter .editing)
  | .saving, some j => if j.seeded then .next s1 else .next (s1.seedCopy.beginSaving j)
  | _, _ => .next s1

/-- The indices of a TABLE_WRITE in write order, where count, step and indices pass check 3 of R123. -/
def writeIndices (w : TableWriteCmd) : Option (List Nat) :=
  if w.count < 1 ∨ 64 < w.count then none
  else if w.step = 0x01 then
    if w.start + (w.count - 1) < tableSize w.table then
      some ((List.range w.count).map fun k => w.start + k)
    else none
  else if w.step = 0xFF then
    if w.start < tableSize w.table ∧ w.count - 1 ≤ w.start then
      some ((List.range w.count).map fun k => w.start - k)
    else none
  else none

/-- Entries checked and written in write order: the bank with all of them, or the index of the first that
fails (R123 step 4, R124). -/
def writeEntries (table mask : Nat) : List Nat → List Byte → Bank → Except Nat Bank
  | [], _, k => .ok k
  | i :: is, bs, k =>
    let size := maskedSize mask (fieldSizes table) 0
    match k.writeEntry table mask i (bs.take size) with
    | none => .error i
    | some k' => writeEntries table mask is (bs.drop size) k'

/-- A TABLE_WRITE taken, R123 and R124: the checks in their order, then all of its entries or none. -/
def State.writeTable (w : TableWriteCmd) (s : State) : State :=
  if s.scene.phase ≠ .editing then s.refuse 0x11 .state w.table w.start
  else if w.table = 0 ∨ 4 < w.table then s.refuse 0x11 .range 0 w.start
  else
    match writeIndices w with
    | none => s.refuse 0x11 .range w.table w.start
    | some is =>
      if 2 ^ (fieldSizes w.table).length ≤ w.mask then s.refuse 0x11 .range w.table w.start
      else
        match writeEntries w.table w.mask is w.data s.stagingBank with
        | .error i => s.refuse 0x11 .range w.table i
        | .ok k => s.setStaging k

/-- TABLE_WRITE, R123, R124. -/
def execTableWrite (s : State) : Host.Outcome State Fault Refusal :=
  let s1 := s.prelude
  match s1.tableHead with
  | some (.tableWrite w) => .next (s1.takeHead.writeTable w)
  | _ => .next s1

/-- The values of a FLIP_ARM are in range, R125, R161. -/
def FlipArmCmd.inRange (f : FlipArmCmd) : Bool :=
  decide (f.window ≠ 0) && decide (f.mode ≤ 1) && decide (f.force ≤ 1)
    && (decide (f.entryPage ≤ 7) || decide (f.entryPage = 0xFF))

/-- The armed record of an accepted FLIP_ARM, R120, R125. -/
def FlipArmCmd.record (f : FlipArmCmd) : Armed where
  mode := if f.mode = 1 then .group else .localOnly
  window := f.window
  force := f.force == 1
  tag := f.tag
  entryPage := if f.entryPage = 0xFF then none else some f.entryPage
  uploadsAhead := f.ahead

/-- A FLIP_ARM taken, R125. -/
def State.armFlip (f : FlipArmCmd) (s : State) : State :=
  if s.scene.phase ≠ .editing then s.refuse 0x12 .state 0 0
  else if !f.inRange then s.refuse 0x12 .range 0 0
  else if f.mode = 1 ∧ s.group.participation = false then s.refuse 0x12 .mode 0 0
  else
    let s1 := { s with scene := { s.scene with armed := some f.record } }
    if f.ahead = 0 then s1.enterArmed else s1.enter .draining

/-- FLIP_ARM, R125. -/
def execFlipArm (s : State) : Host.Outcome State Fault Refusal :=
  let s1 := s.prelude
  match s1.tableHead with
  | some (.flipArm f) => .next (s1.takeHead.armFlip f)
  | _ => .next s1

/-- A FLIP_CANCEL taken, R127. -/
def State.cancelFlip (s : State) : State :=
  match s.scene.phase with
  | .draining | .armedLocal | .armedGroup => s.disarm .editing
  | .committed => s.refuse 0x13 .state 0 0
  | .editing | .settled | .seeding | .saving | .recalling => s

/-- FLIP_CANCEL, R127. -/
def execFlipCancel (s : State) : Host.Outcome State Fault Refusal :=
  let s1 := s.prelude
  match s1.tableHead with
  | some .flipCancel => .next s1.takeHead.cancelFlip
  | _ => .next s1

/-- A STAGE_DISCARD taken, R127. -/
def State.discardStage (s : State) : State :=
  match s.scene.phase with
  | .draining | .armedLocal | .armedGroup | .editing => s.disarm .settled
  | .committed | .settled | .seeding | .saving | .recalling => s

/-- STAGE_DISCARD, R127. -/
def execStageDiscard (s : State) : Host.Outcome State Fault Refusal :=
  let s1 := s.prelude
  match s1.tableHead with
  | some .stageDiscard => .next s1.takeHead.discardStage
  | _ => .next s1

/-- A flip is armed: DRAINING, ARMED-local, ARMED-group or COMMITTED (R120). -/
def Phase.armed : Phase → Bool
  | .draining | .armedLocal | .armedGroup | .committed => true
  | .settled | .seeding | .editing | .saving | .recalling => false

/-- A CONFIG_WRITE taken, R128: refused with STATE where it writes role or participation while a flip is
armed; otherwise every masked field is clamped and written. -/
def State.writeConfig (mask : Nat) (data : List Byte) (s : State) : State :=
  if s.scene.phase.armed && (mask.testBit 7 || mask.testBit 8) then s.refuse 0x15 .state 0 0
  else s.applyConfig (configFields mask data)

/-- CONFIG_WRITE, R128, R159. -/
def execConfigWrite (s : State) : Host.Outcome State Fault Refusal :=
  let s1 := s.prelude
  match s1.tableHead with
  | some (.configWrite mask data) => .next (s1.takeHead.writeConfig mask data)
  | _ => .next s1

end Sys2Proof.Machine
end

