-- ==== Sys2Proof/Machine/StoreFamily.lean ====
section
/-! DEFINITION. The store commands and the ends of the store controller's operations (Section 11, R169). -/

namespace Sys2Proof.Machine

/-- A STORE_SAVE taken, R176: checked for state, busy, room, protection; an accepted save enters SAVING
and begins with a seed copy. -/
def State.startSave (s : State) : State :=
  if s.scene.phase ≠ .settled then s.refuse 0x16 .state 0 0
  else if s.storeBusy then s.refuse 0x16 .busy 0 0
  else if s.noRoom then s.refuse 0x16 .noRoom 0 0
  else if s.saveProtected then s.refuse 0x16 .isProtected 0 0
  else
    { s.enter .saving with
      store := { s.store with save := some ⟨false, [], s.pinnedAreas, 0, 0, [], 0xFFFF, s.pinnedAreas.length⟩ } }

/-- STORE_SAVE, R176. -/
def execStoreSave (s : State) : Host.Outcome State Fault Refusal :=
  let s1 := s.prelude
  match s1.tableHead with
  | some .storeSave => .next s1.takeHead.startSave
  | _ => .next s1

/-- SAVE_COMPLETION, R177: a save that has read every tile programs the header last. -/
def execSaveCompletion (s : State) : Host.Outcome State Fault Refusal :=
  let s1 := s.prelude
  match s1.scene.phase, s1.store.save with
  | .saving, some j => if j.seeded && j.areas.isEmpty then .next (s1.saveEnds j) else .next s1
  | _, _ => .next s1

/-- A STORE_RECALL taken, R175: staging is cleared and the image is read into it from its start. DESIGN CHOICE, log
36: with no store, too, the controller stays in RECALLING, the engine busy, until RECALL_COMPLETION is sent, whatever
comes between, though step 1 of R174, by which R175 reads, ends 'at once'. -/
def State.startRecall (s : State) : State :=
  if s.scene.phase ≠ .settled then s.refuse 0x17 .state 0 0
  else if s.storeBusy then s.refuse 0x17 .busy 0 0
  else
    { (s.setStaging .cleared).enter .recalling with store := { s.store with imagePos := 0 } }

/-- STORE_RECALL, R175. -/
def execStoreRecall (s : State) : Host.Outcome State Fault Refusal :=
  let s1 := s.prelude
  match s1.tableHead with
  | some .storeRecall => .next s1.takeHead.startRecall
  | _ => .next s1

/-- RECALL_COMPLETION, R175. -/
def execRecallCompletion (s : State) : Host.Outcome State Fault Refusal :=
  let s1 := s.prelude
  if s1.scene.phase = .recalling then .next s1.recallEnds else .next s1

/-- A STORE_PROTECT taken, R178: BUSY, or with no store STORE_FAULT alone, or the marks of the blocks
named, the copy taking them at once. With no store and a store read-back outstanding both of the first two rules
speak; that BUSY comes first is the model's choice (log 34). -/
def State.startProtect (named : BitVec 16) (s : State) : State :=
  if s.storeBusy then s.refuse 0x18 .busy 0 0
  else if s.straps.blocks = 0 then s.raise .storeFault
  else { s with store := s.store.protect named }

/-- STORE_PROTECT, R178. -/
def execStoreProtect (s : State) : Host.Outcome State Fault Refusal :=
  let s1 := s.prelude
  match s1.tableHead with
  | some (.storeProtect named) => .next (s1.takeHead.startProtect named)
  | _ => .next s1

/-- PROTECT_PROGRAM_COMPLETION, R178. -/
def execProtectProgramCompletion (s : State) : Host.Outcome State Fault Refusal :=
  .next s.prelude.protectEnds

/-- A time-out of the store's programming, R177, R178: a save that writes stops in SETTLED, a protect
program stops with the copy keeping its marks; STORE_FAULT in both. -/
def State.programTimeout (s : State) : State :=
  match s.scene.phase, s.store.save, s.store.protectJob with
  | .saving, some j, _ =>
    if j.seeded then (s.saveStops.raise .storeFault).enter .settled else s
  | _, _, some _ => s.protectStops.raise .storeFault
  | _, _, none => s

/-- STORE_PROGRAM_TIMEOUT, R177, R178. -/
def execStoreProgramTimeout (s : State) : Host.Outcome State Fault Refusal :=
  .next s.prelude.programTimeout

/-- STORE_READ_COMPLETION, R169: an outstanding store read completes after any store operation in
progress; its reply waits for the next packet. -/
def execStoreReadCompletion (s : State) : Host.Outcome State Fault Refusal :=
  let s1 := s.prelude
  match s1.status.storeRead, s1.storeOperating with
  | some q, false =>
    .next { s1 with status := { s1.status with storeRead := none, storeReply := some (s1.storeReply q) } }
  | _, _ => .next s1

end Sys2Proof.Machine
end

