-- ==== Sys2Proof/Machine/Dispatch.lean ====
section
/-! DEFINITION. One arm per command: a direct call of its meaning. -/

namespace Sys2Proof.Machine

def exec (i : Instr) (s : State) : Host.Outcome State Fault Refusal :=
  match i with
  | .powerOn straps => Sys2Proof.Machine.execPowerOn straps s
  | .restart => Sys2Proof.Machine.execRestart s
  | .loadCompletion => Sys2Proof.Machine.execLoadCompletion s
  | .inputFrameStart ready => Sys2Proof.Machine.execInputFrameStart ready s
  | .controlLine cols => Sys2Proof.Machine.execControlLine cols s
  | .blankingLine => Sys2Proof.Machine.execBlankingLine s
  | .activeLine cols flip => Sys2Proof.Machine.execActiveLine cols flip s
  | .lossIntervalExpiry ready => Sys2Proof.Machine.execLossIntervalExpiry ready s
  | .fallbackFrameStart ready => Sys2Proof.Machine.execFallbackFrameStart ready s
  | .fallbackLineStart flip => Sys2Proof.Machine.execFallbackLineStart flip s
  | .fillGrant => Sys2Proof.Machine.execFillGrant s
  | .fillCompletion => Sys2Proof.Machine.execFillCompletion s
  | .tileWrite => Sys2Proof.Machine.execTileWrite s
  | .uploadsAheadDrained => Sys2Proof.Machine.execUploadsAheadDrained s
  | .creditWindowRestart => Sys2Proof.Machine.execCreditWindowRestart s
  | .saveReadGrant => Sys2Proof.Machine.execSaveReadGrant s
  | .stageOpen => Sys2Proof.Machine.execStageOpen s
  | .seedCompletion => Sys2Proof.Machine.execSeedCompletion s
  | .tableWrite => Sys2Proof.Machine.execTableWrite s
  | .flipArm => Sys2Proof.Machine.execFlipArm s
  | .flipCancel => Sys2Proof.Machine.execFlipCancel s
  | .stageDiscard => Sys2Proof.Machine.execStageDiscard s
  | .configWrite => Sys2Proof.Machine.execConfigWrite s
  | .storeSave => Sys2Proof.Machine.execStoreSave s
  | .saveCompletion => Sys2Proof.Machine.execSaveCompletion s
  | .storeRecall => Sys2Proof.Machine.execStoreRecall s
  | .recallCompletion => Sys2Proof.Machine.execRecallCompletion s
  | .storeProtect => Sys2Proof.Machine.execStoreProtect s
  | .protectProgramCompletion => Sys2Proof.Machine.execProtectProgramCompletion s
  | .storeProgramTimeout => Sys2Proof.Machine.execStoreProgramTimeout s
  | .pageHoldExpiry => Sys2Proof.Machine.execPageHoldExpiry s
  | .storeReadCompletion => Sys2Proof.Machine.execStoreReadCompletion s
  | .leaderWindowEnd => Sys2Proof.Machine.execLeaderWindowEnd s
  | .memberWindowEnd => Sys2Proof.Machine.execMemberWindowEnd s
  | .pulseEnd => Sys2Proof.Machine.execPulseEnd s
  | .fallbackBlankingLinePeriod => Sys2Proof.Machine.execFallbackBlankingLinePeriod s

end Sys2Proof.Machine
end

