-- ==== Sys2Proof/Safety.lean ====
section
/-! DEFINITION. What counts as a lawful state of the part: the laws that the spec gives it, each as a
predicate on the state that every step is to keep, and the states in which nothing is due. -/

namespace Sys2Proof.Machine

/-! ### Nothing due -/

/-- No step that the state brings due is due, but that PAGE_HOLD_EXPIRY may be (log 4, log 13). -/
def State.nothingButHoldDue (s : State) : Bool :=
  !s.loadDue && !s.drainedDue && !s.creditDue && !s.pulseDue && !s.leaderWindowDue && !s.memberWindowDue

/-- No step that the state brings due is due (log 4, log 13). -/
def State.nothingDue (s : State) : Bool := s.nothingButHoldDue && !s.holdDue

/-- No loader, RECALL or writing SAVE is at work (log 13, log 16). -/
def State.storeQuiet (s : State) : Bool :=
  !s.loading && s.scene.phase != .recalling
    && !(s.scene.phase == .saving
          && (match s.store.save with
              | some j => j.seeded
              | none => false))

/-- Nothing stands between this state and the next command. -/
def State.quiet (s : State) : Bool := s.nothingDue && s.storeQuiet

/-- Nothing stands between this state and the next line or frame start of the raster: a PAGE_HOLD_EXPIRY that is due
may still be to come (R45, R65; log 4). -/
def State.rasterQuiet (s : State) : Bool := s.nothingButHoldDue && s.storeQuiet

/-! ### Queues (R155, R103) -/

/-- The law of R155: the table, hot, upload, read and fill queues within 64, 16, 32, 4 and 8 entries. -/
def State.queueLaw (s : State) : Prop :=
  s.scene.tableQ.length ≤ 64 ∧ s.scene.hotQ.length ≤ 16 ∧ s.library.uploads.length ≤ 32 ∧
    s.status.readQ.length ≤ 4 ∧ s.cache.fills.length ≤ 8

/-- Every waiting upload is one that the parser accepts: its tile, its sector and its 256 bytes (R110,
check 5 of R154). -/
def State.uploadLaw (s : State) : Prop :=
  ∀ u ∈ s.library.uploads, u.tile ≤ 32767 ∧ u.sector ≤ 3 ∧ u.bytes.length = 256

/-! ### Tables (Section 2) -/

/-- Every field of a region within its range, R24. -/
def Region.lawful (r : Region) : Prop :=
  r.x ≤ 4095 ∧ r.y ≤ 4095 ∧ 1 ≤ r.width ∧ r.width ≤ 4095 ∧ 1 ≤ r.height ∧ r.height ≤ 4095 ∧ r.level ≤ 7 ∧
    (∀ i, r.item = some i → i ≤ 255) ∧ r.style ≤ 15 ∧ r.photo ≤ 511

/-- Every field of an item within its range, R31. -/
def Item.lawful (it : Item) : Prop :=
  it.prices.length ≤ 4 ∧ (∀ p ∈ it.prices, p ≤ 999999) ∧ ∀ e, it.energy = some e → e ≤ 9999

/-- Every field of a style within its range, R34. -/
def Style.lawful (st : Style) : Prop :=
  st.glyphPhoto ≤ 511 ∧ 4 ≤ st.cellW ∧ st.cellW ≤ 64 ∧ 4 ≤ st.cellH ∧ st.cellH ≤ 64 ∧
    (st.minorDigits = 0 ∨ st.minorDigits = 2 ∨ st.minorDigits = 3)

/-- Every field of a directory entry within its range, and the extent condition, R37. -/
def Photo.lawful (p : Photo) : Prop :=
  p.area ≤ 31 ∧ p.offset ≤ 1023 ∧ 1 ≤ p.width ∧ p.width ≤ 64 ∧ 1 ≤ p.height ∧ p.height ≤ 64 ∧
    p.offset + p.width * p.height ≤ 1024

/-- A bank with the table sizes of R20 and every field within its range. -/
def Bank.lawful (k : Bank) : Prop :=
  k.regions.length = 128 ∧ k.items.length = 256 ∧ k.styles.length = 16 ∧ k.photos.length = 512 ∧
    (∀ r ∈ k.regions, r.lawful) ∧ (∀ it ∈ k.items, it.lawful) ∧ (∀ st ∈ k.styles, st.lawful) ∧
      ∀ p ∈ k.photos, p.lawful

/-- The law of R40 in a bank: each of its 32 counts is the number of its valid directory entries in that
area. -/
def Bank.countLaw (k : Bank) : Prop :=
  k.photos.length = 512 ∧ k.counts.length = 32 ∧ (∀ p ∈ k.photos, p.area < 32) ∧
    ∀ a, a < 32 → k.count a = k.photos.countP fun p => p.valid && p.area == a

/-- Both banks hold the tables of R20 within their ranges. -/
def State.tableLaw (s : State) : Prop := s.tables.a.lawful ∧ s.tables.b.lawful

/-- The law of R40 in both banks. -/
def State.countLaw (s : State) : Prop := s.tables.a.countLaw ∧ s.tables.b.countLaw

/-! ### Scene controller and group sync unit (Sections 7 and 8) -/

/-- Page, threshold and the page stack within R26 and R134, the generation within R137. -/
def State.pageLaw (s : State) : Prop :=
  s.scene.page ≤ 7 ∧ s.scene.threshold ≤ 7 ∧ s.scene.stack.length ≤ 8 ∧
    (∀ e ∈ s.scene.stack, e.page ≤ 7 ∧ e.threshold ≤ 7) ∧ s.scene.generation < 65536 ∧
      ∀ r, s.scene.armed = some r → ∀ p, r.entryPage = some p → p ≤ 7

/-- The armed record exists in exactly the four states of R120 and fits the state; the window counter
runs in ARMED-group alone (R141); a group record is held only with participation on (R125, R128); a pulse
is a leader's (R140, R144); a save job is held in SAVING alone (R176); while the start-up load runs the
controller is SETTLED with empty queues (R138, R155); beside a save no protect program runs (R121, R178), and a
save that writes keeps the header's 11 bytes erased, its sections lying behind them (R177). -/
def State.flipLaw (s : State) : Prop :=
  s.scene.armed.isSome = s.scene.phase.armed ∧
    s.group.window.isSome = (s.scene.phase == .armedGroup) ∧
    (∀ r, s.scene.armed = some r →
      (s.scene.phase ≠ .draining → r.uploadsAhead = 0) ∧
      (s.scene.phase = .armedLocal → r.mode = .localOnly) ∧
      (s.scene.phase = .armedGroup ∨ s.scene.phase = .committed → r.mode = .group) ∧
      (r.mode = .group → s.group.participation = true)) ∧
    (∀ n, s.group.pulse = some n → n ≤ 8 ∧ s.group.role = .leader ∧ s.group.participation = true) ∧
    s.store.save.isSome = (s.scene.phase == .saving) ∧
    (s.loading = true → s.scene.phase = .settled ∧ s.scene.tableQ = [] ∧ s.scene.hotQ = [] ∧
      s.library.uploads = [] ∧ s.status.readQ = []) ∧
    ∀ j, s.store.save = some j →
      s.store.protectJob = none ∧
      (j.seeded = true → 11 ≤ j.addr ∧ ∀ a, a < 11 → s.flashByte a = 0xFF)

/-! ### Raster timing and credit window (R4, R10, R11, R113) -/

/-- Every setting within its range, R4. -/
def Settings.lawful (g : Settings) : Prop :=
  640 ≤ g.wAct ∧ g.wAct ≤ 1920 ∧ g.wAct % 16 = 0 ∧ 360 ≤ g.hAct ∧ g.hAct ≤ 1080 ∧
    20 ≤ g.lossMs ∧ g.lossMs ≤ 500 ∧ 16 ≤ g.periodMs ∧ g.periodMs ≤ 42

/-- Settings and canvas within their ranges; the record's source is INPUT exactly while the lock is held
(R11); a measurement, a loss timer and an input frame are there together, and without them the lock is
UNLOCKED (R6, R9); in a fallback frame the lines follow the 45 blanking line periods one by one, H + 45 in all
(R12). -/
def State.rasterLaw (s : State) : Prop :=
  s.raster.settings.lawful ∧
    640 ≤ s.raster.record.width ∧ s.raster.record.width ≤ 1920 ∧
    360 ≤ s.raster.record.height ∧ s.raster.record.height ≤ 1080 ∧
    (s.raster.record.source = .input ↔ s.followsInput = true) ∧
    s.raster.measure.isSome = s.raster.lossTimer.isSome ∧
    s.raster.inFrame.isSome = s.raster.lossTimer.isSome ∧
    (s.raster.measure = none → s.raster.lock = .unlocked) ∧
    (s.raster.record.source = .fallback →
      s.raster.nextLine = s.raster.linePeriods - 45 ∧
      s.raster.linePeriods ≤ s.raster.record.height + 45)

/-- The law of R113, with the range of the credit settings: a window runs while L is nonzero, its count of
lines does not pass its length, and its count of grants never exceeds its limit. -/
def State.creditLaw (s : State) : Prop :=
  s.library.creditLines ≤ 4095 ∧ 1 ≤ s.library.creditLimit ∧ s.library.creditLimit ≤ 255 ∧
    (s.library.window.isSome = true ↔ s.library.creditLines ≠ 0) ∧
    ∀ w, s.library.window = some w →
      1 ≤ w.length ∧ w.lines ≤ w.length ∧ 1 ≤ w.limit ∧ w.limit ≤ 255 ∧ w.grants ≤ w.limit

/-! ### Overlay builder (Section 3) -/

/-- The law of R46: the view names the active bank, and the page, threshold and canvas of the frame in
progress. -/
def State.viewLaw (s : State) : Prop :=
  ∀ v, s.builder.view = some v →
    v.bank = s.tables.active ∧ v.page = s.scene.page ∧ v.threshold = s.scene.threshold ∧
      v.width = s.raster.record.width ∧ v.height = s.raster.record.height

/-- A pixel as R57 and R58 leave it: at most 4 samples, none of coverage 0, and closed exactly by a last
sample of coverage 255. -/
def Pixel.lawful (p : Pixel) : Prop :=
  p.slots.length ≤ 4 ∧ (∀ m ∈ p.slots, m.coverage ≠ 0) ∧
    (∀ m ∈ p.slots.dropLast, m.coverage ≠ 255) ∧
    (p.closed = true ↔ ∃ m, p.slots.getLast? = some m ∧ m.coverage = 255)

/-- The laws of R51 and R57, and the ring of R60: at most 32 list entries, at most 4 lines, every pixel
lawful. -/
def State.builderLaw (s : State) : Prop :=
  (∀ w, s.builder.work = some w → w.entries.length ≤ 32) ∧
    s.builder.ring.length ≤ 4 ∧ ∀ e ∈ s.builder.ring, ∀ q ∈ e.pixels, q.2.lawful

/-! ### Tile cache and memories (Section 6) -/

/-- The shape of the cache and of its fill queue: 32 sets of 4 ways, a tile in its own set and in one way
of it, four sectors a line, counters to 3 (R98); a fill-in-flight mark for exactly the sectors in the fill
queue, no sector twice in it, a granted entry for every read under way (R103, R109). -/
def Cache.lawful (c : Cache) : Prop :=
  c.sets.length = 32 ∧
    (∀ i ws, c.sets[i]? = some ws →
      ws.length = 4 ∧ (ws.filterMap (·.tag)).Nodup ∧
        ∀ l ∈ ws, l.sectors.length = 4 ∧ l.confidence ≤ 3 ∧ ∀ t, l.tag = some t → setOf t = i) ∧
    (∀ t n, c.inFlight t n = true ↔ ∃ f ∈ c.fills, f.tile = t ∧ f.sector = n) ∧
    (c.fills.map fun f => (f.tile, f.sector)).Nodup ∧
    (c.reads.map fun r => (r.tile, r.sector)).Nodup ∧
    ∀ r ∈ c.reads, ∃ f ∈ c.fills, f.tile = r.tile ∧ f.sector = r.sector ∧ f.granted = true

/-- The law of R106, and what it rests on: a valid sector, and a read under way whose entry is not void,
hold the bytes of library memory. -/
def State.cacheLaw (s : State) : Prop :=
  s.cache.lawful ∧ s.uploadLaw ∧
    (∀ t n bs, s.cache.valid? t n = some bs → bs = s.librarySector t n) ∧
    ∀ r ∈ s.cache.reads, s.cache.isVoid r.tile r.sector = false → r.bytes = s.librarySector r.tile r.sector

/-- Library memory and the serial store are in canonical form. -/
def State.memoryLaw (s : State) : Prop :=
  memWf libraryFill s.library.mem = true ∧ memWf flashFill s.store.flash = true

/-! ### After an output line start -/

/-- What the output line start of the line that comes next, made over a background line, leaves of `s`: the pixels
sent (R61, R75, R78), taken in by the watch computation (R170); the ring entry of the line before freed behind the
line's deadline (R60, R62 to R64) and the builder gone on (R48); the credit window's count (R113), the pulse timer's
(R144) and a member's sample (R146, R147), in the order of log 8. -/
def State.lineStarted (s : State) (background : List Rgb) (t : State) : Prop :=
  let y := s.raster.nextLine
  let ring := (s.deadline y).builder.ring
  let built := (((s.deadline y).mix y background).freeLineBefore y).build
  let sampled := { s with group := { s.group with pulse := s.group.pulse.map (· - 1) } }.sampleFlip
  (∃ px, t.panel = ⟨.pixels px, true⟩ ∧ px.length = background.length ∧
    (∀ x, s.raster.record.height ≤ y ∨ s.raster.record.width ≤ x → px[x]? = background[x]?) ∧
    (∀ x, y < s.raster.record.height → x < s.raster.record.width →
      px[x]? = (background[x]?).map (blendSlots (pixelAt (ringPixels ring y) x).slots)) ∧
    t.status.watchRun = (s.watchLine y px).status.watchRun) ∧
  (t.builder = built.builder ∧ t.cache = built.cache ∧
    t.status = { built.status with flags := t.status.flags } ∧
    (∀ g, built.flagged g = true → t.flagged g = true) ∧
    (sampled.flagged .missedFlip = true → t.flagged .missedFlip = true)) ∧
  t.raster = { s.raster with nextLine := y + 1 } ∧
  t.library = { s.library with window := s.library.window.map fun w => { w with lines := w.lines + 1 } } ∧
  t.group = sampled.group ∧ t.scene = sampled.scene ∧
  t.tables = s.tables ∧ t.store = s.store ∧ t.straps = s.straps

/-! ### After a reset -/

/-- What POWER_ON and RESTART leave, whatever came before, for the straps held: R4, R19, R42, R44, R118,
R138, R151, R171, R174; the first fallback frame has begun, its view frozen during the load. -/
def State.atResetValues (t : State) : Prop :=
  t.raster = .atReset ∧ t.tables = ⟨.cleared, .cleared, .a⟩ ∧ t.scene = .atReset ∧ t.cache = .atReset ∧
    t.builder = State.reset.builder ∧
    t.library.uploads = [] ∧ t.library.creditLines = 0 ∧ t.library.creditLimit = 255 ∧
    t.library.window = none ∧
    t.group.role = (if t.straps.leader then .leader else .member) ∧
    t.group.participation = t.straps.inGroup ∧ t.group.window = none ∧ t.group.pulse = none ∧
    t.group.filterHigh = false ∧ t.group.filterRun = 0 ∧
    t.status.frameCount = 0 ∧ t.status.flags = 0 ∧ t.status.refusal = none ∧ t.status.readQ = [] ∧
    t.status.storeRead = none ∧ t.status.storeReply = none ∧ t.status.watch = none ∧
    t.store.state = .loading ∧ t.store.imagePos = 0 ∧ t.store.save = none ∧ t.store.protectJob = none

/-- The copy of the protect record, R173: bits 7 and 6 of each block's byte, and every block unprotected
with no store strapped. -/
def State.recordCopied (t : State) : Prop :=
  ∀ b, b < 16 →
    t.store.writeMarks.getLsbD b =
        (t.straps.blocks == 0 || (t.flashByte (recordAddr t.straps.blocks b)).getLsbD 7) ∧
      t.store.readMarks.getLsbD b =
        (t.straps.blocks == 0 || (t.flashByte (recordAddr t.straps.blocks b)).getLsbD 6)

/-- What ending the output line in progress leaves on the panel output (R19, R79): the pixels already sent, its
remainder as blanking, or the whole line where all were sent, and nothing new where no line was in progress. How
many had been sent is free (log 18). -/
def State.endsLine (s t : State) : Prop :=
  (s.panel.inProgress = false → t.panel = s.panel) ∧
  ∀ px, s.panel = ⟨.pixels px, true⟩ →
    (∃ sent, sent < px.length ∧ t.panel = ⟨.cut (px.take sent), false⟩) ∨ t.panel = ⟨.pixels px, false⟩

/-- What abandoning the operation in progress leaves of the serial store, behind `pieces` more pieces of a save's
work (R179; pace and stop are free: log 16, log 17, log 30). Without a save that writes and without a protect
program nothing changes. A protect program only clears bits, in the record bytes of the blocks it named. A save
that writes leaves every byte outside the sector it was to erase, or else the page it was to program, as it had
written it, and its header unwritten, so that the image reads as UNPROGRAMMED (R177). -/
def State.abandonsStore (s t : State) (pieces : Nat) : Prop :=
  let writes := ∃ j, s.store.save = some j ∧ j.seeded = true
  (s.store.protectJob = none → ¬writes → ∀ a, t.flashByte a = s.flashByte a) ∧
  (∀ named, s.store.protectJob = some named → ¬writes →
    (∀ a, t.flashByte a &&& s.flashByte a = t.flashByte a) ∧
    ∀ a, (∀ b, b < 16 → named.getLsbD b = true → a ≠ recordAddr s.straps.blocks b) →
      t.flashByte a = s.flashByte a) ∧
  ∀ j, s.store.protectJob = none → s.store.save = some j → j.seeded = true →
    let done := saveSome s.stagingBank pieces (j, s.store.flash)
    let place := done.1.addr
    (∀ a, a < j.addr → t.flashByte a = s.flashByte a) ∧
    (place % 4096 = 0 → ∀ a, a / 4096 ≠ place / 4096 → t.flashByte a = memRead flashFill done.2 a) ∧
    (place % 4096 ≠ 0 → ∀ a,
      t.flashByte a &&& memRead flashFill done.2 a = t.flashByte a ∧
      (a < place ∨ a / 256 ≠ place / 256 → t.flashByte a = memRead flashFill done.2 a)) ∧
    (11 ≤ j.addr → (∀ a, a < 11 → s.flashByte a = 0xFF) → t.straps.blocks ≠ 0 →
      t.imageOutcome = .unprogrammed)

/-! ### The whole -/

/-- Every law at once. -/
def State.lawful (s : State) : Prop :=
  s.queueLaw ∧ s.tableLaw ∧ s.countLaw ∧ s.pageLaw ∧ s.flipLaw ∧ s.rasterLaw ∧ s.creditLaw ∧ s.viewLaw ∧
    s.builderLaw ∧ s.cacheLaw ∧ s.memoryLaw

end Sys2Proof.Machine
end

