-- ==== Sys2Proof/Certificates/Slice0/Obligations.lean ====
section
/-! DEFINITION. The statements for the provers. Each docstring names the rule, or the section of the spec
and the log entry, that it formalises. -/

open Sys2Proof Sys2Proof.Machine

/-! ### The queue of commands -/

/-- Each step is whole and indivisible (95_what_each_step_holds.md): the front command runs with the queue's rest; on
an empty queue the block idles (the model's choice, log 2). -/
def Obligations.StepRunsFrontCommandOrIdles : Prop :=
  (∀ (c : Instr) (rest : List Instr) (s : State),
    s.pending = c :: rest → step s = exec c { s with pending := rest }) ∧
  ∀ s : State, s.pending = [] → step s = .next s

/-- No command adds to, or takes from, the queue that waits behind it. -/
def Obligations.CommandsLeaveTheQueue : Prop :=
  ∀ (c : Instr) (s t : State), exec c s = .next t → t.pending = s.pending

/-- An event that cannot occur in the state leaves it as it is (the model's choice, log 3): a line of no input frame
(R1), a grant with no entry, a completion with nothing under way, a counter not due. -/
def Obligations.EventsThatCannotOccurChangeNothing : Prop :=
  ∀ s : State, s.quiet = true →
    (s.raster.inFrame = none →
      (∀ cols, exec (.controlLine cols) s = .next s) ∧ exec .blankingLine s = .next s) ∧
    (s.cache.nextGrant = none → exec .fillGrant s = .next s) ∧
    (s.cache.reads = [] → exec .fillCompletion s = .next s) ∧
    (s.library.uploads = [] → exec .tileWrite s = .next s) ∧
    (s.store.save = none → exec .saveReadGrant s = .next s ∧ exec .saveCompletion s = .next s) ∧
    (s.store.protectJob = none → exec .protectProgramCompletion s = .next s) ∧
    (s.status.storeRead = none → exec .storeReadCompletion s = .next s) ∧
    exec .loadCompletion s = .next s ∧ exec .recallCompletion s = .next s ∧
    exec .uploadsAheadDrained s = .next s ∧ exec .creditWindowRestart s = .next s ∧
    exec .pageHoldExpiry s = .next s ∧ exec .leaderWindowEnd s = .next s ∧
    exec .memberWindowEnd s = .next s ∧ exec .pulseEnd s = .next s

/-! ### Laws that every step keeps -/

/-- The law of R155: the table, hot, upload, read and fill queues never hold more than 64, 16, 32, 4 and 8 entries. -/
def Obligations.QueuesNeverExceedTheirCapacities : Prop :=
  ∀ s t : State, s.queueLaw → step s = .next t → t.queueLaw

/-- Every entry of both banks keeps its table's size and its fields' ranges, directory entries the extent condition
(R20, R24, R31, R34, R37). -/
def Obligations.TableEntriesStayInRange : Prop :=
  ∀ s t : State, s.tableLaw → step s = .next t → t.tableLaw

/-- The law of R40: in each bank, and so in the active one, every area reference count equals the number of valid
directory entries in that area. -/
def Obligations.AreaCountsFollowTheDirectory : Prop :=
  ∀ s t : State, s.countLaw → step s = .next t → t.countLaw

/-- Page and threshold within 0 to 7, the page stack within 8 entries (the law of R134), the generation below 65536
(R26, R137). -/
def Obligations.PageStackAndGenerationStayInRange : Prop :=
  ∀ s t : State, s.pageLaw → step s = .next t → t.pageLaw

/-- The armed record fits the scene state (R120, R126), the window runs in ARMED-group alone (R141), a pulse is a
leader's with participation on (R140, R144), no queue holds anything during the load (R155), and a save that writes
keeps the first 11 bytes of the store erased (R177). -/
def Obligations.ArmedRecordFitsTheSceneState : Prop :=
  ∀ s t : State, s.flipLaw → step s = .next t → t.flipLaw

/-- A setting never holds a value outside its range (R4), and the source of the frame in progress is INPUT exactly
while the lock state is LOCKED or SLIPPING (1.4); the lines of a fallback frame keep their places among its line
periods (R12). -/
def Obligations.RasterSettingsAndSourceStayLawful : Prop :=
  ∀ s t : State, s.rasterLaw → step s = .next t → t.rasterLaw

/-- The law of R113: within one credit window the number of tile writes granted never exceeds its limit. -/
def Obligations.UploadGrantsStayWithinTheWindowLimit : Prop :=
  ∀ s t : State, s.creditLaw → step s = .next t → t.creditLaw

/-- The law of R46: the overlay builder reads only the active bank, and within one frame it uses a single bank, page
and threshold. -/
def Obligations.FrameViewIsTheActiveBank : Prop :=
  ∀ s t : State, s.viewLaw → step s = .next t → t.viewLaw

/-- The laws of R51 and R57, with the ring of R60: at most 32 entries in a line list, 4 lines in the ring, 4 samples
in a pixel. -/
def Obligations.LineListsAndSlotsStayBounded : Prop :=
  ∀ s t : State, s.builderLaw → step s = .next t → t.builderLaw

/-- The law of R106: a valid tile-cache sector always holds the same bytes as the library memory sector it caches. -/
def Obligations.CachedSectorsEqualLibraryMemory : Prop :=
  ∀ s t : State, s.cacheLaw → step s = .next t → t.cacheLaw

/-- Library memory and the serial store keep their canonical form (the model's own). -/
def Obligations.MemoriesStayCanonical : Prop :=
  ∀ s t : State, s.memoryLaw → step s = .next t → t.memoryLaw

/-- The state after reset meets every law. That it is what a POWER_ON leaves, with the straps, memory and store
contents that the spec does not give, is the model's choice (log 1, log 10, log 11, log 12). -/
def Obligations.ResetMeetsEveryLaw : Prop := State.reset.lawful

/-! ### What commands leave unchanged -/

/-- The law of R111: apart from the start-up load, no library byte in an area with a nonzero active reference count is
written; and a quiet part writes library memory at a TILE_WRITE alone (R97). A power-on leaves library memory
unspecified (log 10). -/
def Obligations.PinnedLibraryBytesAreNotWritten : Prop :=
  (∀ (c : Instr) (s t : State), (∀ p, c ≠ .powerOn p) → s.loading = false → s.uploadLaw →
    exec c s = .next t →
      ∀ a, s.pinned (a / 1048576) = true → t.libByte a = s.libByte a) ∧
  ∀ (c : Instr) (s t : State), (∀ p, c ≠ .powerOn p) → c ≠ .tileWrite → s.loading = false →
    exec c s = .next t → ∀ a, t.libByte a = s.libByte a

/-- The laws of R21 and R137: the bank selector and the generation change only at a flip, made at an output frame
start where one is due, by one modulo 65536; a power-on or RESTART sets A and 0. What stands before a frame start, and
before RESTART, is log 4; a RESTART that is not at the head of the table queue changes neither (log 3). -/
def Obligations.SelectorAndGenerationChangeOnlyAtAFlip : Prop :=
  (∀ (c : Instr) (s t : State), (∀ p, c ≠ .powerOn p) → c ≠ .restart → exec c s = .next t →
    (t.tables.active = s.tables.active ∧ t.scene.generation = s.scene.generation) ∨
      ((∃ r, c = .inputFrameStart r ∨ c = .lossIntervalExpiry r ∨ c = .fallbackFrameStart r) ∧
        s.rasterPrelude.flipDue = true ∧ t.tables.active = s.tables.active.other ∧
        t.scene.generation = (s.scene.generation + 1) % 65536)) ∧
  (∀ (p : Straps) (s t : State), exec (.powerOn p) s = .next t →
    t.tables.active = .a ∧ t.scene.generation = 0) ∧
  ∀ s t : State, exec .restart s = .next t →
    (t.tables.active = .a ∧ t.scene.generation = 0) ∨
      (t.tables.active = s.tables.active ∧ t.scene.generation = s.scene.generation)

/-- The serial store, its marks, the straps and the settings change only at the commands that write them (R4, R128,
R140, R172 to R179). That SEED_COMPLETION is one, which erases sector 0 at the start of a save, is the model's choice
(log 16). -/
def Obligations.StoreAndSettingsChangeOnlyAtTheirWriters : Prop :=
  ∀ (c : Instr) (s t : State), s.quiet = true → (∀ p, c ≠ .powerOn p) → c ≠ .restart →
    exec c s = .next t →
      t.straps = s.straps ∧
      (c ∉ [.seedCompletion, .saveReadGrant, .saveCompletion, .protectProgramCompletion,
          .storeProgramTimeout] → ∀ a, t.flashByte a = s.flashByte a) ∧
      (c ≠ .storeProtect →
        t.store.writeMarks = s.store.writeMarks ∧ t.store.readMarks = s.store.readMarks) ∧
      (c ≠ .configWrite →
        t.raster.settings = s.raster.settings ∧ t.library.creditLines = s.library.creditLines ∧
        t.library.creditLimit = s.library.creditLimit ∧ t.group.role = s.group.role ∧
        t.group.participation = s.group.participation)

/-- The writers of R22: only an output frame start reaches the active bank, and with an empty hot queue it changes no
contents; only SEED_COMPLETION, TABLE_WRITE and STORE_RECALL reach staging in a quiet part. That the seed copy reaches
it at SEED_COMPLETION alone is the model's choice (log 15). -/
def Obligations.BanksChangeOnlyAtTheirWriters : Prop :=
  ∀ (c : Instr) (s t : State), s.quiet = true → (∀ p, c ≠ .powerOn p) → c ≠ .restart →
    exec c s = .next t →
      ((∀ r, c ≠ .inputFrameStart r ∧ c ≠ .lossIntervalExpiry r ∧ c ≠ .fallbackFrameStart r) →
        t.tables.active = s.tables.active ∧ t.activeBank = s.activeBank ∧
        (c ∉ [.seedCompletion, .tableWrite, .storeRecall] → t.tables = s.tables)) ∧
      (s.scene.hotQ = [] → c ∉ [.seedCompletion, .tableWrite, .storeRecall] →
        t.tables.a = s.tables.a ∧ t.tables.b = s.tables.b)

/-! ### Reset and load -/

/-- POWER_ON and RESTART leave every block at its reset values; POWER_ON samples the straps, RESTART keeps them and
library memory, and is taken even while the engine is busy; each reads the protect record of the store (R121, R173,
R179). The panel output carries nothing after a POWER_ON; a RESTART ends the line in progress at once (R19, R79; how
far it had come is free, log 18). Each abandons the operation of the store controller in progress and leaves of the
serial store what that operation had reached, a save having gone on by its free pace since the last command (R179;
free, log 16, log 17, log 30; that a POWER_ON does so too is log 26). The model's choice: that a store reply which
waits for its packet goes with the rest (log 33), and that with no store, too, the state left is LOADING with a view
of the load, the end 'at once' of R174 being the next step (log 13). -/
def Obligations.PowerOnAndRestartLeaveResetValues : Prop :=
  (∀ (p : Straps) (s : State), p.wellFormed = true →
    let pieces := if s.scene.phase = .saving then Config.storePace s.tick else 0
    ∃ t, exec (.powerOn p) s = .next t ∧ t.straps = p ∧ t.atResetValues ∧ t.recordCopied ∧
      t.panel = ⟨.nothing, false⟩ ∧ (s.memoryLaw → s.abandonsStore t pieces)) ∧
  ∀ (s : State) (q : List TableCmd), s.nothingButHoldDue = true → s.loading = false →
    s.scene.tableQ = .restart :: q →
    let pieces := if s.scene.phase = .saving then Config.storePace s.tick else 0
    ∃ t, exec .restart s = .next t ∧ t.straps = s.straps ∧ t.atResetValues ∧
      t.recordCopied ∧ (∀ a, t.libByte a = s.libByte a) ∧ s.endsLine t ∧
      (s.memoryLaw → s.abandonsStore t pieces)

/-- The end of a load or a RECALL does not depend on the pace at which it went (free, log 13), and its outcome decides
the store state, the tag, the banks and the scene state (R43, R137, R174, R175); with no store the load ends at once,
before any other command. What an image is read as: its header, its sections in order up to the first fault, the
entries of each; and what the load, and a RECALL, do with one. That a section that breaks off, or a TILES section past
tile 32767, applies nothing of itself is the model's choice (log 14), and so is that a RECALL of a part with no store
ends at its RECALL_COMPLETION as every other does (log 36). -/
def Obligations.LoadAndRecallEndByTheirOutcome : Prop :=
  ((∀ s : State, s.nothingDue = true → s.loading = true →
    ∃ t, exec .loadCompletion s = .next t ∧ t = s.nextTick.loadEnds ∧
      t.store.state = s.imageOutcome.storeState ∧ t.tables.active = s.tables.active ∧
      t.stagingBank = s.stagingBank ∧ t.scene.generation = s.scene.generation ∧
      (∀ tag, s.imageOutcome = .loaded tag → t.scene.tag = tag) ∧
      ((∀ tag, s.imageOutcome ≠ .loaded tag) → t.scene.tag = s.scene.tag) ∧
      (s.imageOutcome = .unprogrammed → t.tables = s.tables) ∧
      (s.imageOutcome = .failed → t.activeBank = .cleared ∧ t.flagged .storeFault = true)) ∧
  (∀ s : State, s.loading = true → s.straps.blocks = 0 →
    ∃ t, exec .loadCompletion s = .next t ∧ t = { s with store := { s.store with state := .none } } ∧
      ∀ c, (∀ p, c ≠ .powerOn p) → c ≠ .loadCompletion → exec c s = exec c t) ∧
  ∀ s : State, s.nothingDue = true → s.loading = false → s.scene.phase = .recalling →
    ∃ t, exec .recallCompletion s = .next t ∧ t = s.nextTick.recallEnds ∧
      t.store.state = s.imageOutcome.storeState ∧ t.activeBank = s.activeBank ∧
      t.scene.tag = s.scene.tag ∧ t.library = s.library ∧ t.raster = s.raster ∧
      (∀ tag, s.imageOutcome = .loaded tag → t.scene.phase = .editing) ∧
      ((∀ tag, s.imageOutcome ≠ .loaded tag) →
        t.scene.phase = .settled ∧ t.flagged .storeFault = true)) ∧
  (∀ (blocks : Nat) (m : List Host.Cell),
    let field := fun a n : Nat => beValue (memReadBytes 0xFF m a n)
    let signed := memReadBytes 0xFF m 0 4 = [0x4D, 0x45, 0x4E, 0x55]
    let body := imageSections m (field 4 4) (field 10 1) 11
    (blocks = 0 → readImage blocks m = ([], .noStore)) ∧
    (blocks ≠ 0 → ¬signed → readImage blocks m = ([], .unprogrammed)) ∧
    (blocks ≠ 0 → signed → blocks * 1048576 - 4096 < field 4 4 → readImage blocks m = ([], .failed)) ∧
    (blocks ≠ 0 → signed → field 4 4 ≤ blocks * 1048576 - 4096 →
      readImage blocks m = (body.1, if body.2 = true then .loaded (field 8 2) else .failed))) ∧
  (∀ (m : List Host.Cell) (len n a : Nat),
    let plen := beValue (memReadBytes 0xFF m (a + 1) 4)
    let next := a + 5 + plen + 2
    let acts := sectionActs (beValue (memReadBytes 0xFF m a 1)) (memReadBytes 0xFF m (a + 5) plen)
    let sound := acts.2 = true ∧
      crcBytes (crc16 (memReadBytes 0xFF m a (5 + plen))) = memReadBytes 0xFF m (a + 5 + plen) 2 ∧
      (n = 0 → next = len)
    let rest := imageSections m len n next
    imageSections m len 0 a = ([], true) ∧
    (len < next → imageSections m len (n + 1) a = ([], false)) ∧
    (next ≤ len → ¬sound → imageSections m len (n + 1) a = (acts.1, false)) ∧
    (next ≤ len → sound → imageSections m len (n + 1) a = (acts.1 ++ rest.1, rest.2))) ∧
  (∀ (kind : Nat) (payload : List Byte),
    let first := fieldAt 0 2 payload
    let count := fieldAt 2 2 payload
    (kind = 0 ∨ 6 < kind → sectionActs kind payload = ([], false)) ∧
    (kind = 1 → payload.length = 2 + maskedSize first configSizes 0 →
      sectionActs kind payload = ([ImageAct.config (configFields first (payload.drop 2))], true)) ∧
    (∀ table size, (kind, table, size) ∈ [(2, 3, 20), (3, 2, 16), (4, 1, 19), (5, 4, 6)] →
      payload.length = 4 + count * size →
      let entry := fun j => (payload.drop (4 + j * size)).take size
      ((sectionActs kind payload).2 = true ↔
        ∀ j, j < count → first + j < tableSize table ∧ entryValid table (entry j) = true) ∧
      ((sectionActs kind payload).2 = true →
        (sectionActs kind payload).1 =
          (List.range count).map fun j => ImageAct.entry table (first + j) (entry j))) ∧
    (kind = 6 → payload.length = 4 + count * 1024 →
      (32768 < first + count → sectionActs kind payload = ([], false)) ∧
      (first + count ≤ 32768 →
        sectionActs kind payload =
          ((List.range (count * 4)).map fun j =>
            ImageAct.sector (first + j / 4) (j % 4) ((payload.drop (4 + j * 256)).take 256), true)))) ∧
  ∀ (s : State) (f : ConfigFields) (tile n table i : Nat) (bs : List Byte),
    loadAct (.config f) s = s.applyConfig f ∧ loadAct (.sector tile n bs) s = s.writeSector tile n bs ∧
    recallAct (.config f) s = s ∧ recallAct (.sector tile n bs) s = s ∧
    (∀ k, s.activeBank.writeEntry table (fullMask table) i bs = some k →
      loadAct (.entry table i bs) s = s.setActive k) ∧
    ∀ k, s.stagingBank.writeEntry table (fullMask table) i bs = some k →
      recallAct (.entry table i bs) s = s.setStaging k

/-! ### The forward path and the raster -/

/-- R6, R7, R8, with the output frame start that an input frame start brings (R10, R11, R13, R14). A flag set here may
be cleared again by an EVENT_CLEAR of the same frame start (R167). A PAGE_HOLD_EXPIRY may be due: the frame start then
comes before the scene settled event of the frame it ends (R45; log 4). -/
def Obligations.InputFrameStartJudgesAndMovesTheLock : Prop :=
  ∀ (s : State) (ready : Bool), s.rasterQuiet = true →
    ∃ t, exec (.inputFrameStart ready) s = .next t ∧
      t.raster.settings = s.raster.settings ∧
      t.raster.lossTimer = some s.raster.settings.lossMs ∧
      t.raster.measure = some ⟨0, true, true⟩ ∧ t.raster.inFrame = some ⟨0, false⟩ ∧
      (∀ m, s.raster.measure = some m → m.complete = true → m.widthsOk = true →
        m.lines = s.raster.settings.hAct →
          t.raster.lock =
            (match s.raster.lock with
              | .unlocked => .acquiring1
              | .acquiring1 => .acquiring2
              | .acquiring2 | .locked | .slipping1 | .slipping2 => .locked)) ∧
      (∀ m, s.raster.measure = some m → m.complete = true →
        ¬(m.widthsOk = true ∧ m.lines = s.raster.settings.hAct) →
          t.raster.lock =
            (match s.raster.lock with
              | .unlocked | .acquiring1 | .acquiring2 | .slipping2 => .unlocked
              | .locked => .slipping1
              | .slipping1 => .slipping2) ∧
          (s.scene.hotQ = [] ∨ (s.raster.lock.follows = false ∧ t.raster.lock.follows = false) →
            t.flagged .geometryMismatch = true ∧
            (s.raster.lock = .slipping2 → t.flagged .inputLost = true))) ∧
      ((s.raster.measure = none ∨ ∃ m, s.raster.measure = some m ∧ m.complete = false) →
        t.raster.lock = s.raster.lock ∧
        (s.raster.lock.follows = false → t.status.flags = s.status.flags)) ∧
      (t.raster.lock.follows = true →
        t.raster.record =
          ⟨.input, s.raster.settings.wAct, s.raster.settings.hAct, s.raster.settings.colour⟩ ∧
        t.raster.nextLine = 0) ∧
      (t.raster.lock.follows = false → s.raster.lock.follows = true →
        t.raster.record =
          ⟨.fallback, s.raster.settings.wAct, s.raster.settings.hAct, s.raster.settings.colour⟩ ∧
        t.raster.period = s.raster.settings.periodMs ∧ t.raster.nextLine = 0) ∧
      (t.raster.lock.follows = false → s.raster.lock.follows = false →
        t.raster.record = s.raster.record ∧ t.raster.period = s.raster.period ∧
        t.raster.linePeriods = s.raster.linePeriods ∧ t.raster.nextLine = s.raster.nextLine ∧
        t.scene = s.scene ∧ t.builder = s.builder ∧ t.panel = s.panel) ∧
      t.library = s.library ∧ t.store = s.store ∧ t.straps = s.straps

/-- R2: which control lines reach the parser, what the byte stream is, and what the receiver does with one during the
start-up load; and the lines sent as blanking (R12, R17, R78): blanking lines of the input while the output follows
it, and line periods 0 to 44 of a fallback frame. Lines of no frame are discarded (R1). The model's choice: a
FALLBACK_BLANKING_LINE_PERIOD sent in lock or past the 45th of its frame changes nothing (log 3). -/
def Obligations.ControlAndBlankingLinesAreReceived : Prop :=
  ((∀ (w : Nat) (cols : List Rgb),
    lineStream w cols = (cols.take w).flatMap (fun c => [c.r, c.g, c.b]) ∧
    (lineStream w cols).length ≤ 3 * w) ∧
  (∀ (s : State) (f : InFrame) (cols : List Rgb), s.rasterQuiet = true → s.raster.inFrame = some f →
    let s1 := { s with raster := { s.raster with inFrame := some { f with controls := f.controls + 1 } } }
    (f.activeSeen = false → f.controls < 8 →
      exec (.controlLine cols) s =
        .next (parseLine (lineStream s.raster.settings.wAct cols) s1).blankIfInput) ∧
    (f.activeSeen = true ∨ 8 ≤ f.controls →
      exec (.controlLine cols) s = .next (s1.raise .packetBad).blankIfInput)) ∧
  ∀ (s : State) (f : InFrame) (cols : List Rgb), s.nothingDue = true → s.loading = true →
    s.raster.inFrame = some f →
    ∃ t, exec (.controlLine cols) s = .next t ∧
      t.raster.inFrame = some { f with controls := f.controls + 1 } ∧
      t.scene = s.scene ∧ t.library.uploads = s.library.uploads ∧ t.status.readQ = s.status.readQ ∧
      (f.activeSeen = true ∨ 8 ≤ f.controls → t.flagged .packetBad = true) ∧
      (f.activeSeen = false → f.controls < 8 → t.status = s.status)) ∧
  ∀ s : State, s.rasterQuiet = true →
    (s.raster.inFrame = none →
      (∀ cols, exec (.controlLine cols) s = .next s) ∧ exec .blankingLine s = .next s) ∧
    (∀ f, s.raster.inFrame = some f →
      (s.followsInput = true →
        exec .blankingLine s = .next { s with panel := ⟨.blanking, false⟩ }) ∧
      (s.followsInput = false → exec .blankingLine s = .next s)) ∧
    (s.followsInput = false → s.raster.linePeriods < 45 →
      exec .fallbackBlankingLinePeriod s =
        .next
          { s with
            panel := ⟨.blanking, false⟩
            raster := { s.raster with linePeriods := s.raster.linePeriods + 1 } }) ∧
    (s.followsInput = false → 45 ≤ s.raster.linePeriods →
      exec .fallbackBlankingLinePeriod s = .next s) ∧
    (s.followsInput = true → exec .fallbackBlankingLinePeriod s = .next s)

/-- An active line is measured (R3) and, while the output follows the input, is an output line start whose pixels are
blended over its own columns; columns and lines outside the canvas pass through (R11, R18, R61, R75, R78). One that
belongs to no input frame is discarded (R1), the level it brings on GRP_FLIP but stored (log 3, log 9). A fallback
line, at its own line period, is one of W pixels over the fallback colour of the frame raster record (R12, R17, R18);
one sent at another moment changes nothing but the level seen (log 3). Each output line start is the deadline of its
line (R62 to R64), feeds the watch computation (R170), frees the ring entry of the line before (R60), lets the builder
go on (R48; without delay of its own, log 6), counts in the credit window (R113), takes 1 from the pulse timer (R144)
and takes a member's sample of GRP_FLIP (R146, R147); that they come in this order is log 8. A line is composed in the
step of its line start, the delay of R16 left out (log 24). -/
def Obligations.OutputLinesAreComposedOverTheirBackground : Prop :=
  (∀ (s : State) (cols : List Rgb) (flip : Bool), s.rasterQuiet = true →
    let seen := { s with group := { s.group with othersFlip := flip } }
    (s.raster.inFrame = none → exec (.activeLine cols flip) s = .next seen) ∧
    ∀ f, s.raster.inFrame = some f →
      let measured :=
        { seen with
          raster :=
            { s.raster with
              inFrame := some { f with activeSeen := true }
              measure := s.raster.measure.map fun m =>
                { m with
                  lines := m.lines + 1
                  widthsOk := m.widthsOk && decide (cols.length = s.raster.settings.wAct) } } }
      (s.followsInput = false → exec (.activeLine cols flip) s = .next measured) ∧
      (s.followsInput = true → ∃ t, exec (.activeLine cols flip) s = .next t ∧ measured.lineStarted cols t)) ∧
  (∀ (s : State) (flip : Bool), s.rasterQuiet = true →
    let seen := { s with group := { s.group with othersFlip := flip } }
    (s.followsInput = true ∨ s.raster.linePeriods ≠ 45 + s.raster.nextLine ∨
        s.raster.record.height ≤ s.raster.nextLine →
      exec (.fallbackLineStart flip) s = .next seen) ∧
    (s.followsInput = false → s.raster.linePeriods = 45 + s.raster.nextLine →
      s.raster.nextLine < s.raster.record.height →
      let begun := { seen with raster := { s.raster with linePeriods := s.raster.linePeriods + 1 } }
      ∃ t, exec (.fallbackLineStart flip) s = .next t ∧
        begun.lineStarted (List.replicate s.raster.record.width s.raster.record.colour) t)) ∧
  ∀ (s : State) (y : Nat),
    s.freeLineBefore y =
      { s with
        builder := { s.builder with ring := s.builder.ring.filter fun e => decide (e.line + 1 ≠ y) } }

/-- R9 and the second case of R13: a loss interval expiry. In lock INPUT_LOST is set, the output line in progress is
ended at once (R79; how far it had come is free, log 18), which a pixel of the watch rectangle not yet sent makes
invalid (R170), and a fallback frame begins, whose packet carries that result. While the loss timer is stopped no
expiry occurs (the model's choice for one that is sent, log 3). -/
def Obligations.LossIntervalExpiryUnlocks : Prop :=
  ∀ (s : State) (ready : Bool), s.rasterQuiet = true →
    let seen := { s with group := { s.group with othersReady := ready } }
    (s.raster.lossTimer = none → exec (.lossIntervalExpiry ready) s = .next seen) ∧
    ∀ n, s.raster.lossTimer = some n →
      let unlocked :=
        { seen with
          raster := { s.raster with lock := .unlocked, lossTimer := none, measure := none, inFrame := none } }
      (s.raster.lock.follows = false → exec (.lossIntervalExpiry ready) s = .next unlocked) ∧
      (s.raster.lock.follows = true →
        let lost := (unlocked.raise .inputLost).cutLine
        ∃ t, exec (.lossIntervalExpiry ready) s = .next t ∧ t = lost.outputFrameStart .fallback ∧
          t.raster.lock = .unlocked ∧ t.raster.lossTimer = none ∧ t.raster.measure = none ∧
          t.raster.inFrame = none ∧ t.raster.settings = s.raster.settings ∧
          t.raster.record =
            ⟨.fallback, s.raster.settings.wAct, s.raster.settings.hAct, s.raster.settings.colour⟩ ∧
          t.raster.period = s.raster.settings.periodMs ∧ t.raster.nextLine = 0 ∧
          (s.panel.inProgress = false → t.panel = s.panel ∧ lost.watchResult = s.watchResult) ∧
          (∀ px, s.panel = ⟨.pixels px, true⟩ →
            (∃ sent, sent < px.length ∧ t.panel = ⟨.cut (px.take sent), false⟩ ∧
                lost.watchResult = (s.watchCut sent).watchResult) ∨
              (t.panel = ⟨.pixels px, false⟩ ∧ lost.watchResult = s.watchResult)) ∧
          (∃ d, (lost.beginFrame .fallback).status.draft = some d ∧ d.watch = lost.watchResult) ∧
          (s.scene.hotQ = [] → t.flagged .inputLost = true) ∧
          t.library = s.library ∧ t.store = s.store ∧ t.straps = s.straps)

/-- An output frame start, whichever of the three commands brings it (R11 to R14): FALLBACK_FRAME_START brings one
exactly after all H + 45 line periods (R12; sent earlier it changes nothing but the level seen, log 3). The record is
latched (R10, R5), a due flip is made (R131), the hot queue is applied in arrival order and emptied (R130, R132), the
page hold timer runs (R136), the group sync unit counts and decides (R141, R142) and the builder freezes its view of
what the update leaves (R46). Where the timer reaches 0 the view alone waits for PAGE_HOLD_EXPIRY; a frame start that
comes before that step makes its pop first, and the frame it ends has had no view (R45; log 4). That the group sync
unit comes behind the timer is log 7. A lock gained, and a loss interval expiry, end the line in progress first (R13,
R14; how far it had come is free, log 18). -/
def Obligations.FallbackFrameStartFlipsAndSettles : Prop :=
  (∀ (s : State) (ready : Bool), s.rasterQuiet = true →
    let seen := { s with group := { s.group with othersReady := ready } }
    let judged := seen.judgeFrame
    (s.followsInput = false → s.raster.linePeriods = s.raster.record.height + 45 →
      exec (.fallbackFrameStart ready) s = .next (seen.outputFrameStart .fallback)) ∧
    (s.followsInput = true ∨ s.raster.linePeriods ≠ s.raster.record.height + 45 →
      exec (.fallbackFrameStart ready) s = .next seen) ∧
    (s.followsInput = true → judged.followsInput = true →
      exec (.inputFrameStart ready) s = .next (judged.outputFrameStart .input)) ∧
    (s.followsInput = false → judged.followsInput = true →
      exec (.inputFrameStart ready) s = .next (judged.cutLine.outputFrameStart .input)) ∧
    (s.followsInput = true → judged.followsInput = false →
      exec (.inputFrameStart ready) s = .next (judged.outputFrameStart .fallback)) ∧
    (s.followsInput = true → s.raster.lossTimer ≠ none →
      let unlocked :=
        { seen with
          raster := { s.raster with lock := .unlocked, lossTimer := none, measure := none, inFrame := none } }
      let lost := (unlocked.raise .inputLost).cutLine
      exec (.lossIntervalExpiry ready) s = .next (lost.outputFrameStart .fallback) ∧
        lost.scene = s.scene ∧ lost.tables = s.tables ∧ lost.builder = s.builder ∧ lost.group = seen.group ∧
        lost.raster = unlocked.raster ∧ lost.library = s.library ∧ lost.store = s.store ∧
        lost.status.flags = s.status.flags ||| Flag.inputLost.mask)) ∧
  (∀ s : State,
    (s.flipDue = false → s.flipIfDue = s) ∧
    ∀ r, s.flipDue = true → s.scene.armed = some r →
      s.flipIfDue =
        { s with
          tables := { s.tables with active := s.tables.active.other }
          scene :=
            { s.scene with
              tag := r.tag
              generation := (s.scene.generation + 1) % 65536
              phase := .settled
              armed := none
              page := r.entryPage.getD s.scene.page
              stack := if r.entryPage.isSome = true then [] else s.scene.stack
              hold := if r.entryPage.isSome = true then none else s.scene.hold } }) ∧
  ∀ (s : State) (src : Source),
    let f := s.popIfDue.flipIfDue
    let hot := s.scene.hotQ.foldl (fun p c => applyHot c p)
      ({ f with scene := { f.scene with hotQ := [] } }, false)
    let hold := if hot.2 = true then hot.1.scene.hold else hot.1.scene.hold.map (· - 1)
    let t := s.outputFrameStart src
    (t.raster.record =
        ⟨src, s.raster.settings.wAct, s.raster.settings.hAct, s.raster.settings.colour⟩ ∧
      t.raster.period = (if src = .fallback then s.raster.settings.periodMs else s.raster.period) ∧
      t.raster.linePeriods = 0 ∧ t.raster.nextLine = 0 ∧ t.raster.lock = s.raster.lock ∧
      t.raster.measure = s.raster.measure ∧ t.raster.settings = s.raster.settings) ∧
    (t.tables = hot.1.tables ∧ t.scene.hotQ = [] ∧ t.scene.tableQ = s.scene.tableQ ∧
      t.scene.page = hot.1.scene.page ∧ t.scene.stack = hot.1.scene.stack ∧
      t.scene.threshold = hot.1.scene.threshold ∧ t.scene.tag = hot.1.scene.tag ∧
      t.scene.generation = hot.1.scene.generation ∧ t.scene.armed = hot.1.scene.armed ∧
      t.scene.hold = hold) ∧
    (t.status.watch = hot.1.status.watch ∧ t.status.refusal = hot.1.status.refusal ∧
      ∀ g, hot.1.flagged g = true → t.flagged g = true) ∧
    (t.library = s.library ∧ t.store = s.store ∧ t.straps = s.straps) ∧
    (t.group = hot.1.groupFrameStart.group ∧ t.scene.phase = hot.1.groupFrameStart.scene.phase) ∧
    (hold ≠ some 0 →
      t.builder.view =
        some ⟨hot.1.tables.active, hot.1.scene.page, hot.1.scene.threshold, s.raster.settings.wAct,
          s.raster.settings.hAct, s.loading⟩) ∧
    (hold = some 0 → t.holdDue = true ∧ t.builder = .atReset ∧ t.cache = s.cache)

/-! ### Line composition -/

/-- R49 and R50: the ten tests that select a region for a line, and the one failure that sets PHOTO_MISSING. -/
def Obligations.RegionIsSelectedByTheTenTests : Prop :=
  ∀ (k : Bank) (v : View) (y : Nat) (r : Region),
    let tests1to9 :=
      r.kind ≠ .off ∧ v.threshold < r.level ∧ r.pages.getLsbD v.page = true ∧
      (r.y ≤ y ∧ y ≤ r.y + r.height - 1) ∧ r.x < v.width ∧
      (∀ it, itemOf k r = some it → it.state ≠ .withdrawn) ∧
      ¬((r.kind = .photo ∨ r.kind = .price) ∧ r.treatment = .hide ∧
        ∃ it, itemOf k r = some it ∧ it.state = .soldOut) ∧
      (r.kind = .badge → ∃ it, itemOf k r = some it ∧ it.state = .soldOut) ∧
      (r.kind = .price → ∃ it n, itemOf k r = some it ∧ figureOf it r.figure = some n)
    let test10 := (r.kind = .photo ∨ r.kind = .badge) → (k.photo r.photo).valid = true
    (choose k v y r = .selected ↔ tests1to9 ∧ test10) ∧
    (choose k v y r = .photoMissing ↔ tests1to9 ∧ ¬test10) ∧
    (v.duringLoad = false → r ∈ k.regions → choose k v y r = .photoMissing →
      Flag.photoMissing ∈ (lineList k v y).2)

/-- R51: precedence is level descending and index ascending, the list holds the first 32, and LINE_FULL is set exactly
where regions are left out; a view of the load selects none (R67). R48: the builder takes up the next line, with that
list, exactly where it holds a view, the line is a canvas line and a ring entry is free; that it does so also behind a
line that no ring entry holds, four lines before the next line start, where R60 says three, is the model's choice (log
37). -/
def Obligations.LineListHoldsTheFirst32InPrecedence : Prop :=
  (∀ (k : Bank) (v : View) (y : Nat),
    let selected := (indexed 0 k.regions).filter fun p => choose k v y p.2 == .selected
    (v.duringLoad = false → (selectedRegions k v y).Perm selected) ∧
    (v.duringLoad = true → selectedRegions k v y = []) ∧
    (selectedRegions k v y).Pairwise (fun p q =>
      q.2.level < p.2.level ∨ (p.2.level = q.2.level ∧ p.1 < q.1)) ∧
    (lineList k v y).1.map (·.region) = ((selectedRegions k v y).take 32).map (·.1) ∧
    (lineList k v y).1.length ≤ 32 ∧
    (Flag.lineFull ∈ (lineList k v y).2 ↔ 32 < (selectedRegions k v y).length)) ∧
  ∀ s : State,
    (s.builder.view = none → s.takeUp = none) ∧
    ∀ v, s.builder.view = some v →
      let y := s.builder.nextLine
      let made := lineList (s.tables.bank v.bank) v y
      (v.height ≤ y ∨ 4 ≤ s.builder.ring.length → s.takeUp = none) ∧
      (y < v.height → s.builder.ring.length < 4 →
        ∃ t, s.takeUp = some t ∧ t.builder.work = some ⟨y, made.1⟩ ∧ t.builder.nextLine = y + 1 ∧
          t.builder.ring = s.builder.ring ++ [⟨y, []⟩] ∧ t.builder.reader = .idle ∧
          t.builder.view = some v ∧ t.builder.late = s.builder.late ∧
          (∀ g, t.flagged g = (s.flagged g || made.2.contains g)) ∧
          t.cache = s.cache ∧ t.scene = s.scene ∧ t.tables = s.tables)

/-- R58: the four cases of placing a sample, and where a standby sample goes (R63). R53, R56: a region's columns are
produced one by one, each with the sector it needs at hand, and the builder waits at the first column whose sector is
not; a FILL needs none, so that all its columns are placed at once. R54, R94, R96 and R70: the source pixel of each
column of a PHOTO, a BADGE and a PRICE, and the four bytes, R, G, B and alpha, that the cache holds for it. The
model's choice: a column whose sector is not that of the column before reads it, and uses it, also where the region
had held it earlier (log 35); the columns follow each other without delay (log 6). -/
def Obligations.SamplesArePlacedInTheFourCases : Prop :=
  (∀ (s : State) (line x : Nat) (m : Sample),
    let p := pixelAt (ringPixels s.builder.ring line) x
    let t := s.place line x m
    (m.coverage = 0 → t = s) ∧
    (m.coverage ≠ 0 → p.closed = true → t = s) ∧
    (m.coverage ≠ 0 → p.closed = false → 4 ≤ p.slots.length → t = s.raise .overlapClipped) ∧
    (m.coverage ≠ 0 → p.closed = false → p.slots.length < 4 → (∃ e ∈ s.builder.ring, e.line = line) →
      pixelAt (ringPixels t.builder.ring line) x = ⟨p.slots ++ [m], m.coverage == 255⟩ ∧
      t.status = s.status ∧
      ∀ line' x', line' ≠ line ∨ x' ≠ x →
        pixelAt (ringPixels t.builder.ring line') x' = pixelAt (ringPixels s.builder.ring line') x')) ∧
  (∀ (colour : Rgb) (p : Pixel),
    standbyPixel colour p =
      (match placing ⟨colour, 255⟩ p with
        | .placed q => q
        | .none | .clipped => p)) ∧
  (∀ (s : State) (q : PixelSource),
    s.fetch none = (s, true) ∧
    (s.builder.reader.held = some (q.tile, q.sector) → s.fetch (some q) = (s, true)) ∧
    (s.builder.reader.held ≠ some (q.tile, q.sector) → s.fetch (some q) = s.readFor q)) ∧
  (∀ (e : LineEntry) (line n x : Nat) (s : State),
    let got := s.fetch (e.source line x)
    (got.2 = false → produce e line (n + 1) x s = (got.1, some x)) ∧
    (got.2 = true →
      produce e line (n + 1) x s =
        produce e line n (x + 1)
          (placeAll line x (e.samples (got.1.pixelBytes (e.source line x))) got.1))) ∧
  (∀ (e : LineEntry) (line x : Nat),
    (e.kind = .off ∨ e.kind = .fill → e.source line x = none) ∧
    (e.kind = .photo ∨ e.kind = .badge →
      ∀ p, e.photo = some p → e.source line x = some (photoPixel p (x - e.x) e.photoRow)) ∧
    (e.kind = .price →
      (e.text = none → e.source line x = none) ∧
      ∀ t, e.text = some t →
        (t.glyphPixel x line = none → e.source line x = none) ∧
        ∀ px py, t.glyphPixel x line = some (px, py) →
          e.source line x = some (photoPixel t.photo px py))) ∧
  (∀ (s : State) (q : PixelSource) (bytes : List Byte),
    s.cache.valid? q.tile q.sector = some bytes → q.byte + 4 ≤ bytes.length →
    s.pixelBytes (some q) =
      [bytes.getD q.byte 0, bytes.getD (q.byte + 1) 0, bytes.getD (q.byte + 2) 0, bytes.getD (q.byte + 3) 0]) ∧
  ∀ (e : LineEntry) (line n x : Nat) (s : State), e.kind = .fill →
    (∃ r ∈ s.builder.ring, r.line = line) →
    let made := produce e line n x s
    made.2 = none ∧ made.1.cache = s.cache ∧
    ∀ c, pixelAt (ringPixels made.1.builder.ring line) c =
      if x ≤ c ∧ c < x + n then
        (match placing ⟨e.style.ink, e.style.inkOpacity⟩ (pixelAt (ringPixels s.builder.ring line) c) with
          | .placed q => q
          | .none | .clipped => pixelAt (ringPixels s.builder.ring line) c)
      else pixelAt (ringPixels s.builder.ring line) c

/-- R62, R63 and R64: the three positions of the builder at a line deadline, also before scene settled, where no view
is frozen and the canvas height is the record's; lines at or beyond the canvas height are never late (R66). Where
scene settled waits for PAGE_HOLD_EXPIRY (log 4), a line start that comes first finds its line late and sends bare
background (R64, R65). -/
def Obligations.LineDeadlineFindsTheLineInThreePositions : Prop :=
  (∀ (s : State) (y : Nat),
    let height := match s.builder.view with
      | some v => v.height
      | none => s.raster.record.height
    (height ≤ y → s.deadline y = s) ∧
    (y < height →
      (s.builder.work = none → y < s.builder.nextLine → s.deadline y = s) ∧
      (∀ w, s.builder.work = some w → w.line ≠ y → y < s.builder.nextLine → s.deadline y = s) ∧
      (∀ w, s.builder.work = some w → w.line = y →
        (s.deadline y).flagged .lateLine = true ∧ (s.deadline y).builder.late = s.builder.late + 1 ∧
        (s.deadline y).builder.work = none ∧ (s.deadline y).builder.reader = .idle ∧
        (s.deadline y).cache = s.cache ∧
        (inProgressSpan w.entries = none → (s.deadline y).builder.ring = s.builder.ring) ∧
        ∀ colour next last, inProgressSpan w.entries = some (colour, next, last) →
          (∃ e ∈ s.builder.ring, e.line = y) →
            ∀ x, pixelAt (ringPixels (s.deadline y).builder.ring y) x =
              if next ≤ x ∧ x ≤ last then standbyPixel colour (pixelAt (ringPixels s.builder.ring y) x)
              else pixelAt (ringPixels s.builder.ring y) x) ∧
      (s.builder.work = none → s.builder.nextLine ≤ y →
        (s.deadline y).flagged .lateLine = true ∧ (s.deadline y).builder.late = s.builder.late + 1 ∧
        (s.deadline y).builder.ring = s.builder.ring ∧ (s.deadline y).builder.nextLine = y + 1))) ∧
  ∀ (s : State) (flip : Bool), s.scene.hold = some 0 → s.rasterQuiet = true → s.followsInput = false →
    s.raster.linePeriods = 45 + s.raster.nextLine → s.raster.nextLine < s.raster.record.height →
    s.builder.view = none → s.builder.work = none → s.builder.nextLine ≤ s.raster.nextLine →
    s.builder.ring = [] →
    ∃ t, exec (.fallbackLineStart flip) s = .next t ∧ t.flagged .lateLine = true ∧
      t.builder.late = s.builder.late + 1 ∧ t.builder.nextLine = s.raster.nextLine + 1 ∧
      t.builder.view = none ∧ t.holdDue = true ∧
      t.panel = ⟨.pixels (List.replicate s.raster.record.width s.raster.record.colour), true⟩

/-! ### Pixel arithmetic -/

/-- R68, R75, R76 and R77: the one rounding, the blend of a pixel's slots and its bounds, the law of a pixel with no
sample, and the closed pixel that does not depend on its background. -/
def Obligations.RoundingAndBlendingAreExact : Prop :=
  (∀ x, x ≤ 65025 →
    round255 x = (x + 127) / 255 ∧ round255 x ≤ 255 ∧
    255 * round255 x ≤ x + 127 ∧ x ≤ 255 * round255 x + 127 ∧
    (x ≤ 127 → round255 x = 0) ∧ (64898 ≤ x → round255 x = 255) ∧
    ∀ k d, k ≤ 255 → d ≤ 127 →
      round255 (255 * k + d) = k ∧ (d ≤ 255 * k → round255 (255 * k - d) = k)) ∧
  (∀ c a u : Byte,
    (blendChannel c a u).toNat = round255 (c.toNat * a.toNat + u.toNat * (255 - a.toNat)) ∧
    (c.toNat ≤ u.toNat → c.toNat ≤ (blendChannel c a u).toNat ∧ (blendChannel c a u).toNat ≤ u.toNat) ∧
    (u.toNat ≤ c.toNat → u.toNat ≤ (blendChannel c a u).toNat ∧ (blendChannel c a u).toNat ≤ c.toNat) ∧
    blendChannel c 255 u = c ∧ blendChannel c 0 u = u ∧ blendChannel u a u = u) ∧
  (∀ (m : Sample) (ms : List Sample) (u : Rgb),
    blendSlots [] u = u ∧ blendSlots (m :: ms) u = blendSample m (blendSlots ms u)) ∧
  (∀ (s : State) (y x : Nat) (background : List Rgb) (u : Rgb), background[x]? = some u →
    (pixelAt (ringPixels s.builder.ring y) x).slots = [] → (s.mixed y background)[x]? = some u) ∧
  ∀ p : Pixel, p.lawful → p.closed = true → ∀ u u' : Rgb, blendSlots p.slots u = blendSlots p.slots u'

/-- R69, R71 to R73: the samples that each kind of region gives, and what dimming does to a channel. R52 to R54 and
R28: the record that a region takes with it into the line list, marked dimmed for a sold-out item of treatment DIM,
and the columns that a FILL, a PHOTO and a BADGE cover on a line. -/
def Obligations.SamplesOfEachKindAreFormed : Prop :=
  (∀ (e : LineEntry) (r g b alpha : Byte),
    let px := [r, g, b, alpha]
    let dimmed := fun c : Rgb =>
      if e.dimmed = true then
        (⟨scaleByte c.r e.style.dim, scaleByte c.g e.style.dim, scaleByte c.b e.style.dim⟩ : Rgb)
      else c
    (e.kind = .fill → e.samples px = [⟨e.style.ink, e.style.inkOpacity⟩]) ∧
    (e.kind = .photo → e.samples px = [⟨dimmed ⟨r, g, b⟩, alpha⟩]) ∧
    (e.kind = .badge → e.samples px = [⟨⟨r, g, b⟩, alpha⟩]) ∧
    (e.kind = .price → e.style.boxOpacity = 0 →
      e.samples px = [⟨dimmed e.style.ink, scaleByte alpha e.style.inkOpacity⟩]) ∧
    (e.kind = .price → e.style.boxOpacity ≠ 0 →
      e.samples px =
        [⟨dimmed e.style.ink, scaleByte alpha e.style.inkOpacity⟩,
          ⟨dimmed e.style.box, e.style.boxOpacity⟩])) ∧
  (∀ c d : Byte,
    (scaleByte c d).toNat = round255 (c.toNat * d.toNat) ∧ scaleByte c 255 = c ∧ scaleByte c 0 = 0 ∧
      (scaleByte c d).toNat ≤ c.toNat ∧ (scaleByte c d = 255 ↔ c = 255 ∧ d = 255)) ∧
  ∀ (k : Bank) (v : View) (y i : Nat) (r : Region),
    let e := (entryOf k v y (i, r)).1
    let p := k.photo r.photo
    let covers := fun x : Nat => ∃ a b, e.span = some (a, b) ∧ a ≤ x ∧ x ≤ b
    (e.region = i ∧ e.kind = r.kind ∧ e.style = k.style r.style ∧ e.x = r.x ∧ e.photoRow = y - r.y ∧
      e.progress = .notStarted) ∧
    (e.dimmed = true ↔
      (r.kind = .photo ∨ r.kind = .price) ∧ r.treatment = .dim ∧
        ∃ it, itemOf k r = some it ∧ it.state = .soldOut) ∧
    (1 ≤ r.width → 1 ≤ v.width →
      (r.kind = .fill → ∀ x, covers x ↔ r.x ≤ x ∧ x < r.x + r.width ∧ x < v.width) ∧
      (r.kind = .photo ∨ r.kind = .badge →
        e.photo = some ⟨p.area * 1024 + p.offset, p.width, p.height⟩ ∧
        (1 ≤ p.width → ∀ x, covers x ↔
          (r.x ≤ x ∧ x < r.x + r.width ∧ x < v.width) ∧ x < r.x + 16 * p.width ∧
            y - r.y < 16 * p.height)))

/-! ### Price and energy text -/

/-- R84 to R88: the strings formed from a price value and from an energy figure. -/
def Obligations.PriceAndEnergyStringsAreFormed : Prop :=
  (∀ n,
    decimal n = (if n = 0 then [0] else (Nat.digits 10 n).reverse) ∧
    (n ≤ 999999 → 1 ≤ (decimal n).length ∧ (decimal n).length ≤ 6) ∧
    wholePart false n = decimal n ∧ (n < 1000 → wholePart true n = decimal n) ∧
    (1000 ≤ n → n ≤ 999999 →
      wholePart true n = decimal (n / 1000) ++ [12, n / 100 % 10, n / 10 % 10, n % 10])) ∧
  (∀ (trim : Bool) (minor : Nat),
    minorPart 0 trim minor = [] ∧
    (∀ m, trim = true → minor = 0 → minorPart m trim minor = []) ∧
    (trim = false ∨ minor ≠ 0 →
      minorPart 2 trim minor = [11, minor / 10 % 10, minor % 10] ∧
      minorPart 3 trim minor = [11, minor / 100 % 10, minor / 10 % 10, minor % 10])) ∧
  (∀ (st : Style) (v : Nat),
    let body := wholePart st.grouping (v / 10 ^ st.minorDigits) ++
      minorPart st.minorDigits st.trim (v % 10 ^ st.minorDigits)
    (st.symbol = .none → priceString st v = body) ∧
    (st.symbol = .before → priceString st v = 10 :: body) ∧
    (st.symbol = .after → priceString st v = body ++ [10]) ∧
    (v ≤ 999999 → st.lawful →
      1 ≤ (priceString st v).length ∧ (priceString st v).length ≤ 9)) ∧
  ∀ (st : Style) (e : Nat),
    energyString st e = wholePart st.grouping e ++ [13] ∧
    (e ≤ 9999 → 2 ≤ (energyString st e).length ∧ (energyString st e).length ≤ 6)

/-- R82, R94: when a glyph photo is usable, what a text record holds, and the glyph pixel of a column. R89 to R93: the
width of a string, the fitting steps in their order and the flag of the last, the text origin by alignment and height,
and the extent drawn on a line. -/
def Obligations.TextIsFittedAndPlaced : Prop :=
  ((∀ (p : Photo) (st : Style),
    glyphUsable p st = true ↔
      p.valid = true ∧ 15 * st.cellW ≤ 16 * p.width ∧ st.cellH ≤ 16 * p.height) ∧
  (∀ (k : Bank) (st : Style) (r : Region) (n : Nat),
    let p := k.photo st.glyphPhoto
    let fitted := fitString st.cellW r.width (figureString st r.figure n)
    let w := textWidth st.cellW fitted.1
    (glyphUsable p st = false → layoutText k st r n = .unusable) ∧
    (glyphUsable p st = true →
      layoutText k st r n =
        .text
          ⟨fitted.1, fitted.1.map (fun c => if c = 11 ∨ c = 12 then st.cellW / 2 else st.cellW), w,
            textX0 r w, textY0 r st.cellH, st.cellW, st.cellH,
            ⟨p.area * 1024 + p.offset, p.width, p.height⟩⟩
          fitted.2)) ∧
  ∀ (t : TextRec) (x y i cell a : Nat), t.glyphs[i]? = some cell → t.advances[i]? = some a →
    let left := t.x0 + (t.advances.take i).sum
    left ≤ x → x < left + a → t.glyphPixel x y = some (cell * t.cellW + (x - left), y - t.y0)) ∧
  ((∀ (cw : Nat) (cells : List Nat),
    textWidth cw cells =
      cells.countP (fun c => decide (c ≠ 11 ∧ c ≠ 12)) * cw +
        cells.countP (fun c => decide (c = 11 ∨ c = 12)) * (cw / 2)) ∧
  (∀ (cw width : Nat) (cells : List Nat),
    let noSep := cells.filter (· ≠ 12)
    let bare := noSep.filter (fun c => c ≠ 10 ∧ c ≠ 13)
    (textWidth cw cells ≤ width → fitString cw width cells = (cells, false)) ∧
    (width < textWidth cw cells → textWidth cw noSep ≤ width →
      fitString cw width cells = (noSep, false)) ∧
    (width < textWidth cw cells → width < textWidth cw noSep → textWidth cw bare ≤ width →
      fitString cw width cells = (bare, false)) ∧
    (width < textWidth cw cells → width < textWidth cw noSep → width < textWidth cw bare →
      fitString cw width cells = ([14], true) ∧ textWidth cw [14] = cw)) ∧
  ∀ (k : Bank) (v : View) (y i : Nat) (r : Region), r.kind = .price →
    (∀ it n, itemOf k r = some it → figureOf it r.figure = some n →
      regionLayout k r = layoutText k (k.style r.style) r n) ∧
    (∀ t o, regionLayout k r = .text t o →
      (entryOf k v y (i, r)).1.text = some t ∧ (entryOf k v y (i, r)).1.span = textSpan v y r t) ∧
    (∀ t, regionLayout k r = .text t true → (entryOf k v y (i, r)).2 = [.priceOverflow]) ∧
    (∀ t, regionLayout k r = .text t false → (entryOf k v y (i, r)).2 = []) ∧
    (regionLayout k r = .unusable →
      (entryOf k v y (i, r)).2 = [.glyphFault] ∧ (entryOf k v y (i, r)).1.span = none)) ∧
  (∀ (r : Region) (w : Nat),
    (r.width < w → textX0 r w = r.x) ∧
    (w ≤ r.width →
      (r.align = .left → textX0 r w = r.x) ∧ (r.align = .right → textX0 r w = r.x + (r.width - w)) ∧
      (r.align = .center → textX0 r w = r.x + (r.width - w) / 2))) ∧
  (∀ (r : Region) (ch : Nat),
    (ch ≤ r.height → textY0 r ch = r.y + (r.height - ch) / 2) ∧ (r.height < ch → textY0 r ch = r.y)) ∧
  ∀ (v : View) (y : Nat) (r : Region) (t : TextRec) (x : Nat),
    1 ≤ t.cellH → 1 ≤ t.width → 1 ≤ r.width → 1 ≤ r.height → 1 ≤ v.width → 1 ≤ v.height →
    ((∃ a b, textSpan v y r t = some (a, b) ∧ a ≤ x ∧ x ≤ b) ↔
      (t.x0 ≤ x ∧ x < t.x0 + t.width ∧ x < r.x + r.width ∧ x < v.width) ∧
      (t.y0 ≤ y ∧ y < t.y0 + t.cellH ∧ y < r.y + r.height ∧ y < v.height))

/-! ### Library memory and tile cache -/

/-- R96, R99, R100, R101 and R104: where a photo pixel lies, and what a read of a sector by the builder does to each
way of the tile's set, to the fill queue and to nothing else; a demand miss on an absent tile takes the victim way.
R102, R107: what the builder then holds or waits for, and that a prefetch is considered at the first read of a sector
on the line, or just after the demand entry of a first read that had to wait. That the use of a hit comes before the
prefetch of the same read is the model's choice (log 23). -/
def Obligations.SectorReadHasItsOutcomes : Prop :=
  (∀ (p : PhotoRef) (px py : Nat),
    let q := photoPixel p px py
    q.photo = p ∧ q.tile = p.base + py / 16 * p.width + px / 16 ∧ q.sector < 4 ∧ q.byte + 4 ≤ 256 ∧
    sectorAddr q.tile q.sector + q.byte = q.tile * 1024 + py % 16 * 64 + px % 16 * 4) ∧
  (∀ (c : Cache) (t n : Nat), c.lawful → n < 4 →
    (c.valid? t n ≠ none →
      (c.read t n).2 = .hit ∧ (c.read t n).1.fills = c.fills ∧
      (c.read t n).1.valid? t n = c.valid? t n ∧
      (c.read t n).1.ways t =
        (c.ways t).map (fun l =>
          if l.tag = some t then { l with confidence := min 3 (l.confidence + 1) } else l) ∧
      ∀ l, c.line? t = some l →
        ∃ l', (c.read t n).1.line? t = some l' ∧ l'.confidence = min 3 (l.confidence + 1)) ∧
    (c.valid? t n = none → c.inFlight t n = true →
      (c.read t n).2 = .joined ∧ (c.read t n).1.sets = c.sets ∧
      (c.read t n).1.fills =
        c.fills.map (fun f => if f.tile = t ∧ f.sector = n then { f with demand := true } else f)) ∧
    (c.valid? t n = none → c.inFlight t n = false → c.line? t ≠ none → c.fills.length < 8 →
      (c.read t n).2 = .demanded ∧ (c.read t n).1.inFlight t n = true ∧
      (c.read t n).1.ways t =
        (c.ways t).map (fun l =>
          if l.tag = some t then { l with sectors := l.sectors.set n ⟨none, true⟩ } else l) ∧
      (c.read t n).1.fills = c.fills ++ [⟨t, n, true, false, false⟩]) ∧
    (c.line? t = none → c.fills.length < 8 → victim (c.ways t) ≠ none →
      (c.read t n).2 = .demanded ∧ (c.read t n).1.inFlight t n = true ∧
      (c.read t n).1.fills = c.fills ++ [⟨t, n, true, false, false⟩] ∧
      (∀ ws i, victim (c.ways t) = some (ws, i) →
        (c.read t n).1.ways t =
          ws.set i ⟨some t, (List.replicate 4 ⟨none, false⟩).set n ⟨none, true⟩, 1⟩) ∧
      ∃ l, (c.read t n).1.line? t = some l ∧ l.confidence = 1 ∧ ∀ d ∈ l.sectors, d.data = none) ∧
    (c.inFlight t n = false → c.valid? t n = none → 8 ≤ c.fills.length → c.read t n = (c, .noRoom)) ∧
    (c.line? t = none → c.fills.length < 8 → victim (c.ways t) = none → c.read t n = (c, .noWay)) ∧
    (∀ t', Sys2Proof.Machine.setOf t' ≠ Sys2Proof.Machine.setOf t → (c.read t n).1.ways t' = c.ways t') ∧
    (c.read t n).1.reads = c.reads) ∧
  ∀ (s : State) (q : PixelSource),
    let first := !s.builder.reader.seen.contains (q.tile, q.sector)
    let owes := first || s.builder.reader.owed
    let out := s.cache.read q.tile q.sector
    let t := (s.readFor q).1
    ((s.readFor q).2 = true ↔ out.2 = .hit) ∧
    t.builder.reader.seen =
      (if first = true then (q.tile, q.sector) :: s.builder.reader.seen else s.builder.reader.seen) ∧
    (out.2 = .hit →
      t.builder.reader.held = some (q.tile, q.sector) ∧ t.builder.reader.wait = .nothing) ∧
    (out.2 = .joined ∨ out.2 = .demanded → t.builder.reader.wait = .fill q.tile q.sector) ∧
    (out.2 = .noRoom → t.builder.reader.wait = .room) ∧ (out.2 = .noWay → t.builder.reader.wait = .way) ∧
    (out.2 = .noRoom ∨ out.2 = .noWay → t.cache = out.1 ∧ t.builder.reader.owed = owes) ∧
    (out.2 = .hit ∨ out.2 = .joined ∨ out.2 = .demanded →
      t.builder.reader.owed = false ∧
      t.cache = if owes = true then out.1.considerPrefetch q.photo q.tile q.sector else out.1) ∧
    t.builder.ring = s.builder.ring ∧ t.builder.work = s.builder.work ∧ t.status = s.status

/-- R101: the victim way of a demand miss, and the counters that its choice leaves. -/
def Obligations.VictimIsTheLowestWayOfLeastConfidence : Prop :=
  ∀ ws : List CacheLine,
    (∀ i l, ws[i]? = some l → l.busy = false → l.confidence = 0 →
      (∀ j l', j < i → ws[j]? = some l' → l'.busy = true ∨ l'.confidence ≠ 0) →
        victim ws = some (ws, i)) ∧
    (∀ i l, ws[i]? = some l → l.busy = false → l.confidence ≠ 0 →
      (∀ l' ∈ ws, l'.busy = false → l.confidence ≤ l'.confidence) →
      (∀ j l', j < i → ws[j]? = some l' → l'.busy = true ∨ l'.confidence ≠ l.confidence) →
        victim ws =
          some (ws.map (fun l' =>
            if l'.busy then l' else { l' with confidence := l'.confidence - l.confidence }), i)) ∧
    ((∀ l ∈ ws, l.busy = true) → victim ws = none)

/-- R107 and R108: the target of a prefetch, the three conditions on which a considered prefetch is made, and what it
does. -/
def Obligations.PrefetchIsMadeOnThreeConditions : Prop :=
  (∀ (p : PhotoRef) (row col n : Nat), col < p.width → n < 4 →
    let tile := p.base + row * p.width + col
    (p.height ≤ row + 1 → prefetchTarget p tile n = none) ∧
    (row + 1 < p.height → n < 3 → prefetchTarget p tile n = some (tile, n + 1)) ∧
    (row + 1 < p.height → n = 3 → prefetchTarget p tile n = some (tile + p.width, 0))) ∧
  ∀ (c : Cache) (t n : Nat), c.lawful → n < 4 →
    let freeWay := ∃ l ∈ c.ways t, l.busy = false ∧ l.confidence = 0
    (c.valid? t n ≠ none ∨ c.inFlight t n = true ∨ 4 < c.fills.length ∨
        (c.line? t = none ∧ ¬freeWay) → c.prefetch t n = c) ∧
    (c.valid? t n = none → c.inFlight t n = false → c.fills.length ≤ 4 →
      (c.line? t ≠ none ∨ freeWay) →
        (c.prefetch t n).fills = c.fills ++ [⟨t, n, false, false, false⟩] ∧
        (c.prefetch t n).inFlight t n = true ∧
        (c.line? t = none →
          ∃ i, freeZeroWay (c.ways t) = some i ∧
            ∃ l, ((c.prefetch t n).ways t)[i]? = some l ∧ l.tag = some t ∧ l.confidence = 1 ∧
              ∀ j, j ≠ i → ((c.prefetch t n).ways t)[j]? = (c.ways t)[j]?))

/-- R109 and R105: the oldest waiting DEMAND is granted, else the oldest waiting PREFETCH, and its read takes the
bytes that library memory holds at the grant; a completion, in the order of the grants, removes its entry and installs
its bytes unless it is void. R102: what a completion does to a waiting builder. R59, R48: the builder then goes on,
one region of the list wholly before the next, until it waits at a column or can take up no line. That it comes so far
within the same step, without delay of its own, is the model's choice (log 6). -/
def Obligations.FillsAreGrantedByRankAndInstalled : Prop :=
  (∀ s : State, s.quiet = true →
    ∀ before f after, s.cache.fills = before ++ f :: after → f.granted = false →
      (if f.demand = true then ∀ g ∈ before, g.granted = true ∨ g.demand = false
        else (∀ g ∈ before, g.granted = true) ∧ ∀ g ∈ after, g.granted = true ∨ g.demand = false) →
      exec .fillGrant s =
        .next
          { s with
            cache :=
              { s.cache with
                fills := s.cache.fills.map fun g =>
                  if g.tile = f.tile ∧ g.sector = f.sector then { g with granted := true } else g
                reads := s.cache.reads ++
                  [⟨f.tile, f.sector,
                    memReadBytes 0 s.library.mem (f.tile * 1024 + f.sector * 256) 256⟩] } }) ∧
  (∀ (s : State) (r : GrantedRead) (rest : List GrantedRead), s.quiet = true →
    s.cache.reads = r :: rest →
    exec .fillCompletion s =
      .next (({ s with cache := s.cache.complete r rest }.wake r.tile r.sector).build) ∧
    ∃ t, exec .fillCompletion s = .next t ∧ t.cache.reads = rest ∧
      t.library = s.library ∧ t.tables = s.tables ∧ t.scene = s.scene ∧ t.store = s.store ∧
      t.group = s.group ∧ t.raster = s.raster ∧ t.panel = s.panel ∧
      (s.cache.lawful → s.builder.view = none → s.builder.work = none →
        t.cache.inFlight r.tile r.sector = false ∧
        t.cache.fills = s.cache.fills.filter
          (fun f => !decide (f.tile = r.tile ∧ f.sector = r.sector)) ∧
        (s.cache.isVoid r.tile r.sector = false →
          t.cache.valid? r.tile r.sector = some r.bytes) ∧
        (s.cache.isVoid r.tile r.sector = true →
          t.cache.valid? r.tile r.sector = s.cache.valid? r.tile r.sector) ∧
        ∀ l, s.cache.line? r.tile = some l →
          ∃ l', t.cache.line? r.tile = some l' ∧
            (l'.confidence = l.confidence ∨ s.builder.reader.wait ≠ .nothing))) ∧
  (∀ (s : State) (tile sector : Nat),
    let reading : Reader → State := fun r => { s with builder := { s.builder with reader := r } }
    let again := reading { s.builder.reader with wait := .nothing }
    (s.builder.reader.wait = .nothing → s.wake tile sector = s) ∧
    (s.builder.reader.wait = .room ∨ s.builder.reader.wait = .way → s.wake tile sector = again) ∧
    ∀ t n, s.builder.reader.wait = .fill t n →
      (t ≠ tile ∨ n ≠ sector → s.wake tile sector = s) ∧
      (t = tile → n = sector → s.cache.valid? tile sector = none → s.wake tile sector = again) ∧
      (t = tile → n = sector → s.cache.valid? tile sector ≠ none →
        s.wake tile sector =
          { reading { s.builder.reader with held := some (tile, sector), wait := .nothing } with
            cache := s.cache.use tile })) ∧
  (∀ (line : Nat) (e : LineEntry) (es : List LineEntry) (s : State),
    let r := workEntry line e s
    let more := workList line es r.2.1
    workList line [] s = ([], s, true) ∧
    (r.2.2 = false → workList line (e :: es) s = (r.1 :: es, r.2.1, false) ∧
      r.2.1.builder.reader.wait ≠ .nothing) ∧
    (r.2.2 = true → r.1.progress = .done ∧
      workList line (e :: es) s = (r.1 :: more.1, more.2.1, more.2.2))) ∧
  ∀ s : State,
    (∃ w, s.build.builder.work = some w ∧ s.build.builder.reader.wait ≠ .nothing) ∨
      (s.build.builder.work = none ∧ s.build.takeUp = none)

/-- R111, R113 and R115: the grant of an upload, refused or written, with the cache kept consistent, one credit used
and one disposal reported (R126). -/
def Obligations.TileWriteIsRefusedOrWritten : Prop :=
  ∀ (s : State) (u : Upload) (rest : List Upload), s.quiet = true → s.uploadLaw → s.memoryLaw →
    s.cache.nextGrant = none → s.library.uploads = u :: rest → s.library.creditRemains = true →
    ∃ t, exec .tileWrite s = .next t ∧ t.library.uploads = rest ∧
      t.library.window = s.library.window.map (fun w => { w with grants := w.grants + 1 }) ∧
      t.scene.armed = s.scene.armed.map (fun r => { r with uploadsAhead := r.uploadsAhead - 1 }) ∧
      t.scene.tableQ = s.scene.tableQ.map
        (fun c => match c with
          | .flipArm f => .flipArm { f with ahead := f.ahead - 1 }
          | c => c) ∧
      t.scene.phase = s.scene.phase ∧ t.tables = s.tables ∧ t.store = s.store ∧
      (s.pinned (u.tile / 1024) = true →
        t.library.mem = s.library.mem ∧ t.cache = s.cache ∧ t.flagged .refused = true ∧
        t.status.refusal = some ⟨0x30, 5, 0, u.tile⟩) ∧
      (s.pinned (u.tile / 1024) = false →
        t.status = s.status ∧
        (∀ a, t.libByte a =
          if u.tile * 1024 + u.sector * 256 ≤ a ∧ a < u.tile * 1024 + u.sector * 256 + 256 then
            u.bytes.getD (a - (u.tile * 1024 + u.sector * 256)) 0
          else s.libByte a) ∧
        t.cache.valid? u.tile u.sector = none ∧
        (∀ f ∈ t.cache.fills, f.tile = u.tile → f.sector = u.sector → f.void = true) ∧
        t.cache.reads = s.cache.reads)

/-! ### Counter steps -/

/-- R126, R113 and R144: UPLOADS_AHEAD_DRAINED, CREDIT_WINDOW_RESTART and PULSE_END; R143 and R145: the ends of a
leader's and of a member's window. That these are steps of their own, each due while the state holds its counter at
its end value (a count of 0 in DRAINING, lines equal to the length, a pulse of 0), is the model's choice (log 4). -/
def Obligations.CounterAndWindowStepsAreTakenWhereDue : Prop :=
  (∀ s : State, s.loadDue = false →
    (∀ r, s.scene.phase = .draining → s.scene.armed = some r → r.uploadsAhead = 0 →
      (r.mode = .localOnly →
        exec .uploadsAheadDrained s = .next { s with scene := { s.scene with phase := .armedLocal } }) ∧
      (r.mode = .group →
        exec .uploadsAheadDrained s =
          .next
            { s with
              scene := { s.scene with phase := .armedGroup }
              group := { s.group with window := some 0 } })) ∧
    (∀ w, s.library.window = some w → w.length ≤ w.lines →
      exec .creditWindowRestart s =
        .next
          { s with
            library :=
              { s.library with window := some ⟨s.library.creditLines, s.library.creditLimit, 0, 0⟩ } }) ∧
    (s.group.pulse = some 0 →
      ∃ t, exec .pulseEnd s = .next t ∧ t = { s with group := { s.group with pulse := none } } ∧
        (s.group.role = .leader → s.group.participation = true → t.releasesFlip = false))) ∧
  ∀ (s : State) (r : Armed) (n : Nat), s.loadDue = false → s.scene.phase = .armedGroup →
    s.scene.armed = some r → s.group.window = some n →
    let flagged := { s.status with flags := s.status.flags ||| Flag.flipTimeout.mask }
    let back :=
      { s with
        status := flagged
        scene := { s.scene with phase := .editing, armed := none }
        group := { s.group with window := none } }
    (s.group.role = .leader → 1 ≤ n → r.window ≤ n → r.force = true →
      exec .leaderWindowEnd s =
        .next
          { s with
            status := flagged
            scene := { s.scene with phase := .committed }
            group := { s.group with window := none, pulse := some 8 } }) ∧
    (s.group.role = .leader → 1 ≤ n → r.window ≤ n → r.force = false →
      exec .leaderWindowEnd s = .next back) ∧
    (s.group.role = .member → r.window + 2 ≤ n → exec .memberWindowEnd s = .next back) ∧
    (s.group.participation = true → back.releasesReady = false)

/-- R142, R146 and R147 at the group sync unit: a frame start counts in ARMED-group alone (R141) and is there the
leader's decision, and the line filter of a member takes three samples in a row. -/
def Obligations.GroupLinesDecideAndAreFiltered : Prop :=
  (∀ (s : State) (n : Nat), s.scene.phase = .armedGroup → s.group.window = some n →
    (s.group.role = .leader → s.readyHigh = true →
      s.groupFrameStart =
        { s with
          scene := { s.scene with phase := .committed }
          group := { s.group with window := none, pulse := some 8 } }) ∧
    (s.group.role = .member ∨ s.readyHigh = false →
      s.groupFrameStart = { s with group := { s.group with window := some (n + 1) } })) ∧
  (∀ s : State, s.scene.phase ≠ .armedGroup → s.groupFrameStart = s) ∧
  ∀ s : State,
    (s.group.sampling = false → s.sampleFlip = s) ∧
    (s.group.sampling = true →
      (s.flipHigh = s.group.filterHigh →
        s.sampleFlip = { s with group := { s.group with filterRun := 0 } }) ∧
      (s.flipHigh ≠ s.group.filterHigh → s.group.filterRun < 2 →
        s.sampleFlip = { s with group := { s.group with filterRun := s.group.filterRun + 1 } }) ∧
      (s.flipHigh ≠ s.group.filterHigh → 2 ≤ s.group.filterRun →
        s.sampleFlip.group.filterHigh = s.flipHigh ∧ s.sampleFlip.group.filterRun = 0 ∧
        s.sampleFlip.tables = s.tables ∧ s.sampleFlip.scene.armed = s.scene.armed ∧
        (s.flipHigh = true → s.scene.phase = .armedGroup →
          s.sampleFlip.scene.phase = .committed ∧ s.sampleFlip.group.window = none) ∧
        (s.flipHigh = true → s.scene.phase = .seeding ∨ s.scene.phase = .editing ∨
            s.scene.phase = .draining →
          s.sampleFlip.scene = s.scene ∧ s.sampleFlip.flagged .missedFlip = true) ∧
        (s.flipHigh = false ∨ s.scene.phase = .settled ∨ s.scene.phase = .armedLocal ∨
            s.scene.phase = .committed ∨ s.scene.phase = .saving ∨ s.scene.phase = .recalling →
          s.sampleFlip.scene = s.scene ∧ s.sampleFlip.status = s.status)))

/-! ### Scene controller -/

/-- R122: STAGE_OPEN and the seed copy; and the seed copy at the start of a SAVE, after which sector 0 is erased and
the store is UNPROGRAMMED (R176, R177). The copy as a whole at its completion is the model's choice (log 15), and so
is that the erase and the store state come in that step (log 16). -/
def Obligations.StageOpenSeedsStaging : Prop :=
  ∀ s : State, s.quiet = true →
    (∀ q, s.engineBusy = false → s.scene.tableQ = .stageOpen :: q →
      (s.scene.phase = .settled →
        ∃ t, exec .stageOpen s = .next t ∧
          t = { s with scene := { s.scene with tableQ := q, phase := .seeding } } ∧
          t.engineBusy = true) ∧
      (s.scene.phase ≠ .settled →
        exec .stageOpen s = .next (s.takeHead.refuse 0x10 .state 0 0))) ∧
    (s.scene.phase = .seeding →
      ∃ t, exec .seedCompletion s = .next t ∧
        t = { s.setStaging s.activeBank with scene := { s.scene with phase := .editing } } ∧
        t.stagingBank = s.activeBank ∧ t.activeBank = s.activeBank ∧ t.engineBusy = false) ∧
    ∀ j, s.scene.phase = .saving → s.store.save = some j → j.seeded = false →
      ∃ t, exec .seedCompletion s = .next t ∧ t.stagingBank = s.activeBank ∧
        t.activeBank = s.activeBank ∧ t.scene = s.scene ∧ t.store.state = .unprogrammed ∧
        (∀ a, t.flashByte a = if a < 4096 then 0xFF else s.flashByte a) ∧
        t.library = s.library ∧ t.status = s.status ∧
        ∃ j', t.store.save = some j' ∧ j'.seeded = true ∧ j'.addr = 11 ∧ j'.page = [] ∧
          j'.areas = j.areas ∧ j'.nAreas = j.nAreas ∧ j'.sector = 0 ∧ j'.units = s.saveUnits

/-- R123: the checks of a TABLE_WRITE in their order and the record of each refusal; and R124: all of its entries are
written into staging, or none, one after another in write order, up to the first that fails. Which of two faults of
step 4 the record names is the model's choice (log 20). -/
def Obligations.TableWriteWritesAllOrNothing : Prop :=
  (∀ (s : State) (w : TableWriteCmd) (q : List TableCmd), s.quiet = true → s.engineBusy = false →
    s.scene.tableQ = .tableWrite w :: q →
    let refused := fun (table index : Nat) (why : Reason) =>
      Host.Outcome.next (s.takeHead.refuse 0x11 why table index)
    (s.scene.phase ≠ .editing → exec .tableWrite s = refused w.table w.start .state) ∧
    (s.scene.phase = .editing → w.table = 0 ∨ 4 < w.table →
      exec .tableWrite s = refused 0 w.start .range) ∧
    (s.scene.phase = .editing → 1 ≤ w.table → w.table ≤ 4 → writeIndices w = none →
      exec .tableWrite s = refused w.table w.start .range) ∧
    ∀ is, s.scene.phase = .editing → 1 ≤ w.table → w.table ≤ 4 → writeIndices w = some is →
      (2 ^ (fieldSizes w.table).length ≤ w.mask →
        exec .tableWrite s = refused w.table w.start .range) ∧
      (w.mask < 2 ^ (fieldSizes w.table).length →
        (∀ i, writeEntries w.table w.mask is w.data s.stagingBank = .error i →
          i ∈ is ∧ exec .tableWrite s = refused w.table i .range) ∧
        ∀ k, writeEntries w.table w.mask is w.data s.stagingBank = .ok k →
          exec .tableWrite s = .next (s.takeHead.setStaging k))) ∧
  (∀ w : TableWriteCmd,
    (∀ is, writeIndices w = some is →
      1 ≤ w.count ∧ w.count ≤ 64 ∧ is.length = w.count ∧ (∀ i ∈ is, i < tableSize w.table) ∧
      ∀ k, k < w.count → is[k]? = some (if w.step = 0x01 then w.start + k else w.start - k)) ∧
    (writeIndices w = none ↔
      w.count < 1 ∨ 64 < w.count ∨ (w.step ≠ 0x01 ∧ w.step ≠ 0xFF) ∨
      (w.step = 0x01 ∧ tableSize w.table ≤ w.start + (w.count - 1)) ∨
      (w.step = 0xFF ∧ (tableSize w.table ≤ w.start ∨ w.start < w.count - 1)))) ∧
  ∀ (table mask i : Nat) (is : List Nat) (bs : List Byte) (k : Bank),
    let size := maskedSize mask (fieldSizes table) 0
    writeEntries table mask [] bs k = .ok k ∧
    (k.writeEntry table mask i (bs.take size) = none →
      writeEntries table mask (i :: is) bs k = .error i) ∧
    ∀ k', k.writeEntry table mask i (bs.take size) = some k' →
      writeEntries table mask (i :: is) bs k = writeEntries table mask is (bs.drop size) k'

/-- R124: one entry written changes that entry of its table alone; every field whose mask bit is set takes the value
given for it, at its place among the masked fields (R163), and every other field keeps what it held; for a directory
entry the counts follow in the two steps of R40; an empty mask writes nothing (R123). -/
def Obligations.EntryWriteChangesItsEntryAlone : Prop :=
  ∀ (k k' : Bank) (table mask i : Nat) (bs : List Byte), k.writeEntry table mask i bs = some k' →
    let off := fun b : Nat => maskedSize mask ((fieldSizes table).take b) 0
    let v := fun b : Nat => fieldAt (off b) ((fieldSizes table).getD b 0) bs
    let colour := fun b : Nat =>
      (⟨(bs.drop (off b)).getD 0 0, (bs.drop (off b)).getD 1 0, (bs.drop (off b)).getD 2 0⟩ : Rgb)
    let given := fun (b old : Nat) => if mask.testBit b then v b else old
    ((table ≠ 1 → k'.regions = k.regions) ∧ (table ≠ 2 → k'.items = k.items) ∧
      (table ≠ 3 → k'.styles = k.styles) ∧ (table ≠ 4 → k'.photos = k.photos ∧ k'.counts = k.counts) ∧
      ∀ j, j ≠ i → k'.region j = k.region j ∧ k'.item j = k.item j ∧ k'.style j = k.style j ∧
        k'.photo j = k.photo j) ∧
    (table = 1 → i < k.regions.length →
      let r := k.region i
      let r' := k'.region i
      r'.kind.code = given 0 r.kind.code ∧ r'.x = given 1 r.x ∧ r'.y = given 2 r.y ∧
      r'.width = given 3 r.width ∧ r'.height = given 4 r.height ∧ r'.level = given 5 r.level ∧
      r'.pages = (if mask.testBit 6 then BitVec.ofNat 8 (v 6) else r.pages) ∧
      r'.item = (if mask.testBit 7 then (if v 7 = 0xFFFF then none else some (v 7)) else r.item) ∧
      r'.figure.code = given 8 r.figure.code ∧ r'.style = given 9 r.style ∧
      r'.photo = given 10 r.photo ∧ r'.align.code = given 11 r.align.code ∧
      r'.treatment.code = given 12 r.treatment.code) ∧
    (table = 2 → i < k.items.length →
      let it := k.item i
      let it' := k'.item i
      it'.state.code = given 0 it.state.code ∧
      it'.prices =
        (if mask.testBit 1 then
          (List.range (fieldAt (off 1) 1 bs)).map fun n => fieldAt (off 1 + 1 + 3 * n) 3 bs
        else it.prices) ∧
      it'.energy = (if mask.testBit 2 then (if v 2 = 0xFFFF then none else some (v 2)) else it.energy)) ∧
    (table = 3 → i < k.styles.length →
      let st := k.style i
      let st' := k'.style i
      st'.ink = (if mask.testBit 0 then colour 0 else st.ink) ∧
      st'.inkOpacity = (if mask.testBit 1 then BitVec.ofNat 8 (v 1) else st.inkOpacity) ∧
      st'.box = (if mask.testBit 2 then colour 2 else st.box) ∧
      st'.boxOpacity = (if mask.testBit 3 then BitVec.ofNat 8 (v 3) else st.boxOpacity) ∧
      st'.glyphPhoto = given 4 st.glyphPhoto ∧ st'.cellW = given 5 st.cellW ∧
      st'.cellH = given 6 st.cellH ∧ st'.symbol.code = given 7 st.symbol.code ∧
      st'.minorDigits = given 8 st.minorDigits ∧
      boolCode st'.grouping = given 9 (boolCode st.grouping) ∧
      boolCode st'.trim = given 10 (boolCode st.trim) ∧
      st'.dim = (if mask.testBit 11 then BitVec.ofNat 8 (v 11) else st.dim) ∧
      st'.standby = (if mask.testBit 12 then colour 12 else st.standby)) ∧
    (table = 4 → i < k.photos.length →
      let p := k.photo i
      let p' := k'.photo i
      boolCode p'.valid = given 0 (boolCode p.valid) ∧ p'.area = given 1 p.area ∧
      p'.offset = given 2 p.offset ∧ p'.width = given 3 p.width ∧ p'.height = given 4 p.height ∧
      p'.offset + p'.width * p'.height ≤ 1024 ∧
      ∀ a, a < k.counts.length →
        k'.count a =
          k.count a - (if p.valid = true ∧ p.area = a then 1 else 0) +
            (if p'.valid = true ∧ p'.area = a then 1 else 0)) ∧
    (mask = 0 → table ≤ 3 → k' = k)

/-- Every lawful table entry is read back from its own full encoding, whatever stands in the unused places of a price
list (R163), which the spec leaves open and the model leaves free (log 19). -/
def Obligations.EntryEncodingIsReadBack : Prop :=
  (∀ r r0 : Region, r.lawful →
    writeMasked regionField (fullMask 1) (fieldSizes 1) 0 (encodeRegion r) r0 = some r ∧
    (encodeRegion r).length = 19) ∧
  (∀ it it0 : Item, it.lawful →
    writeMasked itemField (fullMask 2) (fieldSizes 2) 0 (encodeItem it) it0 = some it ∧
    (encodeItem it).length = 16) ∧
  (∀ st st0 : Style, st.lawful →
    writeMasked styleField (fullMask 3) (fieldSizes 3) 0 (encodeStyle st) st0 = some st ∧
    (encodeStyle st).length = 20) ∧
  ∀ p p0 : Photo, p.lawful →
    photoWritten (fullMask 4) (encodePhoto p) p0 = some p ∧ (encodePhoto p).length = 6

/-- R125: the checks of a FLIP_ARM in their order, the armed record it makes, and the state it enters. -/
def Obligations.FlipArmIsCheckedAndArms : Prop :=
  ∀ (s : State) (f : FlipArmCmd) (q : List TableCmd), s.quiet = true → s.engineBusy = false →
    s.scene.tableQ = .flipArm f :: q →
    let valuesOk := f.window ≠ 0 ∧ f.mode ≤ 1 ∧ f.force ≤ 1 ∧ (f.entryPage ≤ 7 ∨ f.entryPage = 0xFF)
    let record : Armed :=
      ⟨if f.mode = 1 then .group else .localOnly, f.window, f.force == 1, f.tag,
        if f.entryPage = 0xFF then none else some f.entryPage, f.ahead⟩
    (s.scene.phase ≠ .editing → exec .flipArm s = .next (s.takeHead.refuse 0x12 .state 0 0)) ∧
    (s.scene.phase = .editing → ¬valuesOk →
      exec .flipArm s = .next (s.takeHead.refuse 0x12 .range 0 0)) ∧
    (s.scene.phase = .editing → valuesOk → f.mode = 1 → s.group.participation = false →
      exec .flipArm s = .next (s.takeHead.refuse 0x12 .mode 0 0)) ∧
    (s.scene.phase = .editing → valuesOk → f.mode = 0 ∨ s.group.participation = true →
      (f.ahead ≠ 0 →
        exec .flipArm s =
          .next { s with scene := { s.scene with tableQ := q, phase := .draining, armed := some record } }) ∧
      (f.ahead = 0 → f.mode = 0 →
        exec .flipArm s =
          .next { s with scene := { s.scene with tableQ := q, phase := .armedLocal, armed := some record } }) ∧
      (f.ahead = 0 → f.mode = 1 →
        ∃ t, exec .flipArm s = .next t ∧
          t =
            { s with
              scene := { s.scene with tableQ := q, phase := .armedGroup, armed := some record }
              group := { s.group with window := some 0 } } ∧
          t.releasesReady = true))

/-- R127: FLIP_CANCEL and STAGE_DISCARD in every scene state in which they are taken. -/
def Obligations.CancelAndDiscardEndAPreparation : Prop :=
  ∀ (s : State) (q : List TableCmd), s.quiet = true → s.engineBusy = false →
    let taken := { s with scene := { s.scene with tableQ := q } }
    let ended := fun phase : Phase =>
      { s with
        scene := { s.scene with tableQ := q, phase := phase, armed := none }
        group := { s.group with window := none } }
    let armed := s.scene.phase = .draining ∨ s.scene.phase = .armedLocal ∨ s.scene.phase = .armedGroup
    (s.scene.tableQ = .flipCancel :: q →
      (armed → exec .flipCancel s = .next (ended .editing)) ∧
      (s.scene.phase = .committed → exec .flipCancel s = .next (taken.refuse 0x13 .state 0 0)) ∧
      (s.scene.phase = .editing ∨ s.scene.phase = .settled → exec .flipCancel s = .next taken)) ∧
    (s.scene.tableQ = .stageDiscard :: q →
      (armed ∨ s.scene.phase = .editing →
        exec .stageDiscard s = .next (ended .settled)) ∧
      (s.scene.phase = .committed ∨ s.scene.phase = .settled → exec .stageDiscard s = .next taken)) ∧
    (s.group.participation = true →
      (ended .editing).releasesReady = false ∧ (ended .settled).releasesReady = false)

/-- R128 and R159: the one refusal of a CONFIG_WRITE, and the clamped values that it writes, each masked field at its
place among the masked fields. R140: what a write of role or participation does at once to the line filter and to a
pulse; R114: a credit window begins where L becomes nonzero, ends where it becomes 0 and is otherwise kept. -/
def Obligations.ConfigWriteClampsItsValues : Prop :=
  (∀ (s : State) (mask : Nat) (data : List Byte) (q : List TableCmd), s.quiet = true →
    s.engineBusy = false → s.scene.tableQ = .configWrite mask data :: q →
    let off := fun b : Nat => maskedSize mask (configSizes.take b) 0
    let v := fun b : Nat => fieldAt (off b) (configSizes.getD b 0) data
    let refusedHere := s.scene.phase.armed = true ∧ (mask.testBit 7 = true ∨ mask.testBit 8 = true)
    let member := fun g : Group => g.participation = true ∧ g.role = .member
    (refusedHere → exec .configWrite s = .next (s.takeHead.refuse 0x15 .state 0 0)) ∧
    (¬refusedHere →
      ∃ t, exec .configWrite s = .next t ∧
        (t.raster.settings.wAct =
            (if mask.testBit 0 then clampWidth (v 0) else s.raster.settings.wAct) ∧
          t.raster.settings.hAct =
            (if mask.testBit 1 then max 360 (min 1080 (v 1)) else s.raster.settings.hAct) ∧
          t.raster.settings.lossMs =
            (if mask.testBit 2 then max 20 (min 500 (v 2)) else s.raster.settings.lossMs) ∧
          t.raster.settings.periodMs =
            (if mask.testBit 3 then max 16 (min 42 (v 3)) else s.raster.settings.periodMs) ∧
          t.raster.settings.colour =
            (if mask.testBit 4 then
              ⟨(data.drop (off 4)).getD 0 0, (data.drop (off 4)).getD 1 0, (data.drop (off 4)).getD 2 0⟩
            else s.raster.settings.colour)) ∧
        (t.library.creditLines = (if mask.testBit 5 then min 4095 (v 5) else s.library.creditLines) ∧
          t.library.creditLimit =
            (if mask.testBit 6 then max 1 (min 255 (v 6)) else s.library.creditLimit) ∧
          (t.library.creditLines = 0 → t.library.window = none) ∧
          (t.library.creditLines ≠ 0 → s.library.creditLines = 0 →
            t.library.window = some ⟨t.library.creditLines, t.library.creditLimit, 0, 0⟩) ∧
          (t.library.creditLines ≠ 0 → s.library.creditLines ≠ 0 →
            t.library.window = s.library.window)) ∧
        (t.group.role =
            (if mask.testBit 7 then (if v 7 = 0 then .member else .leader) else s.group.role) ∧
          t.group.participation =
            (if mask.testBit 8 then decide (v 8 ≠ 0) else s.group.participation) ∧
          (member s.group → member t.group →
            t.group.filterHigh = s.group.filterHigh ∧ t.group.filterRun = s.group.filterRun) ∧
          (¬member s.group ∨ ¬member t.group →
            t.group.filterHigh = false ∧ t.group.filterRun = 0) ∧
          t.group.pulse =
            (if t.group.participation = true ∧ t.group.role = .leader then s.group.pulse else none) ∧
          t.group.window = s.group.window) ∧
        t.raster.record = s.raster.record ∧ t.raster.lock = s.raster.lock ∧
        t.tables = s.tables ∧ t.scene.phase = s.scene.phase ∧ t.scene.tableQ = q ∧
        t.library.mem = s.library.mem ∧ t.status = s.status ∧ t.store = s.store)) ∧
  ∀ v, clampWidth v = (if v < 640 then 640 else if 1920 < v then 1920 else v - v % 16)

/-- R133 and R134: the hot entries that act on a single value, PAGE_SET and PAGE_PUSH, each applied at a frame start;
`b` carries whether the hold timer has been set or restored (R136). An ITEM_STATE changes the state field of its item
in both banks and nothing else (R22). R130, R132: the queue is applied oldest first, and is then empty. -/
def Obligations.HotEntriesAreApplied : Prop :=
  (∀ (s : State) (b : Bool),
    (∀ item, item < s.tables.a.items.length → item < s.tables.b.items.length →
      (∀ code st, itemStateOfCode code = some st →
        ∃ t, applyHot (.itemState item code) (s, b) = (t, b) ∧ t = { s with tables := t.tables } ∧
          t.tables.active = s.tables.active ∧
          ∀ side : BankId,
            let k := s.tables.bank side
            let k' := t.tables.bank side
            k'.item item = { k.item item with state := st } ∧ (∀ j, j ≠ item → k'.item j = k.item j) ∧
            k'.items.length = k.items.length ∧ k'.regions = k.regions ∧ k'.styles = k.styles ∧
            k'.photos = k.photos ∧ k'.counts = k.counts) ∧
      ∀ code, 3 ≤ code → applyHot (.itemState item code) (s, b) = (s.refuse 0x20 .range 2 item, b)) ∧
    (∀ v, applyHot (.thresholdSet v) (s, b) =
      ({ s with scene := { s.scene with threshold := if 7 < v then 7 else v } }, b)) ∧
    (∀ r, applyHot (.watchSet r) (s, b) = ({ s with status := { s.status with watch := some r } }, b)) ∧
    (∀ mask, applyHot (.eventClear mask) (s, b) = (s.clearFlags mask, b)) ∧
    (∀ page, page ≤ 7 →
      applyHot (.pageSet page) (s, b) =
        ({ s with scene := { s.scene with page := page, stack := [], hold := none } }, b)) ∧
    (∀ page, 7 < page → applyHot (.pageSet page) (s, b) = (s.refuse 0x21 .range 0 0, b)) ∧
    (∀ page d v, 7 < page → applyHot (.pagePush page d v) (s, b) = (s.refuse 0x22 .range 0 0, b)) ∧
    ∀ page d v, page ≤ 7 →
      ∃ t, applyHot (.pagePush page d v) (s, b) = (t, true) ∧ t.scene.page = page ∧
        t.scene.hold = (if d = 0 then none else some d) ∧
        t.scene.threshold = (if v = 0xFF then s.scene.threshold else if 7 < v then 7 else v) ∧
        (s.scene.stack.length < 8 →
          t.scene.stack = ⟨s.scene.page, s.scene.hold, s.scene.threshold⟩ :: s.scene.stack ∧
          t.status = s.status) ∧
        (s.scene.stack.length = 8 →
          t.scene.stack = ⟨s.scene.page, s.scene.hold, s.scene.threshold⟩ :: s.scene.stack.take 7 ∧
          t.flagged .stackWrap = true) ∧
        t.tables = s.tables ∧ t.scene.phase = s.scene.phase ∧ t.scene.armed = s.scene.armed) ∧
  ∀ s : State,
    s.applyHotQueue =
      s.scene.hotQ.foldl (fun p c => applyHot c p) ({ s with scene := { s.scene with hotQ := [] } }, false) ∧
    s.applyHotQueue.1.scene.hotQ = [] ∧ s.applyHotQueue.1.scene.tableQ = s.scene.tableQ ∧
    s.applyHotQueue.1.group = s.group ∧ s.applyHotQueue.1.tables.active = s.tables.active ∧
    s.applyHotQueue.1.scene.phase = s.scene.phase

/-- R135, and R136 where the timer reaches 0: a pop by PAGE_POP and a pop by the page hold timer. That
PAGE_HOLD_EXPIRY is a step of its own, due while the state holds a timer of 0, and that the frame start's status
packet and frame view follow it while its group decision does not, is the model's choice (log 4, log 7); so is that a
frame start taken before it makes the pop first. -/
def Obligations.PagePopRestoresTheTopEntry : Prop :=
  (∀ (s : State) (b : Bool),
    (∀ e rest, s.scene.stack = e :: rest →
      applyHot .pagePop (s, b) =
        ({ s with
            scene :=
              { s.scene with page := e.page, hold := e.hold, threshold := e.threshold, stack := rest } },
          true)) ∧
    (s.scene.stack = [] → applyHot .pagePop (s, b) = (s.raise .stackEmpty, b))) ∧
  (∀ s : State,
    (s.scene.hold ≠ some 0 → s.popIfDue = s) ∧
    (s.scene.hold = some 0 →
      s.popIfDue = s.holdPop ∧
      (∀ e rest, s.scene.stack = e :: rest →
        s.holdPop =
          { s with
            scene :=
              { s.scene with page := e.page, hold := e.hold, threshold := e.threshold, stack := rest } }) ∧
      (s.scene.stack = [] →
        s.holdPop = { s.raise .stackEmpty with scene := { s.scene with hold := none } }))) ∧
  ∀ s : State, s.loadDue = false → s.scene.hold = some 0 →
    ∃ t, exec .pageHoldExpiry s = .next t ∧ t.scene = s.holdPop.scene ∧
      (∀ g, s.holdPop.flagged g = true → t.flagged g = true) ∧
      t.builder.view =
        some ⟨s.tables.active, t.scene.page, t.scene.threshold, s.raster.record.width,
          s.raster.record.height, s.loading⟩ ∧
      t.tables = s.tables ∧ t.library = s.library ∧ t.store = s.store ∧ t.raster = s.raster ∧
      t.group = s.group ∧ t.panel = s.panel ∧ t.straps = s.straps ∧ t.status.draft = none ∧
      (∀ d, s.status.draft = some d → t.status.lane = s.holdPop.statusPacket d) ∧
      (s.status.draft = none → t.status.lane = s.status.lane)

/-! ### Control packets and status -/

/-- R152 to R155: the check value, byte by byte, and its check on the characters 1 to 9; a whole packet in a line is
dispatched, skipped or dropped by its checks and the line goes on behind it, whatever follows; a packet that is cut
off, too long or of a wrong CRC abandons the line. R154, R156, R157, R126: the types that a player may send, each with
its payload length, its fixed fields and its queue, and the uploads-ahead count that a FLIP_ARM is given. -/
def Obligations.PacketsAreFramedCheckedAndDispatched : Prop :=
  (crc16 [] = 0xFFFF ∧
  (∀ (bs : List Byte) (b : Byte), crc16 (bs ++ [b]) = crcByte (crc16 bs) b) ∧
  (∀ (c : BitVec 16) (b : Byte),
    crcByte c b =
      Nat.iterate
        (fun r : BitVec 16 => if r.getLsbD 15 then (r <<< 1) ^^^ 0x1021 else r <<< 1) 8
        (c ^^^ (b.setWidth 16 <<< 8))) ∧
  (∀ c : BitVec 16, crcBytes c = [c.extractLsb' 8 8, c.extractLsb' 0 8]) ∧
  crc16 [0x31, 0x32, 0x33, 0x34, 0x35, 0x36, 0x37, 0x38, 0x39] = 0x29B1) ∧
  (∀ (s : State) (type target : Nat) (payload rest : List Byte),
    1 ≤ type → type ≤ 255 → target ≤ 255 → payload.length ≤ 1018 →
    let after :=
      if target.testBit s.straps.board = true then
        (match packetOf s.library.uploads.length type payload with
          | some k => dispatch k s
          | none => s.raise .packetBad)
      else s
    parseLine (framePacket type target payload ++ rest) s = parseLine rest after) ∧
  (∀ (s : State) (b : Byte) (bs : List Byte), b ≠ 0 →
    ((b :: bs).length < 4 → parseLine (b :: bs) s = s.raise .packetBad) ∧
    (1018 < fieldAt 2 2 (b :: bs) → 4 ≤ (b :: bs).length → parseLine (b :: bs) s = s.raise .packetBad) ∧
    ((b :: bs).length < 4 + fieldAt 2 2 (b :: bs) + 2 → parseLine (b :: bs) s = s.raise .packetBad) ∧
    (∀ n, n = 4 + fieldAt 2 2 (b :: bs) → n + 2 ≤ (b :: bs).length →
      crcBytes (crc16 ((b :: bs).take n)) ≠ ((b :: bs).drop n).take 2 →
        parseLine (b :: bs) s = s.raise .packetBad)) ∧
  (∀ (s : State) (bs : List Byte), parseLine [] s = s ∧ parseLine (0 :: bs) s = s) ∧
  (∀ (ahead type : Nat) (p : List Byte),
    let byte := fun off : Nat => fieldAt off 1 p
    let two := fun off : Nat => fieldAt off 2 p
    let fixed : List (Nat × Nat × Packet) :=
      [(0x10, 0, .table .stageOpen), (0x13, 0, .table .flipCancel), (0x14, 0, .table .stageDiscard),
        (0x12, 6, .table (.flipArm ⟨byte 0, byte 1, byte 2, two 3, byte 5, ahead⟩)),
        (0x16, 0, .table .storeSave), (0x17, 0, .table .storeRecall),
        (0x18, 2, .table (.storeProtect (BitVec.ofNat 16 (two 0)))), (0x19, 0, .table .restart),
        (0x20, 2, .hot (.itemState (byte 0) (byte 1))), (0x21, 1, .hot (.pageSet (byte 0))),
        (0x22, 4, .hot (.pagePush (byte 0) (two 1) (byte 3))), (0x23, 0, .hot .pagePop),
        (0x24, 1, .hot (.thresholdSet (byte 0))),
        (0x25, 8, .hot (.watchSet ⟨two 0, two 2, two 4, two 6⟩)),
        (0x26, 3, .hot (.eventClear (BitVec.ofNat 24 (fieldAt 0 3 p))))]
    let write : Packet := .table (.tableWrite ⟨byte 0, two 1, byte 3, byte 4, two 5, p.drop 7⟩)
    let size := maskedSize (two 5) (fieldSizes (byte 0)) 0
    (∀ n k, (type, n, k) ∈ fixed → packetOf ahead type p = if p.length = n then some k else none) ∧
    (type = 0x11 →
      packetOf ahead type p =
        if 7 ≤ p.length ∧ (byte 0 = 0 ∨ 4 < byte 0 ∨ p.length = 7 + byte 4 * size) then some write
        else none) ∧
    (type = 0x15 →
      packetOf ahead type p =
        if 2 ≤ p.length ∧ p.length = 2 + maskedSize (two 0) [2, 2, 2, 1, 3, 2, 1, 1, 1] 0 then
          some (.table (.configWrite (two 0) (p.drop 2)))
        else none) ∧
    (type = 0x30 →
      packetOf ahead type p =
        if p.length = 259 ∧ two 0 ≤ 32767 ∧ byte 2 ≤ 3 then some (.upload ⟨two 0, byte 2, p.drop 3⟩)
        else none) ∧
    (type = 0x38 →
      packetOf ahead type p =
        if p.length = 5 ∧ 1 ≤ byte 0 ∧ byte 0 ≤ 3 then some (.read ⟨byte 0, byte 1, fieldAt 2 3 p⟩)
        else none) ∧
    (type ∉ fixed.map (·.1) → type ∉ [0x11, 0x15, 0x30, 0x38] → packetOf ahead type p = none) ∧
    [1, 2, 3, 4].map fieldSizes =
      [[1, 2, 2, 2, 2, 1, 1, 2, 1, 1, 2, 1, 1], [1, 13, 2], [3, 1, 3, 1, 2, 1, 1, 1, 1, 1, 1, 1, 3],
        [1, 1, 2, 1, 1]]) ∧
  ∀ (s : State) (c : TableCmd) (h : HotCmd) (u : Upload) (r : ReadReq),
    (s.scene.tableQ.length < 64 → (dispatch (.table c) s).scene.tableQ = s.scene.tableQ ++ [c]) ∧
    (64 ≤ s.scene.tableQ.length → dispatch (.table c) s = s.raise .tableFull) ∧
    (s.scene.hotQ.length < 16 → (dispatch (.hot h) s).scene.hotQ = s.scene.hotQ ++ [h]) ∧
    (16 ≤ s.scene.hotQ.length → dispatch (.hot h) s = s.raise .hotFull) ∧
    (s.library.uploads.length < 32 →
      (dispatch (.upload u) s).library.uploads = s.library.uploads ++ [u]) ∧
    (32 ≤ s.library.uploads.length → dispatch (.upload u) s = s.raise .uploadFull) ∧
    (s.status.readQ.length < 4 → (dispatch (.read r) s).status.readQ = s.status.readQ ++ [r]) ∧
    (4 ≤ s.status.readQ.length → dispatch (.read r) s = s.raise .readFull)

/-- R167 and R168: flags are sticky and cleared by mask alone; a refusal overwrites the whole record, which a clear
leaves. -/
def Obligations.FlagsAreStickyAndRefusalsOverwrite : Prop :=
  (∀ (s : State) (f g : Flag), (s.raise f).flagged g = (s.flagged g || f == g)) ∧
  (∀ (s : State) (mask : BitVec 24) (g : Flag),
    (s.clearFlags mask).flagged g = (s.flagged g && !mask.getLsbD g.bit) ∧
    (s.clearFlags mask).status.refusal = s.status.refusal) ∧
  (∀ (s : State) (p : Nat) (why : Reason) (table index : Nat),
    (s.refuse p why table index).status.refusal = some ⟨p, why.code, table, index⟩ ∧
    (∀ g, (s.refuse p why table index).flagged g = (s.flagged g || g == .refused)) ∧
    (s.refuse p why table index).scene = s.scene ∧ (s.refuse p why table index).tables = s.tables) ∧
  [Reason.state, .range, .busy, .mode, .areaPinned, .isProtected, .noRoom].map Reason.code =
    [1, 2, 3, 4, 5, 6, 7]

/-- R164 and R160: a status packet is 40 bytes, or 66 with a reply, of type 50 hex for this board's bit, the receiving
parser's framing and CRC checks pass on it, and each field stands in its place. R166: an output frame start cuts the
packet before it off at a byte that is free (log 22), takes what belongs to the frame just ended, and, at scene
settled, completes the packet and puts it on the return lane. The model's choice: bits 2 to 7 of the byte of role and
participation are sent as 0 (log 38), the group sync unit stands before scene settled, so that the packet of a
leader's decision reports COMMITTED (log 7), and where a PAGE_HOLD_EXPIRY is due, which is a step of its own, the
packet waits for it (log 4). -/
def Obligations.StatusPacketsHaveTheirLayout : Prop :=
  (∀ (s : State) (d : StatusDraft), s.straps.board < 8 →
    let packet := s.statusPacket d
    (s.draftReply d = none → packet.length = 40) ∧
    (s.draftReply d ≠ none → packet.length = 66) ∧
    packet.getD 0 0 = 0x50 ∧ packet.getD 1 0 = BitVec.ofNat 8 (2 ^ s.straps.board) ∧
    fieldAt 2 2 packet + 6 = packet.length ∧
    packet.drop (packet.length - 2) = crcBytes (crc16 (packet.take (packet.length - 2))) ∧
    (fieldAt 4 1 packet = s.straps.board ∧
      fieldAt 5 1 packet =
        (if s.group.role = .leader then 1 else 0) + (if s.group.participation = true then 2 else 0) ∧
      fieldAt 6 4 packet = s.status.frameCount.toNat ∧ fieldAt 10 1 packet = d.lock.code ∧
      fieldAt 11 1 packet = s.scene.phase.code ∧ fieldAt 12 2 packet = s.scene.tag % 65536 ∧
      fieldAt 14 2 packet = s.scene.generation % 65536 ∧ fieldAt 16 1 packet = s.scene.page % 256 ∧
      fieldAt 17 1 packet = s.scene.stack.length % 256 ∧
      fieldAt 18 1 packet = s.scene.threshold % 256) ∧
    (fieldAt 19 1 packet = 64 - s.scene.tableQ.length ∧ fieldAt 20 1 packet = 16 - s.scene.hotQ.length ∧
      fieldAt 21 1 packet = d.uploadFree % 256 ∧ fieldAt 22 1 packet = d.readFree % 256 ∧
      fieldAt 23 3 packet = s.status.flags.toNat) ∧
    (s.status.refusal = none → fieldAt 26 5 packet = 0) ∧
    (∀ r, s.status.refusal = some r →
      fieldAt 26 1 packet = r.packet % 256 ∧ fieldAt 27 1 packet = r.reason % 256 ∧
      fieldAt 28 1 packet = r.table % 256 ∧ fieldAt 29 2 packet = r.index % 65536) ∧
    (fieldAt 31 2 packet = d.late % 65536 ∧ fieldAt 33 2 packet = (d.watch.getD 0).toNat ∧
      fieldAt 35 1 packet = (if d.watch.isSome = true then 1 else 0) ∧
      fieldAt 36 1 packet = s.store.state.code) ∧
    (s.draftReply d = none → fieldAt 37 1 packet = 0) ∧
    (∀ r, s.draftReply d = some r →
      fieldAt 37 1 packet = 1 ∧ fieldAt 38 1 packet = r.target % 256 ∧
      fieldAt 39 1 packet = r.table % 256 ∧ fieldAt 40 3 packet = r.index % 16777216 ∧
      fieldAt 43 1 packet = r.result % 256 ∧ (packet.drop 44).take 20 = padTo 20 r.data)) ∧
  ∀ (s : State) (src : Source),
    let u := s.beginFrame src
    let t := s.outputFrameStart src
    t.status.frameCount = (if s.status.framed then s.status.frameCount + 1 else s.status.frameCount) ∧
    (∃ n, t.status.laneBefore = s.status.lane.take n) ∧
    (u.straps = s.straps ∧ u.group = t.group ∧ u.store = s.store ∧ u.tables = t.tables ∧
      u.status.frameCount = t.status.frameCount ∧ u.status.refusal = t.status.refusal ∧ u.scene = t.scene ∧
      ∀ g, u.flagged g = true → t.flagged g = true) ∧
    ∃ d, u.status.draft = some d ∧
      (d.lock = s.raster.lock ∧ d.late = s.builder.late ∧ d.watch = s.watchResult ∧
        d.uploadFree = 32 - s.library.uploads.length ∧ d.readFree = 4 - t.status.readQ.length) ∧
      (t.holdDue = false → t.status.lane = u.statusPacket d ∧ t.status.draft = none) ∧
      (t.holdDue = true → t.status.lane = [] ∧ t.status.draft = some d)

/-- R170: the watch rectangle clipped to the canvas, the CRC over the lines that cross it, and the result, valid where
every pixel of it was sent. The computation starts afresh at an output frame start; each output line start feeds it
its pixels (State.lineStarted says so of the two commands); a line that is cut off before a pixel of the rectangle was
sent makes the result invalid (R13, R14; how many pixels had been sent is free, log 18). -/
def Obligations.WatchResultCoversTheClippedRectangle : Prop :=
  (∀ (s : State) (src : Source), (s.outputFrameStart src).status.watchRun = ⟨0xFFFF, 0, true⟩) ∧
  (∀ s : State,
    (s.panel.inProgress = false → s.cutLine = s) ∧
    ∀ px, s.panel = ⟨.pixels px, true⟩ →
      (∃ sent, sent < px.length ∧
          s.cutLine = { (s.watchCut sent).nextTick with panel := ⟨.cut (px.take sent), false⟩ }) ∨
        s.cutLine = { s.nextTick with panel := ⟨.pixels px, false⟩ }) ∧
  ∀ s : State,
    (s.status.watch = none →
      s.watchResult = none ∧ (∀ y out, s.watchLine y out = s) ∧ ∀ sent, s.watchCut sent = s) ∧
    ∀ r, s.status.watch = some r →
      let x1 := min (r.x + r.width) s.raster.record.width
      let y1 := min (r.y + r.height) s.raster.record.height
      (¬(r.x < x1 ∧ r.y < y1) →
        s.watchResult = none ∧ (∀ y out, s.watchLine y out = s) ∧ ∀ sent, s.watchCut sent = s) ∧
      (r.x < x1 → r.y < y1 →
        (∀ y out, ¬(r.y ≤ y ∧ y < y1) → s.watchLine y out = s) ∧
        (∀ y out, r.y ≤ y → y < y1 → x1 ≤ out.length →
          (s.watchLine y out).status.watchRun =
            ⟨crcMore s.status.watchRun.crc
                (((out.drop r.x).take (x1 - r.x)).flatMap fun c => [c.r, c.g, c.b]),
              s.status.watchRun.rows + 1, s.status.watchRun.whole⟩) ∧
        (∀ y out, r.y ≤ y → y < y1 → out.length < x1 →
          (s.watchLine y out).status.watchRun.whole = false ∧ (s.watchLine y out).watchResult = none) ∧
        (s.raster.nextLine = 0 → ∀ sent, s.watchCut sent = s) ∧
        (∀ sent y, s.raster.nextLine = y + 1 →
          (r.y ≤ y → y < y1 → sent < x1 →
            s.watchCut sent =
                { s with status := { s.status with watchRun := { s.status.watchRun with whole := false } } } ∧
              (s.watchCut sent).watchResult = none) ∧
          (y < r.y ∨ y1 ≤ y ∨ x1 ≤ sent → s.watchCut sent = s)) ∧
        (s.status.watchRun.whole = true → s.status.watchRun.rows = y1 - r.y →
          s.watchResult = some s.status.watchRun.crc) ∧
        (s.status.watchRun.whole = false ∨ s.status.watchRun.rows ≠ y1 - r.y → s.watchResult = none))

/-- R166, R169: an output frame start takes the head of the read queue, unless a store read is outstanding or its
packet carries a store reply, and answers it in its packet or hands it to the store controller; the answers to
read-back requests, of tables at scene settled and of the store at its completion. The model's choice: a store request
of a part with no store, too, goes to STORE_READ_COMPLETION (log 21); where a PAGE_HOLD_EXPIRY is due, which is a step
of its own, the packet and its answer wait for it (log 4); and the scene settled event, with the packet, comes behind
the group sync unit's count and decision (log 7). -/
def Obligations.ReadBackIsAnswered : Prop :=
  (∀ (s : State) (q : ReadReq),
    (1 ≤ q.table → q.table ≤ 5 → q.index < tableSize q.table →
      (q.target = 1 → s.tableReply q =
        ⟨1, q.table, q.index, 0, padTo 20 (s.activeBank.encodeEntry q.table q.index)⟩) ∧
      (q.target = 2 → s.tableReply q =
        ⟨2, q.table, q.index, 0, padTo 20 (s.stagingBank.encodeEntry q.table q.index)⟩)) ∧
    (q.table = 0 ∨ 5 < q.table ∨ tableSize q.table ≤ q.index →
      s.tableReply q = ⟨q.target, q.table, q.index, 1, List.replicate 20 0⟩)) ∧
  (∀ (s : State) (src : Source),
    let u := s.beginFrame src
    let t := s.outputFrameStart src
    (∀ r, s.status.storeReply = some r →
      t.status.storeReply = none ∧ t.status.readQ = s.status.readQ ∧
      t.status.storeRead = s.status.storeRead ∧
      (t.holdDue = false → ∃ d, t.status.lane = u.statusPacket d ∧ u.draftReply d = some r)) ∧
    (s.status.storeReply = none → s.status.storeRead ≠ none ∨ s.status.readQ = [] →
      t.status.storeReply = none ∧ t.status.readQ = s.status.readQ ∧
      t.status.storeRead = s.status.storeRead ∧
      (t.holdDue = false → ∃ d, t.status.lane = u.statusPacket d ∧ u.draftReply d = none)) ∧
    ∀ q qs, s.status.storeReply = none → s.status.storeRead = none → s.status.readQ = q :: qs →
      t.status.storeReply = none ∧ t.status.readQ = qs ∧
      (q.target = 3 →
        t.status.storeRead = some q ∧
        (t.holdDue = false → ∃ d, t.status.lane = u.statusPacket d ∧ u.draftReply d = none)) ∧
      (q.target ≠ 3 →
        t.status.storeRead = none ∧
        (t.holdDue = false →
          ∃ d, t.status.lane = u.statusPacket d ∧ u.draftReply d = some (u.tableReply q) ∧
            u.tables = t.tables))) ∧
  ∀ (s : State) (q : ReadReq), s.quiet = true → s.status.storeRead = some q →
    s.scene.phase ≠ .saving → s.store.protectJob = none →
    ∃ r, exec .storeReadCompletion s =
        .next { s with status := { s.status with storeRead := none, storeReply := some r } } ∧
      r.target = q.target ∧ r.table = q.table ∧ r.index = q.index ∧
      (s.straps.blocks = 0 → r.result = 2 ∧ r.data = List.replicate 20 0) ∧
      (s.straps.blocks ≠ 0 → s.straps.blocks * 1048576 < q.index + 16 →
        r.result = 1 ∧ r.data = List.replicate 20 0) ∧
      (s.straps.blocks ≠ 0 → q.index + 16 ≤ s.straps.blocks * 1048576 →
        r.result = 0 ∧ r.data.length = 20 ∧
        ∀ i, i < 20 → r.data[i]? = some
          (if i < 16 ∧ s.store.readMarks.getLsbD ((q.index + i) / 1048576) = true then
            s.flashByte (q.index + i) else 0))

/-! ### Serial store -/

/-- R172: an erase sets a sector to FF hex, and a page program only clears bits. R177: a save programs what it has
formed page by page, each page from its place to its 256-byte boundary and no further, with a sector that a page
begins erased before it; what it has programmed reads back, and nothing below it changes. How many pages a save has
programmed at a moment is free (log 16). -/
def Obligations.SerialStoreErasesAndPrograms : Prop :=
  (∀ (m : List Host.Cell) (a c : Nat),
    memRead flashFill (flashErase m a) c = if c / 4096 = a / 4096 then 0xFF else memRead flashFill m c) ∧
  (∀ (m : List Host.Cell) (a c : Nat) (bs : List Byte), memWf flashFill m = true →
    memRead flashFill (flashProgramPage m a bs) c =
      if a ≤ c ∧ c < a + bs.length then memRead flashFill m c &&& bs.getD (c - a) 0
      else memRead flashFill m c) ∧
  (∀ (j : SaveJob) (m : List Host.Cell),
    let r := saveProgram (j, m)
    let room := 256 - j.addr % 256
    r.1.page = j.page.drop room ∧ r.1.addr = j.addr + min room j.page.length ∧
    (room ≤ j.page.length → r.1.addr % 256 = 0) ∧
    (j.addr % 4096 ≠ 0 → r.2 = flashProgramPage m j.addr (j.page.take room)) ∧
    (j.addr % 4096 = 0 → r.2 = flashProgramPage (flashErase m j.addr) j.addr (j.page.take room))) ∧
  ∀ (j : SaveJob) (m : List Host.Cell), memWf flashFill m = true →
    (∀ c, j.addr ≤ c → c / 4096 = j.addr / 4096 → j.addr % 4096 ≠ 0 → memRead flashFill m c = 0xFF) →
    let r := programPages j.page.length (j, m)
    r.1.page.length < 256 - r.1.addr % 256 ∧
    r.1.addr + r.1.page.length = j.addr + j.page.length ∧
    r.1.page = j.page.drop (r.1.addr - j.addr) ∧
    (∀ i, j.addr + i < r.1.addr → memRead flashFill r.2 (j.addr + i) = j.page.getD i 0) ∧
    ∀ c, c < j.addr → memRead flashFill r.2 c = memRead flashFill m c

/-- R175 and R176: the checks of STORE_SAVE and STORE_RECALL in their order, what an accepted one begins, and the room
that a store has for pinned areas. That a STORE_RECALL of a part with no store enters RECALLING and stays busy until
its RECALL_COMPLETION is the model's choice (log 36). -/
def Obligations.StoreSaveAndRecallAreChecked : Prop :=
  (∀ (s : State) (q : List TableCmd), s.quiet = true → s.engineBusy = false →
    let busy := s.store.protectJob ≠ none ∨ s.status.storeRead ≠ none
    let n := s.pinnedAreas.length
    let roomy := s.straps.blocks ≠ 0 ∧ 9997 + n * 1048587 ≤ s.straps.blocks * 1048576 - 4096
    let protectedBlock :=
      ∃ b, b ≤ (9997 + n * 1048587 - 1) / 1048576 ∧ s.store.writeMarks.getLsbD b = false
    (s.scene.tableQ = .storeSave :: q →
      (s.scene.phase ≠ .settled → exec .storeSave s = .next (s.takeHead.refuse 0x16 .state 0 0)) ∧
      (s.scene.phase = .settled → busy →
        exec .storeSave s = .next (s.takeHead.refuse 0x16 .busy 0 0)) ∧
      (s.scene.phase = .settled → ¬busy → ¬roomy →
        exec .storeSave s = .next (s.takeHead.refuse 0x16 .noRoom 0 0)) ∧
      (s.scene.phase = .settled → ¬busy → roomy → protectedBlock →
        exec .storeSave s = .next (s.takeHead.refuse 0x16 .isProtected 0 0)) ∧
      (s.scene.phase = .settled → ¬busy → roomy → ¬protectedBlock →
        ∃ j, exec .storeSave s =
            .next
              { s with
                scene := { s.scene with tableQ := q, phase := .saving }
                store := { s.store with save := some j } } ∧
          j.seeded = false ∧ j.areas = s.pinnedAreas ∧ j.nAreas = n)) ∧
    (s.scene.tableQ = .storeRecall :: q →
      (s.scene.phase ≠ .settled → exec .storeRecall s = .next (s.takeHead.refuse 0x17 .state 0 0)) ∧
      (s.scene.phase = .settled → busy →
        exec .storeRecall s = .next (s.takeHead.refuse 0x17 .busy 0 0)) ∧
      (s.scene.phase = .settled → ¬busy →
        ∃ t, exec .storeRecall s = .next t ∧ t.scene.phase = .recalling ∧ t.scene.tableQ = q ∧
          t.stagingBank = .cleared ∧ t.activeBank = s.activeBank ∧
          t.tables.active = s.tables.active ∧ t.store = { s.store with imagePos := 0 } ∧
          t.library = s.library ∧ t.status = s.status))) ∧
  ∀ n,
    (9997 + n * 1048587 ≤ 4 * 1048576 - 4096 ↔ n ≤ 3) ∧
    (9997 + n * 1048587 ≤ 8 * 1048576 - 4096 ↔ n ≤ 7) ∧
    (9997 + n * 1048587 ≤ 16 * 1048576 - 4096 ↔ n ≤ 15)

/-- R117, R176 and R177: the pieces of a saved image, the tables and configuration in their sections, entry by entry
as each stands; a save's next read and its end, each the same whatever the save had written by then; the end programs
the header last, with the image's length. The pace is free (log 16), and so are the bytes in the unused places of an
item's price list (log 19). -/
def Obligations.SaveReadsOnAndEndsWithItsHeader : Prop :=
  (∀ s : State,
    let part := fun kind table n size : Nat =>
      SaveUnit.start (beBytes 1 kind ++ beBytes 4 (4 + n * size) ++ [0, 0] ++ beBytes 2 n)
        :: (List.range n).map (fun i => SaveUnit.entry table i) ++ [SaveUnit.crc]
    let g := s.raster.settings
    let config := [0x01, 0, 0, 0, 15, 0, 0x7F] ++ beBytes 2 g.wAct ++ beBytes 2 g.hAct ++
      beBytes 2 g.lossMs ++ beBytes 1 g.periodMs ++ [g.colour.r, g.colour.g, g.colour.b] ++
      beBytes 2 s.library.creditLines ++ beBytes 1 s.library.creditLimit
    s.saveUnits =
      [SaveUnit.start config, SaveUnit.crc] ++ part 2 3 16 20 ++ part 3 2 256 16 ++
        part 4 1 128 19 ++ part 5 4 512 6) ∧
  (∀ (k : Bank) (i table len tag n : Nat),
    (table ≠ 2 → savedEntry k table i = k.encodeEntry table i) ∧
    ((k.item i).state = .withdrawn → savedEntry k 2 i = encodeItem (k.item i)) ∧
    ((k.item i).state ≠ .withdrawn →
      savedEntry k 2 i = encodeItem { k.item i with state := .available }) ∧
    imageHeader len tag n = [0x4D, 0x45, 0x4E, 0x55] ++ beBytes 4 len ++ beBytes 2 tag ++ beBytes 1 n) ∧
  (∀ (k : Bank) (j : SaveJob) (table i : Nat) (bs : List Byte),
    let started := formUnit k (.start bs) j
    let entered := formUnit k (.entry table i) j
    (started.page = j.page ++ bs ∧ started.crc = crc16 bs) ∧
    (entered.page = j.page ++ savedEntry k table i ∧
      entered.crc = crcMore j.crc (savedEntry k table i)) ∧
    (formUnit k .crc j).page = j.page ++ crcBytes j.crc) ∧
  ∀ (s : State) (j : SaveJob), s.nothingDue = true → s.loading = false → s.scene.phase = .saving →
    s.store.save = some j → j.seeded = true →
    let r := saveAll s.stagingBank j s.store.flash
    (∀ area rest, j.areas = area :: rest → s.cache.nextGrant = none → s.uploadEligible = false →
      let opening : List Byte :=
        if j.sector = 0 then [6, 0, 0x10, 0, 4] ++ beBytes 2 (area * 1024) ++ [4, 0] else []
      let bytes := memReadBytes 0 s.library.mem (area * 1048576 + j.sector * 256) 256
      ∃ t j', exec .saveReadGrant s = .next t ∧ t = s.nextTick.saveSector j area rest ∧
        t.library = s.library ∧ t.cache = s.cache ∧ t.scene = s.scene ∧ t.tables = s.tables ∧
        t.store.save = some j' ∧ j'.nAreas = j.nAreas ∧ j'.addr = r.1.addr ∧ t.store.flash = r.2 ∧
        (j.sector + 1 < 4096 →
          j'.sector = j.sector + 1 ∧ j'.areas = area :: rest ∧
          j'.page = r.1.page ++ opening ++ bytes) ∧
        (j.sector + 1 = 4096 →
          j'.sector = 0 ∧ j'.areas = rest ∧
          j'.page = r.1.page ++ bytes ++ crcBytes (crcMore r.1.crc bytes))) ∧
    (j.areas = [] →
      ∃ t, exec .saveCompletion s = .next t ∧ t = s.nextTick.saveEnds j ∧
        t.store.state = .loaded ∧ t.store.save = none ∧ t.scene = { s.scene with phase := .settled } ∧
        t.tables = s.tables ∧ t.library = s.library ∧ t.cache = s.cache ∧ t.status = s.status ∧
        (memWf flashFill s.store.flash = true → 11 ≤ j.addr →
          (∀ a, a < 11 → s.flashByte a = 0xFF) →
          ∀ i, i < 11 →
            t.flashByte i =
              (imageHeader (r.1.addr + r.1.page.length) s.scene.tag (5 + j.nAreas)).getD i 0))

/-- R178 and R162: STORE_PROTECT on the copy of the marks, and its page program at its end, which reaches no other
byte of the store. That a mask naming no block begins a page program too is the model's choice (log 32), and so is
that BUSY comes before the STORE_FAULT of a part with no store (log 34). -/
def Obligations.StoreProtectClearsMarks : Prop :=
  (∀ (s : State) (named : BitVec 16) (q : List TableCmd), s.quiet = true → s.engineBusy = false →
    s.scene.tableQ = .storeProtect named :: q →
    let busy := s.store.protectJob ≠ none ∨ s.status.storeRead ≠ none
    (busy → exec .storeProtect s = .next (s.takeHead.refuse 0x18 .busy 0 0)) ∧
    (¬busy → s.straps.blocks = 0 → exec .storeProtect s = .next (s.takeHead.raise .storeFault)) ∧
    (¬busy → s.straps.blocks ≠ 0 →
      ∃ t, exec .storeProtect s = .next t ∧ t.scene = { s.scene with tableQ := q } ∧
        t.status = s.status ∧ t.tables = s.tables ∧ t.library = s.library ∧
        t.store.flash = s.store.flash ∧ t.store.state = s.store.state ∧
        t.store.protectJob = some named ∧
        ∀ b, b < 16 →
          t.store.writeMarks.getLsbD b = (s.store.writeMarks.getLsbD b && !named.getLsbD b) ∧
          t.store.readMarks.getLsbD b =
            (s.store.readMarks.getLsbD b && !(named.getLsbD b && !s.store.writeMarks.getLsbD b)))) ∧
  ∀ (s : State) (named : BitVec 16), s.quiet = true → s.memoryLaw → s.straps.blocks ≠ 0 →
    s.store.protectJob = some named →
    ∃ t, exec .protectProgramCompletion s = .next t ∧ t.store.protectJob = none ∧
      t.store.writeMarks = s.store.writeMarks ∧ t.store.readMarks = s.store.readMarks ∧
      t.scene = s.scene ∧ t.status = s.status ∧ t.tables = s.tables ∧ t.library = s.library ∧
      (∀ b, b < 16 → named.getLsbD b = true →
        ∃ byte : Byte,
          byte.getLsbD 7 = s.store.writeMarks.getLsbD b ∧ byte.getLsbD 6 = s.store.readMarks.getLsbD b ∧
          (∀ i, i < 6 → byte.getLsbD i = true) ∧
          t.flashByte (s.straps.blocks * 1048576 - 16 + b) =
            s.flashByte (s.straps.blocks * 1048576 - 16 + b) &&& byte) ∧
      ∀ a, (∀ b, b < 16 → named.getLsbD b = true → a ≠ s.straps.blocks * 1048576 - 16 + b) →
        t.flashByte a = s.flashByte a

/-- R177 and R178: a store program time-out stops a save in SETTLED with the store UNPROGRAMMED, and a protect program
with the copy keeping its marks; programming can only clear bits. How far a stopped program or erase had reached is
free (log 17, log 30); the pages programmed before it stand. -/
def Obligations.ProgramTimeoutSetsStoreFault : Prop :=
  (∀ (s : State) (j : SaveJob), s.nothingDue = true → s.loading = false → s.scene.phase = .saving →
    s.store.save = some j → j.seeded = true →
    ∃ t, exec .storeProgramTimeout s = .next t ∧ t.flagged .storeFault = true ∧
      t.scene = { s.scene with phase := .settled } ∧ t.store.save = none ∧
      t.store.state = s.store.state ∧ t.tables = s.tables ∧ t.library = s.library ∧
      t.status.refusal = s.status.refusal ∧ ∀ a, a < j.addr → t.flashByte a = s.flashByte a) ∧
  ∀ (s : State) (named : BitVec 16), s.quiet = true → s.memoryLaw → s.scene.phase ≠ .saving →
    s.store.protectJob = some named →
    ∃ t, exec .storeProgramTimeout s = .next t ∧ t.flagged .storeFault = true ∧
      t.store.protectJob = none ∧ t.store.writeMarks = s.store.writeMarks ∧
      t.store.readMarks = s.store.readMarks ∧ t.scene = s.scene ∧ t.tables = s.tables ∧
      t.library = s.library ∧
      (∀ a, t.flashByte a &&& s.flashByte a = t.flashByte a) ∧
      ∀ a, (∀ b, b < 16 → named.getLsbD b = true → a ≠ recordAddr s.straps.blocks b) →
        t.flashByte a = s.flashByte a
end

