-- ==== Sys2Proof/Laws/Memory.lean ====
section
/-! SUPPORT. The laws of the byte memories: what a read gives after a write, and that every operation keeps
the canonical form. -/

namespace Sys2Proof.Machine

/-! ### Reading and writing one byte -/

/-- A write leaves every other address as it was, in any list. -/
theorem memRead_memWrite_ne (d : Byte) (m : List Host.Cell) (a c : Nat) (b : Byte) (h : c ≠ a) :
    memRead d (memWrite d m a b) c = memRead d m c := by
  induction m with
  | nil => by_cases hb : b = d <;> simp [memWrite, memRead, hb, h]
  | cons q m ih =>
    obtain ⟨k, v⟩ := q
    simp only [memWrite]
    split
    · split <;> simp [memRead, h]
    · split
      · rename_i _ hak
        subst hak
        split <;> simp [memRead, h]
      · simp only [memRead]
        split
        · rfl
        · exact ih

/-- An address below every listed one reads as the fill. -/
theorem memRead_of_lt (d : Byte) (m : List Host.Cell) (a : Nat) (h : ∀ c ∈ m, a < c.1) :
    memRead d m a = d := by
  induction m with
  | nil => rfl
  | cons q m ih =>
    obtain ⟨k, v⟩ := q
    have hk : a < k := h (k, v) (List.mem_cons_self ..)
    have ha : a ≠ k := by omega
    simp only [memRead, if_neg ha]
    exact ih fun c hc => h c (List.mem_cons_of_mem _ hc)

/-- The canonical form, entry by entry. -/
theorem memWf_cons (d : Byte) (k : Nat) (v : Byte) (m : List Host.Cell) :
    memWf d ((k, v) :: m) = true ↔ v ≠ d ∧ (∀ c ∈ m, k < c.1) ∧ memWf d m = true := by
  simp [memWf, and_assoc]

/-- In a memory in canonical form, the address written reads as the byte written. -/
theorem memRead_memWrite_self (d : Byte) (m : List Host.Cell) (a : Nat) (b : Byte)
    (h : memWf d m = true) : memRead d (memWrite d m a b) a = b := by
  induction m with
  | nil => by_cases hb : b = d <;> simp [memWrite, memRead, hb]
  | cons q m ih =>
    obtain ⟨k, v⟩ := q
    obtain ⟨_, hlt, hwf⟩ := (memWf_cons d k v m).1 h
    simp only [memWrite]
    split
    · rename_i hak
      split
      · rename_i hb
        have : a ≠ k := by omega
        simp only [memRead, if_neg this]
        rw [hb]
        exact memRead_of_lt d m a fun c hc => lt_trans hak (hlt c hc)
      · simp [memRead]
    · split
      · rename_i _ hak
        subst hak
        split
        · rename_i hb
          rw [hb]
          exact memRead_of_lt d m a hlt
        · simp [memRead]
      · rename_i hne
        simp only [memRead, if_neg hne]
        exact ih hwf

/-- The addresses of a memory after a write. -/
theorem mem_memWrite (d : Byte) (m : List Host.Cell) (a : Nat) (b : Byte) (c : Host.Cell)
    (h : c ∈ memWrite d m a b) : c = (a, b) ∨ c ∈ m := by
  induction m with
  | nil =>
    simp only [memWrite] at h
    split at h <;> simp_all
  | cons q m ih =>
    obtain ⟨k, v⟩ := q
    simp only [memWrite] at h
    split at h
    · split at h
      · exact .inr h
      · simpa using h
    · split at h
      · split at h
        · exact .inr (List.mem_cons_of_mem _ h)
        · rcases List.mem_cons.1 h with h | h
          · exact .inl h
          · exact .inr (List.mem_cons_of_mem _ h)
      · rcases List.mem_cons.1 h with h | h
        · exact .inr (h ▸ List.mem_cons_self ..)
        · exact (ih h).imp_right (List.mem_cons_of_mem _)

/-- A write keeps the canonical form. -/
theorem memWf_memWrite (d : Byte) (m : List Host.Cell) (a : Nat) (b : Byte) (h : memWf d m = true) :
    memWf d (memWrite d m a b) = true := by
  induction m with
  | nil => by_cases hb : b = d <;> simp [memWrite, memWf, hb]
  | cons q m ih =>
    obtain ⟨k, v⟩ := q
    obtain ⟨hv, hlt, hwf⟩ := (memWf_cons d k v m).1 h
    simp only [memWrite]
    split
    · rename_i hak
      split
      · exact h
      · rename_i hb
        refine (memWf_cons ..).2 ⟨hb, ?_, h⟩
        intro c hc
        rcases List.mem_cons.1 hc with rfl | hc
        · exact hak
        · exact lt_trans hak (hlt c hc)
    · split
      · rename_i _ hak
        subst hak
        split
        · exact hwf
        · rename_i hb
          exact (memWf_cons ..).2 ⟨hb, hlt, hwf⟩
      · rename_i hnlt hne
        refine (memWf_cons ..).2 ⟨hv, ?_, ih hwf⟩
        intro c hc
        rcases mem_memWrite d m a b c hc with rfl | hc
        · omega
        · exact hlt c hc

/-! ### Several bytes -/

/-- Writing bytes keeps the canonical form. -/
theorem memWf_memWriteBytes (d : Byte) (bs : List Byte) (m : List Host.Cell) (a : Nat)
    (h : memWf d m = true) : memWf d (memWriteBytes d m a bs) = true := by
  induction bs generalizing m a with
  | nil => exact h
  | cons b bs ih => exact ih _ _ (memWf_memWrite d m a b h)

/-- Writing bytes leaves every address outside them as it was. -/
theorem memRead_memWriteBytes_out (d : Byte) (bs : List Byte) (m : List Host.Cell) (a c : Nat)
    (h : c < a ∨ a + bs.length ≤ c) : memRead d (memWriteBytes d m a bs) c = memRead d m c := by
  induction bs generalizing m a with
  | nil => rfl
  | cons b bs ih =>
    simp only [List.length_cons] at h
    rw [memWriteBytes, ih _ _ (by omega), memRead_memWrite_ne _ _ _ _ _ (by omega)]

/-- In a memory in canonical form, each address of the bytes written reads as its byte. -/
theorem memRead_memWriteBytes_in (d : Byte) (bs : List Byte) (m : List Host.Cell) (a i : Nat)
    (h : memWf d m = true) (hi : i < bs.length) :
    memRead d (memWriteBytes d m a bs) (a + i) = bs[i] := by
  induction bs generalizing m a i with
  | nil => simp at hi
  | cons b bs ih =>
    cases i with
    | zero =>
      rw [memWriteBytes, memRead_memWriteBytes_out _ _ _ _ _ (by omega)]
      simpa using memRead_memWrite_self d m a b h
    | succ i =>
      have := ih (memWrite d m a b) (a + 1) i (memWf_memWrite d m a b h) (by simpa using hi)
      rw [memWriteBytes, show a + (i + 1) = a + 1 + i by omega, this]
      simp

/-! ### The serial store -/

/-- An erase keeps the canonical form. -/
theorem memWf_flashErase (m : List Host.Cell) (a : Nat) (h : memWf flashFill m = true) :
    memWf flashFill (flashErase m a) = true := by
  induction m with
  | nil => rfl
  | cons q m ih =>
    obtain ⟨k, v⟩ := q
    obtain ⟨hv, hlt, hwf⟩ := (memWf_cons _ k v m).1 h
    unfold flashErase
    rw [List.filter_cons]
    split
    · refine (memWf_cons ..).2 ⟨hv, ?_, ih hwf⟩
      intro c hc
      exact hlt c (List.mem_filter.1 hc).1
    · exact ih hwf

/-- An erase: FF hex in the sector of the address, every other byte as it was (R172). -/
theorem memRead_flashErase (m : List Host.Cell) (a c : Nat) :
    memRead flashFill (flashErase m a) c =
      if c / 4096 = a / 4096 then flashFill else memRead flashFill m c := by
  induction m with
  | nil => simp [flashErase, memRead]
  | cons q m ih =>
    obtain ⟨k, v⟩ := q
    unfold flashErase at ih ⊢
    rw [List.filter_cons]
    by_cases hk : k / 4096 = a / 4096
    · simp only [hk, ne_eq, not_true_eq_false, decide_false, Bool.false_eq_true, if_false]
      rw [ih]
      by_cases hc : c / 4096 = a / 4096
      · simp [hc]
      · have : c ≠ k := by rintro rfl; exact hc hk
        simp [hc, memRead, this]
    · simp only [hk, ne_eq, not_false_eq_true, decide_true, if_true, memRead]
      split
      · rename_i hck
        subst hck
        simp [hk]
      · exact ih

/-- A page program keeps the canonical form. -/
theorem memWf_flashProgramByte (m : List Host.Cell) (a : Nat) (b : Byte) (h : memWf flashFill m = true) :
    memWf flashFill (flashProgramByte m a b) = true := memWf_memWrite _ _ _ _ h

/-- Bytes of a page program keep the canonical form. -/
theorem memWf_flashProgramPage (bs : List Byte) (m : List Host.Cell) (a : Nat)
    (h : memWf flashFill m = true) : memWf flashFill (flashProgramPage m a bs) = true := by
  induction bs generalizing m a with
  | nil => exact h
  | cons b bs ih => exact ih _ _ (memWf_flashProgramByte _ _ _ h)

/-- A page program leaves every byte outside its bytes as it was. -/
theorem memRead_flashProgramPage_out (bs : List Byte) (m : List Host.Cell) (a c : Nat)
    (h : c < a ∨ a + bs.length ≤ c) :
    memRead flashFill (flashProgramPage m a bs) c = memRead flashFill m c := by
  induction bs generalizing m a with
  | nil => rfl
  | cons b bs ih =>
    simp only [List.length_cons] at h
    rw [flashProgramPage, ih _ _ (by omega), flashProgramByte, memRead_memWrite_ne _ _ _ _ _ (by omega)]

/-- A page program clears, at each of its bytes, the bits that are 0 in the byte given (R172). -/
theorem memRead_flashProgramPage_in (bs : List Byte) (m : List Host.Cell) (a i : Nat)
    (h : memWf flashFill m = true) (hi : i < bs.length) :
    memRead flashFill (flashProgramPage m a bs) (a + i) = memRead flashFill m (a + i) &&& bs[i] := by
  induction bs generalizing m a i with
  | nil => simp at hi
  | cons b bs ih =>
    rw [flashProgramPage]
    cases i with
    | zero =>
      rw [memRead_flashProgramPage_out _ _ _ _ (by omega)]
      simpa [flashProgramByte] using memRead_memWrite_self flashFill m a (memRead flashFill m a &&& b) h
    | succ i =>
      have hb : i < bs.length := by simpa using hi
      rw [show a + (i + 1) = a + 1 + i by omega, ih _ _ i (memWf_flashProgramByte _ _ _ h) hb]
      simp only [flashProgramByte, List.getElem_cons_succ]
      rw [memRead_memWrite_ne _ _ _ _ _ (by omega)]

/-- A page program of a save keeps the canonical form. -/
theorem memWf_flashWritePage (bs : List Byte) (m : List Host.Cell) (a : Nat)
    (h : memWf flashFill m = true) : memWf flashFill (flashWritePage m a bs) = true := by
  unfold flashWritePage
  apply memWf_flashProgramPage
  split
  · exact memWf_flashErase _ _ h
  · exact h

/-- A page program that stops keeps the canonical form. -/
theorem memWf_flashStopPage (n : Nat) (bs : List Byte) (m : List Host.Cell) (a : Nat)
    (h : memWf flashFill m = true) : memWf flashFill (flashStopPage n m a bs) = true := by
  unfold flashStopPage
  split
  · exact memWf_memWriteBytes _ _ _ _ h
  · exact memWf_flashProgramPage _ _ _ h

/-- The bytes of a sector read back one by one. -/
theorem memReadBytes_length (d : Byte) (m : List Host.Cell) (a n : Nat) :
    (memReadBytes d m a n).length = n := by
  induction n generalizing a with
  | zero => rfl
  | succ n ih => simp [memReadBytes, ih]

/-- Two memories that read alike over a range give the same bytes. -/
theorem memReadBytes_congr (d : Byte) (m m' : List Host.Cell) (a n : Nat)
    (h : ∀ c, a ≤ c → c < a + n → memRead d m c = memRead d m' c) :
    memReadBytes d m a n = memReadBytes d m' a n := by
  induction n generalizing a with
  | zero => rfl
  | succ n ih =>
    rw [memReadBytes, memReadBytes, h a (le_refl a) (by omega),
      ih (a + 1) fun c h1 h2 => h c (by omega) (by omega)]

/-- The memories of the reset state are in canonical form. -/
theorem reset_memories_wf :
    memWf libraryFill State.reset.library.mem = true ∧ memWf flashFill State.reset.store.flash = true :=
  ⟨rfl, rfl⟩

end Sys2Proof.Machine
end

