-- ==== Sys2Proof/Laws/State.lean ====
section
/-! SUPPORT. One lemma for each field that a named update of the state leaves as it was, so that no later
proof unfolds a record update; and the fields that it writes. -/

namespace Sys2Proof.Machine

variable (s : State)

/-! ### raise -/

@[simp] theorem State.raise_pending (f : Flag) : (s.raise f).pending = s.pending := rfl
@[simp] theorem State.raise_straps (f : Flag) : (s.raise f).straps = s.straps := rfl
@[simp] theorem State.raise_raster (f : Flag) : (s.raise f).raster = s.raster := rfl
@[simp] theorem State.raise_panel (f : Flag) : (s.raise f).panel = s.panel := rfl
@[simp] theorem State.raise_tables (f : Flag) : (s.raise f).tables = s.tables := rfl
@[simp] theorem State.raise_scene (f : Flag) : (s.raise f).scene = s.scene := rfl
@[simp] theorem State.raise_builder (f : Flag) : (s.raise f).builder = s.builder := rfl
@[simp] theorem State.raise_cache (f : Flag) : (s.raise f).cache = s.cache := rfl
@[simp] theorem State.raise_library (f : Flag) : (s.raise f).library = s.library := rfl
@[simp] theorem State.raise_group (f : Flag) : (s.raise f).group = s.group := rfl
@[simp] theorem State.raise_store (f : Flag) : (s.raise f).store = s.store := rfl
@[simp] theorem State.raise_tick (f : Flag) : (s.raise f).tick = s.tick := rfl

/-! ### refuse -/

@[simp] theorem State.refuse_pending (p : Nat) (w : Reason) (t i : Nat) : (s.refuse p w t i).pending = s.pending := rfl
@[simp] theorem State.refuse_straps (p : Nat) (w : Reason) (t i : Nat) : (s.refuse p w t i).straps = s.straps := rfl
@[simp] theorem State.refuse_raster (p : Nat) (w : Reason) (t i : Nat) : (s.refuse p w t i).raster = s.raster := rfl
@[simp] theorem State.refuse_panel (p : Nat) (w : Reason) (t i : Nat) : (s.refuse p w t i).panel = s.panel := rfl
@[simp] theorem State.refuse_tables (p : Nat) (w : Reason) (t i : Nat) : (s.refuse p w t i).tables = s.tables := rfl
@[simp] theorem State.refuse_scene (p : Nat) (w : Reason) (t i : Nat) : (s.refuse p w t i).scene = s.scene := rfl
@[simp] theorem State.refuse_builder (p : Nat) (w : Reason) (t i : Nat) : (s.refuse p w t i).builder = s.builder := rfl
@[simp] theorem State.refuse_cache (p : Nat) (w : Reason) (t i : Nat) : (s.refuse p w t i).cache = s.cache := rfl
@[simp] theorem State.refuse_library (p : Nat) (w : Reason) (t i : Nat) : (s.refuse p w t i).library = s.library := rfl
@[simp] theorem State.refuse_group (p : Nat) (w : Reason) (t i : Nat) : (s.refuse p w t i).group = s.group := rfl
@[simp] theorem State.refuse_store (p : Nat) (w : Reason) (t i : Nat) : (s.refuse p w t i).store = s.store := rfl
@[simp] theorem State.refuse_tick (p : Nat) (w : Reason) (t i : Nat) : (s.refuse p w t i).tick = s.tick := rfl

/-! ### clearFlags -/

@[simp] theorem State.clearFlags_pending (m : BitVec 24) : (s.clearFlags m).pending = s.pending := rfl
@[simp] theorem State.clearFlags_straps (m : BitVec 24) : (s.clearFlags m).straps = s.straps := rfl
@[simp] theorem State.clearFlags_raster (m : BitVec 24) : (s.clearFlags m).raster = s.raster := rfl
@[simp] theorem State.clearFlags_panel (m : BitVec 24) : (s.clearFlags m).panel = s.panel := rfl
@[simp] theorem State.clearFlags_tables (m : BitVec 24) : (s.clearFlags m).tables = s.tables := rfl
@[simp] theorem State.clearFlags_scene (m : BitVec 24) : (s.clearFlags m).scene = s.scene := rfl
@[simp] theorem State.clearFlags_builder (m : BitVec 24) : (s.clearFlags m).builder = s.builder := rfl
@[simp] theorem State.clearFlags_cache (m : BitVec 24) : (s.clearFlags m).cache = s.cache := rfl
@[simp] theorem State.clearFlags_library (m : BitVec 24) : (s.clearFlags m).library = s.library := rfl
@[simp] theorem State.clearFlags_group (m : BitVec 24) : (s.clearFlags m).group = s.group := rfl
@[simp] theorem State.clearFlags_store (m : BitVec 24) : (s.clearFlags m).store = s.store := rfl
@[simp] theorem State.clearFlags_tick (m : BitVec 24) : (s.clearFlags m).tick = s.tick := rfl

/-! ### nextTick -/

@[simp] theorem State.nextTick_pending : s.nextTick.pending = s.pending := rfl
@[simp] theorem State.nextTick_straps : s.nextTick.straps = s.straps := rfl
@[simp] theorem State.nextTick_raster : s.nextTick.raster = s.raster := rfl
@[simp] theorem State.nextTick_panel : s.nextTick.panel = s.panel := rfl
@[simp] theorem State.nextTick_tables : s.nextTick.tables = s.tables := rfl
@[simp] theorem State.nextTick_scene : s.nextTick.scene = s.scene := rfl
@[simp] theorem State.nextTick_builder : s.nextTick.builder = s.builder := rfl
@[simp] theorem State.nextTick_cache : s.nextTick.cache = s.cache := rfl
@[simp] theorem State.nextTick_library : s.nextTick.library = s.library := rfl
@[simp] theorem State.nextTick_group : s.nextTick.group = s.group := rfl
@[simp] theorem State.nextTick_status : s.nextTick.status = s.status := rfl
@[simp] theorem State.nextTick_store : s.nextTick.store = s.store := rfl

/-! ### setActive -/

@[simp] theorem State.setActive_pending (k : Bank) : (s.setActive k).pending = s.pending := rfl
@[simp] theorem State.setActive_straps (k : Bank) : (s.setActive k).straps = s.straps := rfl
@[simp] theorem State.setActive_raster (k : Bank) : (s.setActive k).raster = s.raster := rfl
@[simp] theorem State.setActive_panel (k : Bank) : (s.setActive k).panel = s.panel := rfl
@[simp] theorem State.setActive_scene (k : Bank) : (s.setActive k).scene = s.scene := rfl
@[simp] theorem State.setActive_builder (k : Bank) : (s.setActive k).builder = s.builder := rfl
@[simp] theorem State.setActive_cache (k : Bank) : (s.setActive k).cache = s.cache := rfl
@[simp] theorem State.setActive_library (k : Bank) : (s.setActive k).library = s.library := rfl
@[simp] theorem State.setActive_group (k : Bank) : (s.setActive k).group = s.group := rfl
@[simp] theorem State.setActive_status (k : Bank) : (s.setActive k).status = s.status := rfl
@[simp] theorem State.setActive_store (k : Bank) : (s.setActive k).store = s.store := rfl
@[simp] theorem State.setActive_tick (k : Bank) : (s.setActive k).tick = s.tick := rfl

/-! ### setStaging -/

@[simp] theorem State.setStaging_pending (k : Bank) : (s.setStaging k).pending = s.pending := rfl
@[simp] theorem State.setStaging_straps (k : Bank) : (s.setStaging k).straps = s.straps := rfl
@[simp] theorem State.setStaging_raster (k : Bank) : (s.setStaging k).raster = s.raster := rfl
@[simp] theorem State.setStaging_panel (k : Bank) : (s.setStaging k).panel = s.panel := rfl
@[simp] theorem State.setStaging_scene (k : Bank) : (s.setStaging k).scene = s.scene := rfl
@[simp] theorem State.setStaging_builder (k : Bank) : (s.setStaging k).builder = s.builder := rfl
@[simp] theorem State.setStaging_cache (k : Bank) : (s.setStaging k).cache = s.cache := rfl
@[simp] theorem State.setStaging_library (k : Bank) : (s.setStaging k).library = s.library := rfl
@[simp] theorem State.setStaging_group (k : Bank) : (s.setStaging k).group = s.group := rfl
@[simp] theorem State.setStaging_status (k : Bank) : (s.setStaging k).status = s.status := rfl
@[simp] theorem State.setStaging_store (k : Bank) : (s.setStaging k).store = s.store := rfl
@[simp] theorem State.setStaging_tick (k : Bank) : (s.setStaging k).tick = s.tick := rfl

/-! ### takeHead -/

@[simp] theorem State.takeHead_pending : s.takeHead.pending = s.pending := rfl
@[simp] theorem State.takeHead_straps : s.takeHead.straps = s.straps := rfl
@[simp] theorem State.takeHead_raster : s.takeHead.raster = s.raster := rfl
@[simp] theorem State.takeHead_panel : s.takeHead.panel = s.panel := rfl
@[simp] theorem State.takeHead_tables : s.takeHead.tables = s.tables := rfl
@[simp] theorem State.takeHead_builder : s.takeHead.builder = s.builder := rfl
@[simp] theorem State.takeHead_cache : s.takeHead.cache = s.cache := rfl
@[simp] theorem State.takeHead_library : s.takeHead.library = s.library := rfl
@[simp] theorem State.takeHead_group : s.takeHead.group = s.group := rfl
@[simp] theorem State.takeHead_status : s.takeHead.status = s.status := rfl
@[simp] theorem State.takeHead_store : s.takeHead.store = s.store := rfl
@[simp] theorem State.takeHead_tick : s.takeHead.tick = s.tick := rfl

/-! ### enter -/

@[simp] theorem State.enter_pending (p : Phase) : (s.enter p).pending = s.pending := rfl
@[simp] theorem State.enter_straps (p : Phase) : (s.enter p).straps = s.straps := rfl
@[simp] theorem State.enter_raster (p : Phase) : (s.enter p).raster = s.raster := rfl
@[simp] theorem State.enter_panel (p : Phase) : (s.enter p).panel = s.panel := rfl
@[simp] theorem State.enter_tables (p : Phase) : (s.enter p).tables = s.tables := rfl
@[simp] theorem State.enter_builder (p : Phase) : (s.enter p).builder = s.builder := rfl
@[simp] theorem State.enter_cache (p : Phase) : (s.enter p).cache = s.cache := rfl
@[simp] theorem State.enter_library (p : Phase) : (s.enter p).library = s.library := rfl
@[simp] theorem State.enter_group (p : Phase) : (s.enter p).group = s.group := rfl
@[simp] theorem State.enter_status (p : Phase) : (s.enter p).status = s.status := rfl
@[simp] theorem State.enter_store (p : Phase) : (s.enter p).store = s.store := rfl
@[simp] theorem State.enter_tick (p : Phase) : (s.enter p).tick = s.tick := rfl

/-! ### commit -/

@[simp] theorem State.commit_pending : s.commit.pending = s.pending := rfl
@[simp] theorem State.commit_straps : s.commit.straps = s.straps := rfl
@[simp] theorem State.commit_raster : s.commit.raster = s.raster := rfl
@[simp] theorem State.commit_panel : s.commit.panel = s.panel := rfl
@[simp] theorem State.commit_tables : s.commit.tables = s.tables := rfl
@[simp] theorem State.commit_builder : s.commit.builder = s.builder := rfl
@[simp] theorem State.commit_cache : s.commit.cache = s.cache := rfl
@[simp] theorem State.commit_library : s.commit.library = s.library := rfl
@[simp] theorem State.commit_status : s.commit.status = s.status := rfl
@[simp] theorem State.commit_store : s.commit.store = s.store := rfl
@[simp] theorem State.commit_tick : s.commit.tick = s.tick := rfl

/-! ### beginPulse -/

@[simp] theorem State.beginPulse_pending : s.beginPulse.pending = s.pending := rfl
@[simp] theorem State.beginPulse_straps : s.beginPulse.straps = s.straps := rfl
@[simp] theorem State.beginPulse_raster : s.beginPulse.raster = s.raster := rfl
@[simp] theorem State.beginPulse_panel : s.beginPulse.panel = s.panel := rfl
@[simp] theorem State.beginPulse_tables : s.beginPulse.tables = s.tables := rfl
@[simp] theorem State.beginPulse_scene : s.beginPulse.scene = s.scene := rfl
@[simp] theorem State.beginPulse_builder : s.beginPulse.builder = s.builder := rfl
@[simp] theorem State.beginPulse_cache : s.beginPulse.cache = s.cache := rfl
@[simp] theorem State.beginPulse_library : s.beginPulse.library = s.library := rfl
@[simp] theorem State.beginPulse_status : s.beginPulse.status = s.status := rfl
@[simp] theorem State.beginPulse_store : s.beginPulse.store = s.store := rfl
@[simp] theorem State.beginPulse_tick : s.beginPulse.tick = s.tick := rfl

/-! ### disarm -/

@[simp] theorem State.disarm_pending (p : Phase) : (s.disarm p).pending = s.pending := rfl
@[simp] theorem State.disarm_straps (p : Phase) : (s.disarm p).straps = s.straps := rfl
@[simp] theorem State.disarm_raster (p : Phase) : (s.disarm p).raster = s.raster := rfl
@[simp] theorem State.disarm_panel (p : Phase) : (s.disarm p).panel = s.panel := rfl
@[simp] theorem State.disarm_tables (p : Phase) : (s.disarm p).tables = s.tables := rfl
@[simp] theorem State.disarm_builder (p : Phase) : (s.disarm p).builder = s.builder := rfl
@[simp] theorem State.disarm_cache (p : Phase) : (s.disarm p).cache = s.cache := rfl
@[simp] theorem State.disarm_library (p : Phase) : (s.disarm p).library = s.library := rfl
@[simp] theorem State.disarm_status (p : Phase) : (s.disarm p).status = s.status := rfl
@[simp] theorem State.disarm_store (p : Phase) : (s.disarm p).store = s.store := rfl
@[simp] theorem State.disarm_tick (p : Phase) : (s.disarm p).tick = s.tick := rfl

/-! ### applyConfig -/

@[simp] theorem State.applyConfig_pending (f : ConfigFields) : (s.applyConfig f).pending = s.pending := rfl
@[simp] theorem State.applyConfig_straps (f : ConfigFields) : (s.applyConfig f).straps = s.straps := rfl
@[simp] theorem State.applyConfig_panel (f : ConfigFields) : (s.applyConfig f).panel = s.panel := rfl
@[simp] theorem State.applyConfig_tables (f : ConfigFields) : (s.applyConfig f).tables = s.tables := rfl
@[simp] theorem State.applyConfig_scene (f : ConfigFields) : (s.applyConfig f).scene = s.scene := rfl
@[simp] theorem State.applyConfig_builder (f : ConfigFields) : (s.applyConfig f).builder = s.builder := rfl
@[simp] theorem State.applyConfig_cache (f : ConfigFields) : (s.applyConfig f).cache = s.cache := rfl
@[simp] theorem State.applyConfig_status (f : ConfigFields) : (s.applyConfig f).status = s.status := rfl
@[simp] theorem State.applyConfig_store (f : ConfigFields) : (s.applyConfig f).store = s.store := rfl
@[simp] theorem State.applyConfig_tick (f : ConfigFields) : (s.applyConfig f).tick = s.tick := rfl

/-! ### setStoreState -/

@[simp] theorem State.setStoreState_pending (st : StoreState) : (s.setStoreState st).pending = s.pending := rfl
@[simp] theorem State.setStoreState_straps (st : StoreState) : (s.setStoreState st).straps = s.straps := rfl
@[simp] theorem State.setStoreState_raster (st : StoreState) : (s.setStoreState st).raster = s.raster := rfl
@[simp] theorem State.setStoreState_panel (st : StoreState) : (s.setStoreState st).panel = s.panel := rfl
@[simp] theorem State.setStoreState_tables (st : StoreState) : (s.setStoreState st).tables = s.tables := rfl
@[simp] theorem State.setStoreState_scene (st : StoreState) : (s.setStoreState st).scene = s.scene := rfl
@[simp] theorem State.setStoreState_builder (st : StoreState) : (s.setStoreState st).builder = s.builder := rfl
@[simp] theorem State.setStoreState_cache (st : StoreState) : (s.setStoreState st).cache = s.cache := rfl
@[simp] theorem State.setStoreState_library (st : StoreState) : (s.setStoreState st).library = s.library := rfl
@[simp] theorem State.setStoreState_group (st : StoreState) : (s.setStoreState st).group = s.group := rfl
@[simp] theorem State.setStoreState_status (st : StoreState) : (s.setStoreState st).status = s.status := rfl
@[simp] theorem State.setStoreState_tick (st : StoreState) : (s.setStoreState st).tick = s.tick := rfl

/-! ### setSave -/

@[simp] theorem State.setSave_pending (r : SaveJob × List Host.Cell) : (s.setSave r).pending = s.pending := rfl
@[simp] theorem State.setSave_straps (r : SaveJob × List Host.Cell) : (s.setSave r).straps = s.straps := rfl
@[simp] theorem State.setSave_raster (r : SaveJob × List Host.Cell) : (s.setSave r).raster = s.raster := rfl
@[simp] theorem State.setSave_panel (r : SaveJob × List Host.Cell) : (s.setSave r).panel = s.panel := rfl
@[simp] theorem State.setSave_tables (r : SaveJob × List Host.Cell) : (s.setSave r).tables = s.tables := rfl
@[simp] theorem State.setSave_scene (r : SaveJob × List Host.Cell) : (s.setSave r).scene = s.scene := rfl
@[simp] theorem State.setSave_builder (r : SaveJob × List Host.Cell) : (s.setSave r).builder = s.builder := rfl
@[simp] theorem State.setSave_cache (r : SaveJob × List Host.Cell) : (s.setSave r).cache = s.cache := rfl
@[simp] theorem State.setSave_library (r : SaveJob × List Host.Cell) : (s.setSave r).library = s.library := rfl
@[simp] theorem State.setSave_group (r : SaveJob × List Host.Cell) : (s.setSave r).group = s.group := rfl
@[simp] theorem State.setSave_status (r : SaveJob × List Host.Cell) : (s.setSave r).status = s.status := rfl
@[simp] theorem State.setSave_tick (r : SaveJob × List Host.Cell) : (s.setSave r).tick = s.tick := rfl

/-! ### seeReady -/

@[simp] theorem State.seeReady_pending (b : Bool) : (s.seeReady b).pending = s.pending := rfl
@[simp] theorem State.seeReady_straps (b : Bool) : (s.seeReady b).straps = s.straps := rfl
@[simp] theorem State.seeReady_raster (b : Bool) : (s.seeReady b).raster = s.raster := rfl
@[simp] theorem State.seeReady_panel (b : Bool) : (s.seeReady b).panel = s.panel := rfl
@[simp] theorem State.seeReady_tables (b : Bool) : (s.seeReady b).tables = s.tables := rfl
@[simp] theorem State.seeReady_scene (b : Bool) : (s.seeReady b).scene = s.scene := rfl
@[simp] theorem State.seeReady_builder (b : Bool) : (s.seeReady b).builder = s.builder := rfl
@[simp] theorem State.seeReady_cache (b : Bool) : (s.seeReady b).cache = s.cache := rfl
@[simp] theorem State.seeReady_library (b : Bool) : (s.seeReady b).library = s.library := rfl
@[simp] theorem State.seeReady_status (b : Bool) : (s.seeReady b).status = s.status := rfl
@[simp] theorem State.seeReady_store (b : Bool) : (s.seeReady b).store = s.store := rfl
@[simp] theorem State.seeReady_tick (b : Bool) : (s.seeReady b).tick = s.tick := rfl

/-! ### seeFlip -/

@[simp] theorem State.seeFlip_pending (b : Bool) : (s.seeFlip b).pending = s.pending := rfl
@[simp] theorem State.seeFlip_straps (b : Bool) : (s.seeFlip b).straps = s.straps := rfl
@[simp] theorem State.seeFlip_raster (b : Bool) : (s.seeFlip b).raster = s.raster := rfl
@[simp] theorem State.seeFlip_panel (b : Bool) : (s.seeFlip b).panel = s.panel := rfl
@[simp] theorem State.seeFlip_tables (b : Bool) : (s.seeFlip b).tables = s.tables := rfl
@[simp] theorem State.seeFlip_scene (b : Bool) : (s.seeFlip b).scene = s.scene := rfl
@[simp] theorem State.seeFlip_builder (b : Bool) : (s.seeFlip b).builder = s.builder := rfl
@[simp] theorem State.seeFlip_cache (b : Bool) : (s.seeFlip b).cache = s.cache := rfl
@[simp] theorem State.seeFlip_library (b : Bool) : (s.seeFlip b).library = s.library := rfl
@[simp] theorem State.seeFlip_status (b : Bool) : (s.seeFlip b).status = s.status := rfl
@[simp] theorem State.seeFlip_store (b : Bool) : (s.seeFlip b).store = s.store := rfl
@[simp] theorem State.seeFlip_tick (b : Bool) : (s.seeFlip b).tick = s.tick := rfl

/-! ### blankLine -/

@[simp] theorem State.blankLine_pending : s.blankLine.pending = s.pending := rfl
@[simp] theorem State.blankLine_straps : s.blankLine.straps = s.straps := rfl
@[simp] theorem State.blankLine_raster : s.blankLine.raster = s.raster := rfl
@[simp] theorem State.blankLine_tables : s.blankLine.tables = s.tables := rfl
@[simp] theorem State.blankLine_scene : s.blankLine.scene = s.scene := rfl
@[simp] theorem State.blankLine_builder : s.blankLine.builder = s.builder := rfl
@[simp] theorem State.blankLine_cache : s.blankLine.cache = s.cache := rfl
@[simp] theorem State.blankLine_library : s.blankLine.library = s.library := rfl
@[simp] theorem State.blankLine_group : s.blankLine.group = s.group := rfl
@[simp] theorem State.blankLine_status : s.blankLine.status = s.status := rfl
@[simp] theorem State.blankLine_store : s.blankLine.store = s.store := rfl
@[simp] theorem State.blankLine_tick : s.blankLine.tick = s.tick := rfl

/-! ### closeBuilder -/

@[simp] theorem State.closeBuilder_pending : s.closeBuilder.pending = s.pending := rfl
@[simp] theorem State.closeBuilder_straps : s.closeBuilder.straps = s.straps := rfl
@[simp] theorem State.closeBuilder_raster : s.closeBuilder.raster = s.raster := rfl
@[simp] theorem State.closeBuilder_panel : s.closeBuilder.panel = s.panel := rfl
@[simp] theorem State.closeBuilder_tables : s.closeBuilder.tables = s.tables := rfl
@[simp] theorem State.closeBuilder_scene : s.closeBuilder.scene = s.scene := rfl
@[simp] theorem State.closeBuilder_cache : s.closeBuilder.cache = s.cache := rfl
@[simp] theorem State.closeBuilder_library : s.closeBuilder.library = s.library := rfl
@[simp] theorem State.closeBuilder_group : s.closeBuilder.group = s.group := rfl
@[simp] theorem State.closeBuilder_status : s.closeBuilder.status = s.status := rfl
@[simp] theorem State.closeBuilder_store : s.closeBuilder.store = s.store := rfl
@[simp] theorem State.closeBuilder_tick : s.closeBuilder.tick = s.tick := rfl

/-! ### freezeView -/

@[simp] theorem State.freezeView_pending : s.freezeView.pending = s.pending := rfl
@[simp] theorem State.freezeView_straps : s.freezeView.straps = s.straps := rfl
@[simp] theorem State.freezeView_raster : s.freezeView.raster = s.raster := rfl
@[simp] theorem State.freezeView_panel : s.freezeView.panel = s.panel := rfl
@[simp] theorem State.freezeView_tables : s.freezeView.tables = s.tables := rfl
@[simp] theorem State.freezeView_scene : s.freezeView.scene = s.scene := rfl
@[simp] theorem State.freezeView_cache : s.freezeView.cache = s.cache := rfl
@[simp] theorem State.freezeView_library : s.freezeView.library = s.library := rfl
@[simp] theorem State.freezeView_group : s.freezeView.group = s.group := rfl
@[simp] theorem State.freezeView_status : s.freezeView.status = s.status := rfl
@[simp] theorem State.freezeView_store : s.freezeView.store = s.store := rfl
@[simp] theorem State.freezeView_tick : s.freezeView.tick = s.tick := rfl

/-! ### freeLineBefore -/

@[simp] theorem State.freeLineBefore_pending (y : Nat) : (s.freeLineBefore y).pending = s.pending := rfl
@[simp] theorem State.freeLineBefore_straps (y : Nat) : (s.freeLineBefore y).straps = s.straps := rfl
@[simp] theorem State.freeLineBefore_raster (y : Nat) : (s.freeLineBefore y).raster = s.raster := rfl
@[simp] theorem State.freeLineBefore_panel (y : Nat) : (s.freeLineBefore y).panel = s.panel := rfl
@[simp] theorem State.freeLineBefore_tables (y : Nat) : (s.freeLineBefore y).tables = s.tables := rfl
@[simp] theorem State.freeLineBefore_scene (y : Nat) : (s.freeLineBefore y).scene = s.scene := rfl
@[simp] theorem State.freeLineBefore_cache (y : Nat) : (s.freeLineBefore y).cache = s.cache := rfl
@[simp] theorem State.freeLineBefore_library (y : Nat) : (s.freeLineBefore y).library = s.library := rfl
@[simp] theorem State.freeLineBefore_group (y : Nat) : (s.freeLineBefore y).group = s.group := rfl
@[simp] theorem State.freeLineBefore_status (y : Nat) : (s.freeLineBefore y).status = s.status := rfl
@[simp] theorem State.freeLineBefore_store (y : Nat) : (s.freeLineBefore y).store = s.store := rfl
@[simp] theorem State.freeLineBefore_tick (y : Nat) : (s.freeLineBefore y).tick = s.tick := rfl

/-! ### writeSector -/

@[simp] theorem State.writeSector_pending (t n : Nat) (bs : List Byte) : (s.writeSector t n bs).pending = s.pending := rfl
@[simp] theorem State.writeSector_straps (t n : Nat) (bs : List Byte) : (s.writeSector t n bs).straps = s.straps := rfl
@[simp] theorem State.writeSector_raster (t n : Nat) (bs : List Byte) : (s.writeSector t n bs).raster = s.raster := rfl
@[simp] theorem State.writeSector_panel (t n : Nat) (bs : List Byte) : (s.writeSector t n bs).panel = s.panel := rfl
@[simp] theorem State.writeSector_tables (t n : Nat) (bs : List Byte) : (s.writeSector t n bs).tables = s.tables := rfl
@[simp] theorem State.writeSector_scene (t n : Nat) (bs : List Byte) : (s.writeSector t n bs).scene = s.scene := rfl
@[simp] theorem State.writeSector_builder (t n : Nat) (bs : List Byte) : (s.writeSector t n bs).builder = s.builder := rfl
@[simp] theorem State.writeSector_group (t n : Nat) (bs : List Byte) : (s.writeSector t n bs).group = s.group := rfl
@[simp] theorem State.writeSector_status (t n : Nat) (bs : List Byte) : (s.writeSector t n bs).status = s.status := rfl
@[simp] theorem State.writeSector_store (t n : Nat) (bs : List Byte) : (s.writeSector t n bs).store = s.store := rfl
@[simp] theorem State.writeSector_tick (t n : Nat) (bs : List Byte) : (s.writeSector t n bs).tick = s.tick := rfl

/-! ### popEntry -/

@[simp] theorem State.popEntry_pending (e : StackEntry) (r : List StackEntry) : (s.popEntry e r).pending = s.pending := rfl
@[simp] theorem State.popEntry_straps (e : StackEntry) (r : List StackEntry) : (s.popEntry e r).straps = s.straps := rfl
@[simp] theorem State.popEntry_raster (e : StackEntry) (r : List StackEntry) : (s.popEntry e r).raster = s.raster := rfl
@[simp] theorem State.popEntry_panel (e : StackEntry) (r : List StackEntry) : (s.popEntry e r).panel = s.panel := rfl
@[simp] theorem State.popEntry_tables (e : StackEntry) (r : List StackEntry) : (s.popEntry e r).tables = s.tables := rfl
@[simp] theorem State.popEntry_builder (e : StackEntry) (r : List StackEntry) : (s.popEntry e r).builder = s.builder := rfl
@[simp] theorem State.popEntry_cache (e : StackEntry) (r : List StackEntry) : (s.popEntry e r).cache = s.cache := rfl
@[simp] theorem State.popEntry_library (e : StackEntry) (r : List StackEntry) : (s.popEntry e r).library = s.library := rfl
@[simp] theorem State.popEntry_group (e : StackEntry) (r : List StackEntry) : (s.popEntry e r).group = s.group := rfl
@[simp] theorem State.popEntry_status (e : StackEntry) (r : List StackEntry) : (s.popEntry e r).status = s.status := rfl
@[simp] theorem State.popEntry_store (e : StackEntry) (r : List StackEntry) : (s.popEntry e r).store = s.store := rfl
@[simp] theorem State.popEntry_tick (e : StackEntry) (r : List StackEntry) : (s.popEntry e r).tick = s.tick := rfl

/-! ### dispose -/

@[simp] theorem State.dispose_pending : s.dispose.pending = s.pending := rfl
@[simp] theorem State.dispose_straps : s.dispose.straps = s.straps := rfl
@[simp] theorem State.dispose_raster : s.dispose.raster = s.raster := rfl
@[simp] theorem State.dispose_panel : s.dispose.panel = s.panel := rfl
@[simp] theorem State.dispose_tables : s.dispose.tables = s.tables := rfl
@[simp] theorem State.dispose_builder : s.dispose.builder = s.builder := rfl
@[simp] theorem State.dispose_cache : s.dispose.cache = s.cache := rfl
@[simp] theorem State.dispose_library : s.dispose.library = s.library := rfl
@[simp] theorem State.dispose_group : s.dispose.group = s.group := rfl
@[simp] theorem State.dispose_status : s.dispose.status = s.status := rfl
@[simp] theorem State.dispose_store : s.dispose.store = s.store := rfl
@[simp] theorem State.dispose_tick : s.dispose.tick = s.tick := rfl

/-! ### What they write -/

@[simp] theorem State.refuse_refusal (p : Nat) (w : Reason) (t i : Nat) :
    (s.refuse p w t i).status.refusal = some ⟨p, w.code, t, i⟩ := rfl
@[simp] theorem State.raise_flags (f : Flag) : (s.raise f).status.flags = s.status.flags ||| f.mask := rfl
@[simp] theorem State.raise_refusal (f : Flag) : (s.raise f).status.refusal = s.status.refusal := rfl
@[simp] theorem State.raise_readQ (f : Flag) : (s.raise f).status.readQ = s.status.readQ := rfl
@[simp] theorem State.enter_phase (p : Phase) : (s.enter p).scene.phase = p := rfl
@[simp] theorem State.enter_armed (p : Phase) : (s.enter p).scene.armed = s.scene.armed := rfl
@[simp] theorem State.enter_tableQ (p : Phase) : (s.enter p).scene.tableQ = s.scene.tableQ := rfl
@[simp] theorem State.takeHead_phase : s.takeHead.scene.phase = s.scene.phase := rfl
@[simp] theorem State.takeHead_armed : s.takeHead.scene.armed = s.scene.armed := rfl
@[simp] theorem State.takeHead_tableQ : s.takeHead.scene.tableQ = s.scene.tableQ.tail := rfl
@[simp] theorem State.commit_phase : s.commit.scene.phase = .committed := rfl
@[simp] theorem State.commit_armed : s.commit.scene.armed = s.scene.armed := rfl
@[simp] theorem State.commit_window : s.commit.group.window = none := rfl
@[simp] theorem State.beginPulse_pulse : s.beginPulse.group.pulse = some 8 := rfl
@[simp] theorem State.beginPulse_window : s.beginPulse.group.window = s.group.window := rfl
@[simp] theorem State.disarm_phase (p : Phase) : (s.disarm p).scene.phase = p := rfl
@[simp] theorem State.disarm_armed (p : Phase) : (s.disarm p).scene.armed = none := rfl
@[simp] theorem State.disarm_window (p : Phase) : (s.disarm p).group.window = none := rfl
@[simp] theorem State.freezeView_view :
    s.freezeView.builder.view =
      some ⟨s.tables.active, s.scene.page, s.scene.threshold, s.raster.record.width,
        s.raster.record.height, s.loading⟩ := rfl
@[simp] theorem State.closeBuilder_builder : s.closeBuilder.builder = .atReset := rfl
@[simp] theorem State.setActive_active (k : Bank) : (s.setActive k).tables.active = s.tables.active := by
  unfold State.setActive Tables.setBank; split <;> rfl
@[simp] theorem State.setStaging_active (k : Bank) : (s.setStaging k).tables.active = s.tables.active := by
  unfold State.setStaging Tables.setBank; split <;> rfl
@[simp] theorem State.setActive_activeBank (k : Bank) : (s.setActive k).activeBank = k := by
  unfold State.activeBank State.setActive Tables.setBank Tables.bank
  cases s.tables.active <;> rfl
@[simp] theorem State.setStaging_stagingBank (k : Bank) : (s.setStaging k).stagingBank = k := by
  unfold State.stagingBank State.setStaging Tables.setBank Tables.bank BankId.other
  cases s.tables.active <;> rfl
@[simp] theorem State.setStaging_activeBank (k : Bank) : (s.setStaging k).activeBank = s.activeBank := by
  unfold State.activeBank State.setStaging Tables.setBank Tables.bank BankId.other
  cases s.tables.active <;> rfl

end Sys2Proof.Machine
end

