-- ==== Sys2Proof/Laws/Ops.lean ====
section
/-! SUPPORT. What each shared operation can do, said once: later proofs cite these and do not unfold the
operation. -/

namespace Sys2Proof.Machine

/-! ### Packets and queues -/

/-- Dispatch lengthens one queue that has room by one entry, or sets its flag (R155). -/
theorem dispatch_cases (k : Packet) (s : State) :
    (∃ c, k = .table c ∧ s.scene.tableQ.length < 64 ∧
      dispatch k s = { s with scene := { s.scene with tableQ := s.scene.tableQ ++ [c] } }) ∨
    (∃ c, k = .hot c ∧ s.scene.hotQ.length < 16 ∧
      dispatch k s = { s with scene := { s.scene with hotQ := s.scene.hotQ ++ [c] } }) ∨
    (∃ u, k = .upload u ∧ s.library.uploads.length < 32 ∧
      dispatch k s = { s with library := { s.library with uploads := s.library.uploads ++ [u] } }) ∨
    (∃ r, k = .read r ∧ s.status.readQ.length < 4 ∧
      dispatch k s = { s with status := { s.status with readQ := s.status.readQ ++ [r] } }) ∨
    ∃ f, dispatch k s = s.raise f := by
  cases k with
  | table c =>
    by_cases h : s.scene.tableQ.length < 64
    · exact .inl ⟨c, rfl, h, by simp [dispatch, h]⟩
    · exact .inr (.inr (.inr (.inr ⟨_, by simp [dispatch, h]; rfl⟩)))
  | hot c =>
    by_cases h : s.scene.hotQ.length < 16
    · exact .inr (.inl ⟨c, rfl, h, by simp [dispatch, h]⟩)
    · exact .inr (.inr (.inr (.inr ⟨_, by simp [dispatch, h]; rfl⟩)))
  | upload u =>
    by_cases h : s.library.uploads.length < 32
    · exact .inr (.inr (.inl ⟨u, rfl, h, by simp [dispatch, h]⟩))
    · exact .inr (.inr (.inr (.inr ⟨_, by simp [dispatch, h]; rfl⟩)))
  | read r =>
    by_cases h : s.status.readQ.length < 4
    · exact .inr (.inr (.inr (.inl ⟨r, rfl, h, by simp [dispatch, h]⟩)))
    · exact .inr (.inr (.inr (.inr ⟨_, by simp [dispatch, h]; rfl⟩)))

/-- A packet whose CRC matches is dispatched, or skipped, or sets PACKET_BAD (R154). -/
theorem checkPacket_cases (type target : Nat) (p : List Byte) (s : State) :
    checkPacket type target p s = s ∨ checkPacket type target p s = s.raise .packetBad ∨
      ∃ k, packetOf s.library.uploads.length type p = some k ∧ checkPacket type target p s = dispatch k s := by
  unfold checkPacket
  split
  · split
    · rename_i k hk
      exact .inr (.inr ⟨k, hk, rfl⟩)
    · exact .inr (.inl rfl)
  · exact .inl rfl

/-! ### Flags -/

/-- A flag just raised is set. -/
theorem State.flagged_raise (f : Flag) (s : State) : (s.raise f).flagged f = true := by
  cases f <;> simp [State.flagged, State.raise, Flag.mask, Flag.bit]

/-- A flag that is set stays set when another is raised (R167). -/
theorem State.flagged_raise_mono (f g : Flag) (s : State) (h : s.flagged g = true) :
    (s.raise f).flagged g = true := by
  unfold State.flagged at h ⊢
  simp only [State.raise_flags, BitVec.getLsbD_or, h, Bool.true_or]

/-- Flags that are set stay set when a list is raised (R167). -/
theorem State.flagged_raiseAll_mono (fs : List Flag) (g : Flag) (s : State) (h : s.flagged g = true) :
    (State.raiseAll fs s).flagged g = true := by
  induction fs generalizing s with
  | nil => exact h
  | cons f fs ih => exact ih _ (s.flagged_raise_mono f g h)

/-- Raising flags changes the flags alone. -/
theorem State.raiseAll_eq (fs : List Flag) (s : State) :
    ∃ v, State.raiseAll fs s = { s with status := { s.status with flags := v } } := by
  induction fs generalizing s with
  | nil => exact ⟨s.status.flags, rfl⟩
  | cons f fs ih =>
    obtain ⟨v, hv⟩ := ih (s.raise f)
    exact ⟨v, by rw [State.raiseAll, hv]; rfl⟩

/-! ### Placing samples -/

/-- A sample placed at a column changes the ring at most, or sets OVERLAP_CLIPPED (R58). -/
theorem State.place_cases (line x : Nat) (m : Sample) (s : State) :
    s.place line x m = s ∨ s.place line x m = s.raise .overlapClipped ∨
      ∃ p, placing m (pixelAt (ringPixels s.builder.ring line) x) = .placed p ∧
        s.place line x m = { s with builder := { s.builder with ring := ringSet s.builder.ring line x p } } := by
  unfold State.place
  split
  · exact .inl rfl
  · exact .inr (.inl rfl)
  · rename_i p hp
    exact .inr (.inr ⟨p, hp, rfl⟩)

/-- A placed sample takes the lowest free slot of an open pixel, and closes it where it is opaque (R58). -/
theorem placing_placed (m : Sample) (p q : Pixel) (h : placing m p = .placed q) :
    m.coverage ≠ 0 ∧ p.closed = false ∧ p.slots.length < 4 ∧ q = ⟨p.slots ++ [m], m.coverage == 255⟩ := by
  unfold placing at h
  split at h
  · cases h
  · split at h
    · cases h
    · split at h
      · cases h
      · cases h
        exact ⟨by assumption, by simp_all, by omega, rfl⟩

/-! ### Tile cache -/

/-- A read by the builder, R99: a use of a line that holds the sector, an upgrade of a fill in flight, an
entry for a tile that is present, an entry in a line taken from a victim, or nothing. -/
theorem Cache.read_cases (c : Cache) (t n : Nat) :
    (c.read t n = (c.use t, .hit) ∧ c.valid? t n ≠ none) ∨
    (c.read t n = (c.upgrade t n, .joined) ∧ c.valid? t n = none ∧ c.inFlight t n = true) ∨
    (c.read t n = (c.addFill t n true, .demanded) ∧ c.line? t ≠ none ∧ c.inFlight t n = false ∧
      c.fills.length < 8) ∨
    (∃ ws i, victim (c.ways t) = some (ws, i) ∧ c.line? t = none ∧ c.fills.length < 8 ∧
      c.read t n = ((c.setWays t (ws.set i (.allocated t))).addFill t n true, .demanded)) ∨
    ((c.read t n).1 = c ∧ ((c.read t n).2 = .noRoom ∨ (c.read t n).2 = .noWay)) := by
  unfold Cache.read Cache.valid? Cache.inFlight
  cases hl : c.line? t with
  | some l =>
    simp only
    by_cases hd : (l.slot n).data = none
    · by_cases hf : (l.slot n).inFlight = true
      · simp [hd, hf]
      · by_cases hq : c.fills.length < 8
        · simp [hd, hf, hq]
        · simp [hd, hf, hq]
    · simp [hd]
  | none =>
    simp only
    by_cases hq : 8 ≤ c.fills.length
    · simp [hq]
    · simp only [hq, if_false]
      cases hv : victim (c.ways t) with
      | none => simp
      | some p =>
        obtain ⟨ws, i⟩ := p
        refine .inr (.inr (.inr (.inl ⟨ws, i, rfl, trivial, by omega, rfl⟩)))

/-- A considered prefetch, R108: an entry for a tile that is present, an entry in a free way of counter 0,
or nothing. -/
theorem Cache.prefetch_cases (c : Cache) (t n : Nat) :
    c.prefetch t n = c ∨
    (c.valid? t n = none ∧ c.inFlight t n = false ∧ c.fills.length ≤ 4 ∧
      ((c.line? t ≠ none ∧ c.prefetch t n = c.addFill t n false) ∨
        ∃ i, c.line? t = none ∧ freeZeroWay (c.ways t) = some i ∧
          c.prefetch t n = (c.setWays t ((c.ways t).set i (.allocated t))).addFill t n false)) := by
  unfold Cache.prefetch
  split
  · exact .inl rfl
  · rename_i h
    simp only [not_or, ne_eq, not_not, Bool.not_eq_true, not_lt] at h
    obtain ⟨h1, h2, h3⟩ := h
    split
    · rename_i l hl
      exact .inr ⟨h1, h2, h3, .inl ⟨by simp [hl], rfl⟩⟩
    · rename_i hl
      split
      · exact .inl rfl
      · rename_i i hi
        exact .inr ⟨h1, h2, h3, .inr ⟨i, hl, hi, rfl⟩⟩

/-- The fill that the arbiter chooses is a waiting one. -/
theorem Cache.nextGrant_waiting (c : Cache) (f : Fill) (h : c.nextGrant = some f) :
    f ∈ c.fills ∧ f.granted = false := by
  unfold Cache.nextGrant at h
  split at h
  · rename_i g hg
    cases h
    refine ⟨List.mem_of_find?_eq_some hg, ?_⟩
    have := List.find?_some hg
    simp_all
  · refine ⟨List.mem_of_find?_eq_some h, ?_⟩
    have := List.find?_some h
    simpa using this

/-! ### Frame start and line start at the controllers -/

/-- The group sync unit's frame start, R141, R142: nothing outside ARMED-group; there a count, and for a
leader that reads GRP_READY high a pulse and a commitment. -/
theorem State.groupFrameStart_cases (s : State) :
    (s.scene.phase ≠ .armedGroup ∧ s.groupFrameStart = s) ∨
    (s.scene.phase = .armedGroup ∧
      (s.groupFrameStart = { s with group := { s.group with window := some (s.group.window.getD 0 + 1) } } ∨
        (s.group.role = .leader ∧
          s.groupFrameStart =
            State.commit (State.beginPulse
              { s with group := { s.group with window := some (s.group.window.getD 0 + 1) } })))) := by
  unfold State.groupFrameStart
  split
  · rename_i h
    refine .inr ⟨h, ?_⟩
    simp only
    split
    · rename_i h2
      exact .inr ⟨h2.1, rfl⟩
    · exact .inl rfl
  · rename_i h
    exact .inl ⟨h, rfl⟩

/-- A flip is made only where it is due (R131). -/
theorem State.flipIfDue_cases (s : State) :
    (s.flipDue = true ∧ s.flipIfDue = s.flip) ∨ (s.flipDue = false ∧ s.flipIfDue = s) := by
  unfold State.flipIfDue
  cases h : s.flipDue <;> simp

/-- The pop of a hold timer that has reached 0, R136: made where it is due, of the top entry or, on an empty
stack, as STACK_EMPTY with the timer cleared. -/
theorem State.popIfDue_cases (s : State) :
    (s.holdDue = false ∧ s.popIfDue = s) ∨
      (s.holdDue = true ∧
        ((∃ e rest, s.scene.stack = e :: rest ∧ s.popIfDue = s.popEntry e rest) ∨
          (s.scene.stack = [] ∧
            s.popIfDue = { s.raise .stackEmpty with scene := { s.scene with hold := none } }))) := by
  unfold State.popIfDue
  cases h : s.holdDue
  · exact .inl ⟨rfl, rfl⟩
  · refine .inr ⟨rfl, ?_⟩
    unfold State.holdPop
    cases hs : s.scene.stack with
    | nil => exact .inr ⟨rfl, rfl⟩
    | cons e rest => exact .inl ⟨e, rest, rfl, rfl⟩

/-- An output frame start either waits for PAGE_HOLD_EXPIRY or goes on to scene settled. -/
theorem State.outputFrameStart_cases (src : Source) (s : State) :
    let u := s.beginFrame src
    (u.holdDue = true ∧ s.outputFrameStart src = u) ∨
      (u.holdDue = false ∧ s.outputFrameStart src = u.settleScene) := by
  simp only [State.outputFrameStart]
  split <;> simp_all

/-! ### Return lane and store operations -/

/-- A packet is cut off at some byte, and nothing else is touched but the model's counter (R166). -/
theorem State.cutPacket_cases (s : State) :
    ∃ n k, s.cutPacket =
      { s with tick := k, status := { s.status with lane := [], laneBefore := s.status.lane.take n } } := by
  unfold State.cutPacket
  split
  · rename_i h
    exact ⟨0, s.tick, by simp [h]⟩
  · exact ⟨_, _, rfl⟩

/-- A save that writes goes on by as many pieces as the pace gives, and moves the model's counter; in any other state
nothing changes (R177). -/
theorem State.saveGoesOn_cases (s : State) :
    ((∀ j, s.scene.phase = .saving → s.store.save = some j → j.seeded = false) ∧ s.saveGoesOn = s) ∨
      ∃ j, s.scene.phase = .saving ∧ s.store.save = some j ∧ j.seeded = true ∧
        s.saveGoesOn =
          (s.setSave (saveSome s.stagingBank (Config.storePace s.tick) (j, s.store.flash))).nextTick := by
  unfold State.saveGoesOn
  split
  · rename_i j hp hj
    split
    · rename_i hs
      exact .inr ⟨j, hp, hj, hs, rfl⟩
    · rename_i hs
      exact .inl ⟨fun j' _ h' => by rw [hj] at h'; cases h'; simpa using hs, rfl⟩
  · rename_i h
    exact .inl ⟨fun j hp hj => (h j hp hj).elim, rfl⟩

/-- A save that stops changes the store alone, and the model's counter; no save is then in progress (R177,
R179). -/
theorem State.saveStops_cases (s : State) :
    ∃ k m, s.saveStops = { s with tick := k, store := { s.store with flash := m, save := none } } := by
  unfold State.saveStops
  split
  · rename_i h
    exact ⟨s.tick, s.store.flash, by simp [← h]⟩
  · split
    · exact ⟨_, _, rfl⟩
    · exact ⟨s.tick, s.store.flash, rfl⟩

/-- A protect program that stops changes the record in the store alone, and the model's counter (R178, R179). -/
theorem State.protectStops_cases (s : State) :
    ∃ k m, s.protectStops = { s with tick := k, store := { s.store with flash := m, protectJob := none } } := by
  unfold State.protectStops
  split
  · rename_i h
    exact ⟨s.tick, s.store.flash, by simp [← h]⟩
  · exact ⟨_, _, rfl⟩

/-- Ending the output line in progress leaves the watch computation as the cut makes it and the panel output with
what had been sent, and nothing else is touched but the model's counter (R13, R14, R79, R170). -/
theorem State.cutLine_cases (s : State) :
    ((∀ px, s.panel ≠ ⟨.pixels px, true⟩) ∧ s.cutLine = s) ∨
      ∃ px, s.panel = ⟨.pixels px, true⟩ ∧
        (s.cutLine = { s with tick := s.tick + 1, panel := ⟨.pixels px, false⟩ } ∨
          ∃ sent, sent < px.length ∧
            s.cutLine =
              { s.watchCut sent with
                tick := (s.watchCut sent).tick + 1
                panel := ⟨.cut (px.take sent), false⟩ }) := by
  unfold State.cutLine
  split
  · rename_i px hl hp
    refine .inr ⟨px, by cases h : s.panel; simp_all, ?_⟩
    by_cases hs : px.length ≤ Config.pixelsSent s.tick
    · exact .inl (by simp [hs, State.nextTick])
    · exact .inr ⟨_, Nat.lt_of_not_le hs, by simp [hs, State.nextTick]⟩
  · rename_i h
    exact .inl ⟨fun px hp => h px (by rw [hp]) (by rw [hp]), rfl⟩

/-- A cut touches the watch computation's validity alone (R170). -/
theorem State.watchCut_cases (sent : Nat) (s : State) :
    ∃ r, s.watchCut sent = { s with status := { s.status with watchRun := r } } := by
  unfold State.watchCut
  split
  · exact ⟨s.status.watchRun, rfl⟩
  · split
    · exact ⟨_, rfl⟩
    · exact ⟨s.status.watchRun, rfl⟩

/-- A page of a save is programmed where its bytes lie, and the bytes behind it stay in hand (R177). -/
theorem saveProgram_fields (r : SaveJob × List Host.Cell) :
    (saveProgram r).1.addr = r.1.addr + (r.1.page.take (pageRoom r.1.addr)).length ∧
      (saveProgram r).1.page = r.1.page.drop (pageRoom r.1.addr) ∧
      (saveProgram r).1.units = r.1.units ∧ (saveProgram r).1.crc = r.1.crc ∧
      (saveProgram r).2 = flashWritePage r.2 r.1.addr (r.1.page.take (pageRoom r.1.addr)) := by
  refine ⟨rfl, ?_, rfl, rfl, rfl⟩
  simp only [saveProgram, List.length_take]
  rcases le_total (pageRoom r.1.addr) r.1.page.length with h | h
  · rw [min_eq_left h]
  · rw [min_eq_right h, List.drop_eq_nil_of_le h, List.drop_length]

/-- One piece of a save's work programs a full page, forms a unit, or finds nothing to do (R176, R177). -/
theorem savePiece_cases (k : Bank) (r : SaveJob × List Host.Cell) :
    (r.1.pageFull = true ∧ savePiece k r = saveProgram r) ∨
      (r.1.pageFull = false ∧ r.1.units = [] ∧ savePiece k r = r) ∨
      ∃ u us, r.1.pageFull = false ∧ r.1.units = u :: us ∧
        savePiece k r = (formUnit k u { r.1 with units := us }, r.2) := by
  unfold savePiece
  split
  · exact .inl ⟨‹_›, rfl⟩
  · rename_i h
    split
    · exact .inr (.inl ⟨by simpa using h, ‹_›, rfl⟩)
    · exact .inr (.inr ⟨_, _, by simpa using h, ‹_›, rfl⟩)

end Sys2Proof.Machine
end

