-- ==== Sys2Proof/Laws/Prelude.lean ====
section
/-! SUPPORT. What stands before a command: nothing in a quiet state, and the store controller's own work
alone where no step is due. -/

namespace Sys2Proof.Machine

variable (s : State)

/-- The seven conditions of a state in which nothing is due. -/
theorem State.nothingDue_iff :
    s.nothingDue = true ↔
      s.loadDue = false ∧ s.holdDue = false ∧ s.drainedDue = false ∧ s.creditDue = false ∧ s.pulseDue = false ∧
        s.leaderWindowDue = false ∧ s.memberWindowDue = false := by
  unfold State.nothingDue State.nothingButHoldDue
  cases s.loadDue <;> cases s.holdDue <;> cases s.drainedDue <;> cases s.creditDue <;> cases s.pulseDue <;>
    cases s.leaderWindowDue <;> cases s.memberWindowDue <;> decide

@[simp] theorem State.settleLoad_of_not_due (h : s.loadDue = false) : s.settleLoad = s := by
  simp [State.settleLoad, h]

@[simp] theorem State.settleHold_of_not_due (h : s.holdDue = false) : s.settleHold = s := by
  simp [State.settleHold, h]

@[simp] theorem State.popIfDue_of_not_due (h : s.holdDue = false) : s.popIfDue = s := by
  simp [State.popIfDue, h]

@[simp] theorem State.settleDrained_of_not_due (h : s.drainedDue = false) : s.settleDrained = s := by
  simp [State.settleDrained, h]

@[simp] theorem State.settleCredit_of_not_due (h : s.creditDue = false) : s.settleCredit = s := by
  simp [State.settleCredit, h]

@[simp] theorem State.settlePulse_of_not_due (h : s.pulseDue = false) : s.settlePulse = s := by
  simp [State.settlePulse, h]

@[simp] theorem State.settleLeaderWindow_of_not_due (h : s.leaderWindowDue = false) :
    s.settleLeaderWindow = s := by
  simp [State.settleLeaderWindow, h]

@[simp] theorem State.settleMemberWindow_of_not_due (h : s.memberWindowDue = false) :
    s.settleMemberWindow = s := by
  simp [State.settleMemberWindow, h]

/-- With nothing due, no due step is taken. -/
theorem State.settleDue_of_nothingDue (h : s.nothingDue = true) : s.settleDue = s := by
  obtain ⟨h0, h1, h2, h3, h4, h5, h6⟩ := s.nothingDue_iff.1 h
  simp [State.settleDue, State.settleCounters, h0, h1, h2, h3, h4, h5, h6]

/-- With nothing but a hold expiry due, what stands before a line or frame start of the raster is the store
controller's work. -/
theorem State.rasterPrelude_of_nothingButHoldDue (h : s.nothingButHoldDue = true) :
    s.rasterPrelude = s.background := by
  unfold State.nothingButHoldDue at h
  simp only [Bool.and_eq_true, Bool.not_eq_true'] at h
  obtain ⟨⟨⟨⟨⟨h0, h2⟩, h3⟩, h4⟩, h5⟩, h6⟩ := h
  simp [State.rasterPrelude, State.settleCounters, h0, h2, h3, h4, h5, h6]

/-- With nothing due, what stands before a command is the store controller's work. -/
theorem State.prelude_of_nothingDue (h : s.nothingDue = true) : s.prelude = s.background := by
  rw [State.prelude, s.settleDue_of_nothingDue h]

/-- With the store controller quiet, its work changes nothing. -/
theorem State.background_of_storeQuiet (h : s.storeQuiet = true) : s.background = s := by
  unfold State.storeQuiet at h
  simp only [Bool.and_eq_true, Bool.not_eq_true', bne_iff_ne, ne_eq] at h
  obtain ⟨⟨h1, h2⟩, h3⟩ := h
  unfold State.background State.saveGoesOn
  simp only [h1, Bool.false_eq_true, if_false, h2]
  split
  · rename_i j hp hj
    simp [hp, hj] at h3
    simp [h3]
  · rfl

/-- A quiet state is its own prelude. -/
theorem State.prelude_of_quiet (h : s.quiet = true) : s.prelude = s := by
  unfold State.quiet at h
  rw [Bool.and_eq_true] at h
  rw [s.prelude_of_nothingDue h.1, s.background_of_storeQuiet h.2]

/-- With nothing but a hold expiry due and the store controller quiet, a state is its own prelude of a line or frame
start of the raster. -/
theorem State.rasterPrelude_of_rasterQuiet (h : s.rasterQuiet = true) : s.rasterPrelude = s := by
  unfold State.rasterQuiet at h
  rw [Bool.and_eq_true] at h
  rw [s.rasterPrelude_of_nothingButHoldDue h.1, s.background_of_storeQuiet h.2]

/-- A quiet state is quiet for the raster. -/
theorem State.rasterQuiet_of_quiet (h : s.quiet = true) : s.rasterQuiet = true := by
  unfold State.quiet State.nothingDue at h
  unfold State.rasterQuiet
  simp only [Bool.and_eq_true] at h ⊢
  exact ⟨h.1.1, h.2⟩

/-- A load is never due in a state that is not loading. -/
theorem State.loadDue_of_not_loading (h : s.loading = false) : s.loadDue = false := by
  simp [State.loadDue, h]

/-- A quiet state does not await the page hold timer. -/
theorem State.holdDue_of_quiet (h : s.quiet = true) : s.holdDue = false := by
  unfold State.quiet at h
  rw [Bool.and_eq_true] at h
  exact (s.nothingDue_iff.1 h.1).2.1

/-- A quiet state is not loading. -/
theorem State.loading_of_quiet (h : s.quiet = true) : s.loading = false := by
  unfold State.quiet State.storeQuiet at h
  simp only [Bool.and_eq_true, Bool.not_eq_true'] at h
  exact h.2.1.1

/-! ### Step -/

/-- A step with a command in front runs it with the queue's rest. -/
theorem step_cons (c : Instr) (rest : List Instr) :
    step { s with pending := c :: rest } = exec c { s with pending := rest } := rfl

/-- A step on an empty queue changes nothing. -/
theorem step_nil (h : s.pending = []) : step s = .next s := by
  unfold step
  rw [h]

/-- What a step can answer: the state as it is, or what its front command answers. -/
theorem step_cases (t : State) (h : step s = .next t) :
    (s.pending = [] ∧ t = s) ∨
      ∃ c rest, s.pending = c :: rest ∧ exec c { s with pending := rest } = .next t := by
  unfold step at h
  split at h
  · rename_i hp
    cases h
    exact .inl ⟨hp, rfl⟩
  · rename_i c rest hp
    exact .inr ⟨c, rest, hp, h⟩

end Sys2Proof.Machine
end

