-- ==== Sys2Proof/Tests/Slice0.lean ====
section
/-! SUPPORT. Tests of single steps and operations, with results taken from the spec's tables and worked
examples, and, for every statement that has hypotheses, a witness: a concrete state and operands that meet
them. -/

namespace Sys2Proof.Tests

open Sys2Proof.Machine

set_option Elab.async false

/-! ### Helpers -/

/-- The state a command leads to meets a condition. -/
def leads (c : Instr) (s : State) (p : State → Bool) : Bool :=
  match exec c s with
  | .next t => p t
  | .fault _ | .refused _ => false

/-- After reset, the load over, no view frozen yet: nothing is due. -/
def calm : State :=
  { State.reset with
    builder := .atReset
    store := { State.reset.store with state := .none } }

/-- A fallback frame so many line periods in (R12). -/
def atPeriod (n : Nat) (s : State) : State :=
  { s with raster := { s.raster with linePeriods := n, nextLine := n - 45 } }

/-- Calm, in a scene state. -/
def calmIn (phase : Phase) : State := { calm with scene := { calm.scene with phase := phase } }

/-- Calm, with a command at the head of the table queue, in a scene state. -/
def queued (phase : Phase) (c : TableCmd) : State :=
  { calm with scene := { calm.scene with phase := phase, tableQ := [c] } }

/-- Calm, the output following the input, one complete frame of `lines` lines measured. -/
def lockedAt (lock : Lock) (lines : Nat) : State :=
  { calm with
    raster :=
      { calm.raster with
        lock := lock
        lossTimer := some 100
        measure := some ⟨lines, true, true⟩
        inFrame := some ⟨0, false⟩
        record := ⟨if lock.follows then .input else .fallback, 1920, 1080, .black⟩ } }

/-- An armed record. -/
def armedRecord (mode : FlipMode) (force : Bool) : Armed := ⟨mode, 3, force, 0x0101, some 2, 0⟩

/-- Calm, in ARMED-group with a window count, as a leader or a member that takes part. -/
def inGroup (role : Role) (force : Bool) (n : Nat) : State :=
  { calm with
    scene := { calm.scene with phase := .armedGroup, armed := some (armedRecord .group force) }
    group := { calm.group with role := role, participation := true, window := some n } }

/-! ### Operands -/

/-- The check on strap levels refuses a board number above 7 (R173). -/
theorem test_wellFormed_refuses_board : (Instr.powerOn ⟨8, false, false, 0⟩).wellFormed = false := by decide

/-- The check on strap levels refuses a store size that no part has (R173). -/
theorem test_wellFormed_refuses_store_size : (Instr.powerOn ⟨0, false, false, 5⟩).wellFormed = false := by
  decide

/-- Ill-formed straps are refused by name (log 27). -/
theorem test_powerOn_refuses_ill_formed :
    exec (.powerOn ⟨8, false, false, 0⟩) calm = .refused .strapsIllFormed := rfl

/-- The table gives no bits: no word spells a command. -/
theorem test_no_word_spells_a_command : decodeTableWord 8 0 = none := rfl

/-! ### Arithmetic (Section 4) -/

/-- R152: the check value of the characters 1 to 9. -/
theorem test_crc_check_value :
    crc16 [0x31, 0x32, 0x33, 0x34, 0x35, 0x36, 0x37, 0x38, 0x39] = 0x29B1 := by
  decide +kernel

/-- Worked example of Section 4: the lettering of a PRICE region on a panel, over any background. -/
theorem test_blend_lettering :
    blendSlots
      [⟨⟨255, 255, 255⟩, 200⟩, ⟨⟨0, 0, 0⟩, 160⟩, ⟨⟨200, 40, 40⟩, 80⟩, ⟨⟨20, 20, 30⟩, 255⟩] ⟨9, 99, 199⟩ =
      ⟨206, 202, 203⟩ := by decide

/-- Worked example of Section 4: white dimmed by 128. -/
theorem test_dim_white : Rgb.dimBy 128 ⟨255, 255, 255⟩ = ⟨128, 128, 128⟩ := by decide

/-! ### Text (Section 5) -/

/-- The style of the first worked layout. -/
def styleUsd : Style :=
  { Style.cleared with cellW := 24, cellH := 32, symbol := .before, minorDigits := 2, grouping := true }

/-- Worked layout: $10.49 loses its symbol at 120 columns. -/
theorem test_text_loses_symbol :
    priceString styleUsd 1049 = [10, 1, 0, 11, 4, 9] ∧ textWidth 24 [10, 1, 0, 11, 4, 9] = 132 ∧
      fitString 24 120 (priceString styleUsd 1049) = ([1, 0, 11, 4, 9], false) := by decide

/-- Worked layout: $1,049 at widths 140, 125, 100 and 90. -/
theorem test_text_fitting_order :
    let st := { styleUsd with minorDigits := 0 }
    let cells := priceString st 1049
    fitString 24 140 cells = ([10, 1, 12, 0, 4, 9], false) ∧
      fitString 24 125 cells = ([10, 1, 0, 4, 9], false) ∧
      fitString 24 100 cells = ([1, 0, 4, 9], false) ∧ fitString 24 90 cells = ([14], true) := by decide

/-- Worked layout: 1,250$ and 1,250.00$ in 100 columns. -/
theorem test_text_trim_and_suffix :
    let st := { styleUsd with symbol := .after, trim := true }
    fitString 20 100 (priceString st 125000) = ([1, 2, 5, 0, 10], false) ∧
      fitString 20 100 (priceString { st with trim := false } 125000) = ([14], true) := by decide

/-- Worked layout: an energy figure of 1250. -/
theorem test_text_energy :
    energyString styleUsd 1250 = [1, 12, 2, 5, 0, 13] ∧
      fitString 16 80 (energyString styleUsd 1250) = ([1, 2, 5, 0, 13], false) ∧
      fitString 16 64 (energyString styleUsd 1250) = ([1, 2, 5, 0], false) ∧
      fitString 16 63 (energyString styleUsd 1250) = ([14], true) := by decide

/-- Worked layout: the origin of 10.49 in region 14, and the glyph pixel at column 470 of line 210. -/
theorem test_text_placement :
    let r := { Region.cleared with x := 400, y := 200, width := 120, height := 40, align := .center }
    let t : TextRec := ⟨[1, 0, 11, 4, 9], [24, 24, 12, 24, 24], 108, 406, 204, 24, 32, ⟨0, 23, 2⟩⟩
    textX0 r 108 = 406 ∧ textY0 r 32 = 204 ∧ t.glyphPixel 470 210 = some (100, 6) ∧
      t.glyphPixel 460 210 = some (270, 6) := by decide

/-- Worked layout: a glyph photo 22 tiles wide is not usable with cells of 24, and is with cells of 23. -/
theorem test_glyph_photo_too_small :
    glyphUsable ⟨true, 0, 0, 22, 2⟩ styleUsd = false ∧
      glyphUsable ⟨true, 0, 0, 22, 2⟩ { styleUsd with cellW := 23 } = true := by decide

/-! ### Regions and slots (Sections 2 and 3) -/

/-- Worked example of Section 2: a sold-out item, over a bank with item 12 and directory entries 40, 41. -/
def platter (st : ItemState) : Bank :=
  { Bank.cleared with
    items := Bank.cleared.items.set 12 ⟨st, [549, 649], none⟩
    photos := (Bank.cleared.photos.set 40 ⟨true, 0, 0, 1, 1⟩).set 41 ⟨true, 0, 0, 1, 1⟩ }

/-- A region of that example. -/
def platterRegion (kind : Kind) (figure : Figure) (photo : Nat) (treatment : Treatment) : Region :=
  { Region.cleared with
    kind := kind, level := 3, pages := 1, item := some 12, style := 2, figure := figure, photo := photo
    treatment := treatment }

/-- Regions 3 to 8 of that example on line 0 of a 1920 x 1080 canvas, page 0, threshold 0. -/
def platterChoices (st : ItemState) : List Choice :=
  [platterRegion .photo .price0 40 .dim, platterRegion .price .price0 0 .hide,
    platterRegion .price .price2 0 .none, platterRegion .price .energy 0 .none,
    platterRegion .badge .price0 41 .none, platterRegion .badge .price0 42 .none].map
    (choose (platter st) ⟨.a, 0, 0, 1920, 1080, false⟩ 0)

/-- Worked example of Section 2: the table of what is drawn in each state of the item. -/
theorem test_sold_out_item :
    platterChoices .available = [.selected, .selected, .passed, .passed, .passed, .passed] ∧
      platterChoices .soldOut = [.selected, .passed, .passed, .passed, .selected, .photoMissing] ∧
      platterChoices .withdrawn = List.replicate 6 .passed := by decide +kernel

/-- Worked example of Section 3: column 440's slots after text of coverage 0, box, tint and panel. -/
theorem test_slots_of_a_pixel :
    let px := [0, 160, 80, 255].map fun a : Byte => (⟨.black, a⟩ : Sample)
    px.foldl (fun p m => match placing m p with | .placed q => q | .none | .clipped => p) Pixel.fresh =
      ⟨px.tail, true⟩ := by decide

/-- Section 2's example of the extent condition: offset 1000 with 4 x 6 tiles fits, with 4 x 7 it does not,
and offset 900 with 4 x 7 does. -/
theorem test_extent_condition :
    let p : Photo := ⟨true, 0, 1000, 4, 6⟩
    photoWritten 0 [] p = some p ∧ photoWritten 0x10 [7] p = none ∧
      photoWritten 0x14 [0x03, 0x84, 7] p = some ⟨true, 0, 900, 4, 7⟩ := by decide

/-! ### Tile cache (Section 6) -/

/-- A way of set 7 in the worked example: its tile, its counter, whether a fill of it is in flight. -/
def wayOf (tile confidence : Nat) (busy : Bool) : CacheLine :=
  ⟨some tile, [⟨none, false⟩, ⟨none, busy⟩, ⟨none, false⟩, ⟨none, false⟩], confidence⟩

/-- Worked example of Section 6: the demand miss on tile 167 takes way 3 and leaves counters 2, 1, 2, 0. -/
theorem test_victim_choice :
    victim [wayOf 39 3 false, wayOf 71 2 false, wayOf 103 2 true, wayOf 135 1 false] =
      some ([wayOf 39 2 false, wayOf 71 1 false, wayOf 103 2 true, wayOf 135 0 false], 3) := by decide

/-- Worked example of Section 6: the demand miss on tile 231 takes way 1. -/
theorem test_victim_choice_lowest :
    victim [wayOf 39 3 false, wayOf 71 1 false, wayOf 103 2 false, wayOf 167 1 true] =
      some ([wayOf 39 2 false, wayOf 71 0 false, wayOf 103 1 false, wayOf 167 1 true], 1) := by decide

/-- Worked example of Section 6: the prefetch targets down a photo, none in its bottom tile row. -/
theorem test_prefetch_targets :
    prefetchTarget ⟨2048, 4, 3⟩ 2051 3 = some (2055, 0) ∧ prefetchTarget ⟨2048, 4, 3⟩ 2051 2 = some (2051, 3) ∧
      prefetchTarget ⟨2048, 4, 3⟩ 2056 0 = none := by decide

/-! ### One step of each command -/

/-- POWER_ON with the straps of `State.reset`: the state is `State.reset` (log 1). -/
theorem test_powerOn_gives_reset :
    leads (.powerOn ⟨0, false, false, 0⟩) State.reset (fun t => t == State.reset) = true := by
  decide +kernel

/-- RESTART is taken while the engine is busy, and leaves the controller SETTLED with the load running
(R179). -/
theorem test_restart_while_seeding :
    leads .restart (queued .seeding .restart) (fun t =>
      t.scene.phase == .settled && t.loading && t.scene.tableQ == []) = true := by decide +kernel

/-- LOAD_COMPLETION with no store strapped (R174). -/
theorem test_load_completion_no_store :
    leads .loadCompletion State.reset (fun t => t.store.state == .none && t.status.flags == 0) = true := by
  decide +kernel

/-- A third matching frame locks, and the output follows the input (R7, R11). -/
theorem test_input_frame_start_locks :
    leads (.inputFrameStart true) (lockedAt .acquiring2 1080) (fun t =>
      t.raster.lock == .locked && t.raster.record.source == .input && t.status.frameCount == 1) = true := by
  decide +kernel

/-- A third mismatching frame unlocks with INPUT_LOST and GEOMETRY_MISMATCH (R8). -/
theorem test_input_frame_start_unlocks :
    leads (.inputFrameStart true) (lockedAt .slipping2 1079) (fun t =>
      t.raster.lock == .unlocked && t.raster.record.source == .fallback && t.flagged .inputLost
        && t.flagged .geometryMismatch) = true := by decide +kernel

/-- A control line with a STAGE_OPEN for board 0 in it: type 10 hex, mask 01, no payload, its check value,
then a 0 byte, in three columns (R2, R153 to R155). -/
def stageOpenLine : List Rgb := [⟨0x10, 0x01, 0x00⟩, ⟨0x00, 0xA8, 0x57⟩, ⟨0, 0, 0⟩]

theorem test_control_line_queues :
    leads (.controlLine stageOpenLine) (lockedAt .unlocked 0) (fun t =>
      t.scene.tableQ == [.stageOpen] && t.status.flags == 0) = true := by decide +kernel

/-- A packet with a false check value sets PACKET_BAD and nothing is queued (R154). -/
theorem test_control_line_bad_crc :
    leads (.controlLine [⟨0x10, 0x01, 0x00⟩, ⟨0x00, 0x12, 0x34⟩]) (lockedAt .unlocked 0) (fun t =>
      t.scene.tableQ == [] && t.flagged .packetBad) = true := by decide +kernel

/-- A blanking line while the output follows the input goes to the panel (R17). -/
theorem test_blanking_line :
    leads .blankingLine (lockedAt .locked 3) (fun t =>
      t.panel.line == .blanking && t.raster.measure == some ⟨3, true, true⟩) = true := by decide +kernel

/-- An active line of the wrong width while unlocked is counted, and is no output line start (R3). -/
theorem test_active_line_measured :
    leads (.activeLine [⟨1, 2, 3⟩] true) (lockedAt .unlocked 3) (fun t =>
      t.raster.measure == some ⟨4, false, true⟩ && t.raster.nextLine == 0) = true := by decide +kernel

/-- An active line in lock passes through where nothing is drawn (R18, R75). -/
theorem test_active_line_passes :
    leads (.activeLine [⟨1, 2, 3⟩, ⟨4, 5, 6⟩] true) (lockedAt .locked 0) (fun t =>
      t.panel.line == .pixels [⟨1, 2, 3⟩, ⟨4, 5, 6⟩] && t.raster.nextLine == 1) = true := by decide +kernel

/-- The loss interval expires in lock: UNLOCKED, INPUT_LOST, a fallback frame at once (R9, R13). -/
theorem test_loss_interval_expiry :
    leads (.lossIntervalExpiry true) (lockedAt .slipping1 0) (fun t =>
      t.raster.lock == .unlocked && t.raster.lossTimer == none && t.flagged .inputLost
        && t.raster.record.source == .fallback) = true := by decide +kernel

/-- A frame start before the scene settled event of the frame it ends (R45): its pop is made, then the timer restored
runs in the new update (R136), with no line of the ended frame late or taken up, its packet never sent; and a leader
decides at the frame start itself, where the hold timer reaches 0 (R142, R144). -/
theorem test_frame_start_before_scene_settled :
    leads (.lossIntervalExpiry true)
        { lockedAt .locked 0 with
          scene := { calm.scene with page := 3, hold := some 0, stack := [⟨1, some 40, 2⟩] }
          status := { calm.status with draft := some ⟨.locked, 0, none, 32, 4, none, none⟩, lane := [] } } (fun t =>
        t.scene.page == 1 && t.scene.hold == some 39 && t.builder.view.map (·.page) == some 1
          && t.builder.late == 0 && !t.flagged .lateLine && t.status.laneBefore == []) = true ∧
      leads (.lossIntervalExpiry true)
        { lockedAt .locked 0 with
          scene := { (inGroup .leader false 1).scene with hold := some 1 }
          group := (inGroup .leader false 1).group } (fun t =>
        t.holdDue && t.scene.phase == .committed && t.group.pulse == some 8 && t.group.window == none
          && t.builder.view == none) = true := by
  constructor <;> decide +kernel

/-- A local flip at a frame start, after the 1125 line periods of a frame of 1080 lines: selector, tag,
generation, entry page (R12, R131). -/
theorem test_fallback_frame_start_flips :
    leads (.fallbackFrameStart true)
      (atPeriod 1125
        { calmIn .armedLocal with
          scene :=
            { (calmIn .armedLocal).scene with
              armed := some (armedRecord .localOnly false), generation := 65535 } })
      (fun t => t.tables.active == .b && t.scene.tag == 0x0101 && t.scene.generation == 0
        && t.scene.page == 2 && t.scene.phase == .settled) = true := by decide +kernel

/-- No fallback frame starts before its frame's last line period has begun (R12). -/
theorem test_fallback_frame_start_early :
    leads (.fallbackFrameStart true) (atPeriod 1124 calm) (fun t =>
      t.raster.linePeriods == 1124 && t.status.frameCount == 0) = true := by decide +kernel

/-- Line period 44 is the last blanking one (R12). -/
theorem test_fallback_blanking_line_period :
    leads .fallbackBlankingLinePeriod { calm with raster := { calm.raster with linePeriods := 44 } } (fun t =>
      t.panel.line == .blanking && t.raster.linePeriods == 45) = true := by decide +kernel

/-- A fallback line of a canvas 2 columns wide carries the record's colour (R18); the builder has not taken
it up, so it is late (R64). -/
theorem test_fallback_line_start :
    leads (.fallbackLineStart true)
      { calm with
        builder := { calm.builder with view := some ⟨.a, 0, 0, 2, 2, false⟩ }
        raster := { calm.raster with record := ⟨.fallback, 2, 2, ⟨7, 8, 9⟩⟩, linePeriods := 45 } } (fun t =>
      t.panel.line == .pixels [⟨7, 8, 9⟩, ⟨7, 8, 9⟩] && t.flagged .lateLine && t.builder.late == 1) = true := by
  decide +kernel

/-- Line 0 does not start before the 45 blanking line periods (R12). -/
theorem test_fallback_line_start_early :
    leads (.fallbackLineStart true) (atPeriod 44 calm) (fun t =>
      t.raster.linePeriods == 44 && t.raster.nextLine == 0 && t.panel.line == .nothing) = true := by
  decide +kernel

/-- A frame start suspended at its hold timer, its line 0 at hand: scene settled is still to come. -/
def unsettled : State :=
  { calm with
    scene := { calm.scene with hold := some 0 }
    raster := { calm.raster with record := ⟨.fallback, 2, 2, ⟨7, 8, 9⟩⟩, linePeriods := 45 } }

/-- Taken before scene settled, line 0 is late, without samples, and the frame start still waits (R64, R65); a
member's window that the frame start ended is over before it, so that the pulse it completes finds EDITING (R149). -/
theorem test_line_start_before_scene_settled :
    leads (.fallbackLineStart true) unsettled (fun t =>
        t.panel.line == .pixels [⟨7, 8, 9⟩, ⟨7, 8, 9⟩] && t.flagged .lateLine && t.builder.late == 1
          && t.builder.view == none && t.holdDue) = true ∧
      leads (.fallbackLineStart true)
        { unsettled with
          scene := { unsettled.scene with phase := .armedGroup, armed := some (armedRecord .group false) }
          group := { (inGroup .member false 5).group with filterRun := 2 } } (fun t =>
        t.scene.phase == .editing && t.flagged .flipTimeout && t.flagged .missedFlip && t.holdDue) = true := by
  constructor <;> decide +kernel

/-- Scene settled then takes up line 1, as line 0 is resolved (R64). -/
theorem test_scene_settled_after_line_start :
    leads .pageHoldExpiry { unsettled with builder := { unsettled.builder with nextLine := 1, late := 1 } } (fun t =>
      t.builder.ring.map (·.line) == [1] && t.builder.late == 1 && t.builder.nextLine == 2) = true := by
  decide +kernel

/-- A fill queue with a prefetch ahead of a demand, both waiting. -/
def twoFills : State :=
  { calm with
    cache := { calm.cache with fills := [⟨5, 0, false, false, false⟩, ⟨6, 1, true, false, false⟩] } }

/-- The demand is granted before the older prefetch (R109). -/
theorem test_fill_grant_rank :
    leads .fillGrant twoFills (fun t =>
      t.cache.reads.map (fun r => (r.tile, r.sector)) == [(6, 1)]
        && t.cache.fills.map (·.granted) == [false, true]) = true := by decide +kernel

/-- A granted fill of sector 1 of tile 103, with its line in way 0 of set 7. -/
def oneRead (void : Bool) : State :=
  { calm with
    cache :=
      { sets := calm.cache.sets.set 7 [wayOf 103 2 true, wayOf 39 3 false, wayOf 71 2 false, wayOf 135 1 false]
        fills := [⟨103, 1, true, void, true⟩]
        reads := [⟨103, 1, List.replicate 256 7⟩] } }

/-- A completion installs the bytes and does not count as a use (R105). -/
theorem test_fill_completion_installs :
    leads .fillCompletion (oneRead false) (fun t =>
      t.cache.valid? 103 1 == some (List.replicate 256 7) && t.cache.fills == [] && t.cache.reads == []
        && (t.cache.line? 103).map (·.confidence) == some 2) = true := by decide +kernel

/-- A void completion discards the bytes (R105, Section 6's worked example). -/
theorem test_fill_completion_void :
    leads .fillCompletion (oneRead true) (fun t =>
      t.cache.valid? 103 1 == none && t.cache.inFlight 103 1 == false && t.cache.fills == []) = true := by
  decide +kernel

/-- Bank A active with counts 10 and 9 in areas 0 and 2; uploads to tiles 1030 (area 1) and 2100 (area 2). -/
def uploading (us : List Nat) : State :=
  { calm with
    tables := { calm.tables with a := { Bank.cleared with counts := [10, 0, 9] } }
    library := { calm.library with uploads := us.map fun t => ⟨t, 2, List.replicate 256 3⟩ } }

/-- Section 6's worked example: U1 is written. -/
theorem test_tile_write_written :
    leads .tileWrite (uploading [1030, 2100]) (fun t =>
      t.libByte (1030 * 1024 + 512) == 3 && t.libByte (1030 * 1024 + 767) == 3
        && t.libByte (1030 * 1024 + 768) == 0 && t.status.refusal == none
        && t.library.uploads.length == 1) = true := by decide +kernel

/-- Section 6's worked example: U2 is refused with AREA_PINNED. -/
theorem test_tile_write_pinned :
    leads .tileWrite (uploading [2100]) (fun t =>
      t.status.refusal == some ⟨0x30, 5, 0, 2100⟩ && t.flagged .refused && t.library.mem == []
        && t.library.uploads == []) = true := by decide +kernel

/-- DRAINING with nothing ahead enters ARMED-group, its window at 0 (R126). -/
def drained : State :=
  { calmIn .draining with
    scene := { (calmIn .draining).scene with armed := some (armedRecord .group false) }
    group := { calm.group with participation := true } }

theorem test_uploads_ahead_drained :
    leads .uploadsAheadDrained drained (fun t =>
      t.scene.phase == .armedGroup && t.group.window == some 0 && t.releasesReady) = true := by decide +kernel

/-- Section 6's credit window of 540 lines with a limit of 3, all of its lines elapsed. -/
def creditSpent : State :=
  { calm with
    library := { calm.library with creditLines := 540, creditLimit := 3, window := some ⟨540, 3, 540, 3⟩ } }

theorem test_credit_window_restart :
    leads .creditWindowRestart creditSpent (fun t => t.library.window == some ⟨540, 3, 0, 0⟩) = true := by
  decide +kernel

/-- A save that writes, its areas still to read from their first sector on, the page from address 5000 to 5119
in hand. -/
def saving (areas : List Nat) : State :=
  { calmIn .saving with
    straps := ⟨0, false, false, 8⟩
    store := { calm.store with save := some ⟨true, [], areas, 0, 5000, [], 0xFFFF, areas.length⟩ } }

/-- The first read of area 3 comes behind its section's 9 opening bytes, and is 256 bytes (R165, R117). -/
theorem test_save_read_grant :
    (saveAll Bank.cleared ⟨true, [], [3], 0, 5000, [], 0xFFFF, 1⟩ []).1.page = [] ∧
      (match ((saving [3]).saveSector ⟨true, [], [3], 0, 5000, [], 0xFFFF, 1⟩ 3 []).store.save with
        | some j => j.sector == 1 && j.addr == 5000 && j.page.length == 265
        | none => false) = true := by
  decide +kernel

/-- A page is programmed from its place to its 256-byte boundary, 5120, and the sector that starts at 8192 is
erased before its first page (R172, R177). -/
theorem test_save_pages :
    (let r := saveProgram (⟨true, [], [], 0, 5000, List.replicate 200 3, 0xFFFF, 0⟩, [(8200, 0)]);
      r.1.addr = 5120 ∧ r.1.page.length = 80 ∧ memRead flashFill r.2 5119 = 3 ∧
        memRead flashFill r.2 5120 = 0xFF ∧ memRead flashFill r.2 8200 = 0) ∧
      (let r := saveProgram (⟨true, [], [], 0, 8192, List.replicate 2 3, 0xFFFF, 0⟩, [(8200, 0)]);
        r.1.addr = 8194 ∧ memRead flashFill r.2 8193 = 3 ∧ memRead flashFill r.2 8200 = 0xFF) := by
  decide +kernel

/-- It waits while an upload waits (R117, R109). -/
theorem test_save_read_grant_waits :
    { saving [3] with library := (uploading [1030]).library }.uploadEligible = true := by decide +kernel

/-- STAGE_OPEN in SETTLED, and refused with STATE in EDITING (R122). -/
theorem test_stage_open :
    leads .stageOpen (queued .settled .stageOpen) (fun t => t.scene.phase == .seeding && t.engineBusy) = true ∧
      leads .stageOpen (queued .editing .stageOpen) (fun t =>
        t.scene.phase == .editing && t.status.refusal == some ⟨0x10, 1, 0, 0⟩) = true := by
  constructor <;> decide +kernel

/-- SEED_COMPLETION copies the active bank over staging (R122). -/
theorem test_seed_completion :
    leads .seedCompletion { uploading [] with scene := (calmIn .seeding).scene } (fun t =>
      t.scene.phase == .editing && t.tables.b.counts == [10, 0, 9]) = true := by decide +kernel

/-- TABLE_WRITE of two directory entries, descending from 11: valid = yes (mask bit 0), bytes 1 and 1. -/
theorem test_table_write :
    leads .tableWrite (queued .editing (.tableWrite ⟨4, 11, 0xFF, 2, 0x01, [1, 1]⟩)) (fun t =>
      (t.tables.b.photo 10).valid && (t.tables.b.photo 11).valid && t.tables.b.count 0 == 2
        && t.tables.a == .cleared && t.status.flags == 0) = true := by decide +kernel

/-- One bad entry and nothing is written; the record names the table and the entry (R123, R124). -/
theorem test_table_write_refused :
    leads .tableWrite (queued .editing (.tableWrite ⟨4, 10, 0x01, 2, 0x01, [1, 2]⟩)) (fun t =>
      t.tables.b == .cleared && t.status.refusal == some ⟨0x11, 2, 4, 11⟩) = true := by decide +kernel

/-- FLIP_ARM with no uploads ahead arms at once; an entry page of 8 is refused with RANGE (R125). -/
theorem test_flip_arm :
    leads .flipArm (queued .editing (.flipArm ⟨0, 10, 0, 0x0203, 0xFF, 0⟩)) (fun t =>
        t.scene.phase == .armedLocal && t.scene.armed == some ⟨.localOnly, 10, false, 0x0203, none, 0⟩) = true ∧
      leads .flipArm (queued .editing (.flipArm ⟨0, 10, 0, 0x0203, 8, 0⟩)) (fun t =>
        t.scene.phase == .editing && t.status.refusal == some ⟨0x12, 2, 0, 0⟩) = true := by
  constructor <;> decide +kernel

/-- FLIP_CANCEL returns to EDITING, and is refused with STATE in COMMITTED (R127). -/
theorem test_flip_cancel :
    leads .flipCancel
        { inGroup .member false 1 with scene := { (inGroup .member false 1).scene with tableQ := [.flipCancel] } }
        (fun t => t.scene.phase == .editing && t.group.window == none && !t.releasesReady) = true ∧
      leads .flipCancel (queued .committed .flipCancel) (fun t =>
        t.scene.phase == .committed && t.status.refusal == some ⟨0x13, 1, 0, 0⟩) = true := by
  constructor <;> decide +kernel

/-- STAGE_DISCARD in EDITING (R127). -/
theorem test_stage_discard :
    leads .stageDiscard (queued .editing .stageDiscard) (fun t =>
      t.scene.phase == .settled && t.scene.tableQ == []) = true := by decide +kernel

/-- CONFIG_WRITE of W_ACT: 600 becomes 640 and 1919 becomes 1904 (R159). -/
theorem test_config_write :
    leads .configWrite (queued .settled (.configWrite 0x01 [0x02, 0x58])) (fun t =>
        t.raster.settings.wAct == 640 && t.raster.settings.hAct == 1080) = true ∧
      leads .configWrite (queued .settled (.configWrite 0x01 [0x07, 0x7F])) (fun t =>
        t.raster.settings.wAct == 1904) = true := by
  constructor <;> decide +kernel

/-- STORE_SAVE with no store has no room (R176). -/
theorem test_store_save_no_room :
    leads .storeSave (queued .settled .storeSave) (fun t =>
      t.scene.phase == .settled && t.status.refusal == some ⟨0x16, 7, 0, 0⟩) = true := by decide +kernel

/-- SAVE_COMPLETION with nothing being saved changes nothing. -/
theorem test_save_completion_idle : exec .saveCompletion calm = .next calm := rfl

/-- STORE_RECALL clears staging and enters RECALLING (R175). -/
theorem test_store_recall :
    leads .storeRecall (queued .settled .storeRecall) (fun t =>
      t.scene.phase == .recalling && t.tables.b == .cleared) = true := by decide +kernel

/-- A RECALL with no store fails: SETTLED and STORE_FAULT (R175). -/
theorem test_recall_completion :
    leads .recallCompletion (calmIn .recalling) (fun t =>
      t.scene.phase == .settled && t.flagged .storeFault) = true := by decide +kernel

/-- A part with an 8-megabyte store. -/
def stored : State := { calm with straps := ⟨0, false, false, 8⟩ }

/-- STORE_PROTECT of blocks 0 and 3: the write-protect marks of the copy are cleared (R178). -/
theorem test_store_protect :
    leads .storeProtect { stored with scene := { calm.scene with tableQ := [.storeProtect 0x0009] } } (fun t =>
      t.store.writeMarks == 0xFFF6 && t.store.readMarks == 0xFFFF && t.store.protectJob == some 0x0009) = true := by
  decide +kernel

/-- A protect program of block 0 on its way. -/
def protecting : State :=
  { stored with store := { calm.store with writeMarks := 0xFFFE, protectJob := some 1 } }

/-- Its end: block 0's record byte holds bit 7 clear, every other bit 1 (R165, R178). -/
theorem test_protect_program_completion :
    leads .protectProgramCompletion protecting (fun t =>
      t.flashByte 8388592 == 0x7F && t.flashByte 8388593 == 0xFF && t.store.protectJob == none) = true := by
  decide +kernel

/-- A time-out of a protect program sets STORE_FAULT and keeps the copy (R178). -/
theorem test_store_program_timeout :
    leads .storeProgramTimeout protecting (fun t =>
      t.flagged .storeFault && t.store.protectJob == none && t.store.writeMarks == 0xFFFE) = true := by
  decide +kernel

/-- A page held, one entry below it, its timer at 0. -/
def holdEnds : State :=
  { calm with scene := { calm.scene with page := 3, hold := some 0, stack := [⟨1, some 40, 2⟩] } }

/-- PAGE_HOLD_EXPIRY pops (R136). -/
theorem test_page_hold_expiry :
    leads .pageHoldExpiry holdEnds (fun t =>
      t.scene.page == 1 && t.scene.hold == some 40 && t.scene.threshold == 2 && t.scene.stack == []) = true := by
  decide +kernel

/-- A store read of a part with no store answers result 2 (R169). -/
theorem test_store_read_completion :
    leads .storeReadCompletion { calm with status := { calm.status with storeRead := some ⟨3, 9, 16⟩ } } (fun t =>
      t.status.storeReply == some ⟨3, 9, 16, 2, List.replicate 20 0⟩ && t.status.storeRead == none) = true := by
  decide +kernel

/-- A leader's window of 3 frames ends: with force it pulses and commits, without it returns to EDITING,
FLIP_TIMEOUT in both (R143). -/
theorem test_leader_window_end :
    leads .leaderWindowEnd (inGroup .leader true 3) (fun t =>
        t.scene.phase == .committed && t.group.pulse == some 8 && t.flagged .flipTimeout) = true ∧
      leads .leaderWindowEnd (inGroup .leader false 3) (fun t =>
        t.scene.phase == .editing && t.group.pulse == none && t.flagged .flipTimeout) = true := by
  constructor <;> decide +kernel

/-- A member's window of 3 frames ends at a count of 5, not at 4 (R145). -/
theorem test_member_window_end :
    leads .memberWindowEnd (inGroup .member true 5) (fun t =>
        t.scene.phase == .editing && t.flagged .flipTimeout) = true ∧
      leads .memberWindowEnd (inGroup .member true 4) (fun t =>
        t.scene.phase == .armedGroup && !t.flagged .flipTimeout) = true := by
  constructor <;> decide +kernel

/-- A pulse at its end: GRP_FLIP is held low again (R144). -/
def pulseOver : State :=
  { calm with group := { calm.group with role := .leader, participation := true, pulse := some 0 } }

theorem test_pulse_end :
    leads .pulseEnd pulseOver (fun t => t.group.pulse == none && !t.releasesFlip) = true := by decide +kernel

/-! ### Witnesses: the queue and the laws -/

/-- A command that leads somewhere answers a next state. -/
theorem next_of_leads {c : Instr} {s : State} {p : State → Bool} (h : leads c s p = true) :
    ∃ t, exec c s = .next t := by
  unfold leads at h
  split at h
  · exact ⟨_, by assumption⟩
  · cases h
  · cases h

/-- Whether a step answers a next state. -/
def steps (s : State) : Bool :=
  match step s with
  | .next _ => true
  | .fault _ | .refused _ => false

theorem next_of_steps {s : State} (h : steps s = true) : ∃ t, step s = .next t := by
  unfold steps at h
  split at h
  · exact ⟨_, by assumption⟩
  · cases h
  · cases h

theorem witness_StepRunsFrontCommandOrIdles :
    ({ calm with pending := [.stageOpen, .pulseEnd] } : State).pending = .stageOpen :: [.pulseEnd] ∧
      State.reset.pending = [] := ⟨rfl, rfl⟩

theorem witness_CommandsLeaveTheQueue :
    exec .blankingLine { calm with pending := [.pulseEnd] } = .next { calm with pending := [.pulseEnd] } := rfl

theorem witness_EventsThatCannotOccurChangeNothing :
    calm.quiet = true ∧ calm.raster.inFrame = none ∧ calm.cache.nextGrant = none ∧ calm.cache.reads = [] ∧
      calm.library.uploads = [] ∧ calm.store.save = none ∧ calm.store.protectJob = none ∧
      calm.status.storeRead = none := by decide +kernel

/-- Every queue full, a FLIP_CANCEL to be taken. -/
def full : State :=
  { calm with
    pending := [.flipCancel]
    scene := { calm.scene with tableQ := List.replicate 64 .flipCancel, hotQ := List.replicate 16 .pagePop }
    library := { calm.library with uploads := List.replicate 32 ⟨0, 0, []⟩ }
    status := { calm.status with readQ := List.replicate 4 ⟨1, 1, 0⟩ }
    cache := { calm.cache with fills := List.replicate 8 ⟨0, 0, true, false, false⟩ } }

theorem witness_QueuesNeverExceedTheirCapacities : full.queueLaw ∧ ∃ t, step full = .next t :=
  ⟨by unfold State.queueLaw; decide +kernel, next_of_steps (by decide +kernel)⟩

/-- A local flip due, page, threshold, stack, generation and entry page at the ends of their ranges. -/
def lively : State :=
  { calm with
    pending := [.fallbackFrameStart true]
    raster := { calm.raster with linePeriods := 1125, nextLine := 1080 }
    scene :=
      { calm.scene with
        phase := .armedLocal
        armed := some ⟨.localOnly, 3, false, 0x0101, some 7, 0⟩
        page := 7
        threshold := 7
        stack := List.replicate 8 ⟨7, none, 7⟩
        generation := 65535 } }

theorem lively_steps : ∃ t, step lively = .next t := next_of_steps (by decide +kernel)

theorem cleared_bank_lawful : Bank.cleared.lawful := by
  refine ⟨List.length_replicate, List.length_replicate, List.length_replicate, List.length_replicate, ?_, ?_, ?_,
    ?_⟩ <;> intro x hx <;>
    obtain rfl := List.eq_of_mem_replicate hx
  · simp [Region.lawful, Region.cleared]
  · simp [Item.lawful, Item.cleared]
  · simp [Style.lawful, Style.cleared]
  · simp [Photo.lawful, Photo.cleared]

theorem witness_TableEntriesStayInRange : lively.tableLaw ∧ ∃ t, step lively = .next t :=
  ⟨⟨cleared_bank_lawful, cleared_bank_lawful⟩, lively_steps⟩

theorem cleared_bank_countLaw : Bank.cleared.countLaw := by
  unfold Bank.countLaw
  decide +kernel

theorem witness_AreaCountsFollowTheDirectory : lively.countLaw ∧ ∃ t, step lively = .next t :=
  ⟨⟨cleared_bank_countLaw, cleared_bank_countLaw⟩, lively_steps⟩

theorem witness_PageStackAndGenerationStayInRange : lively.pageLaw ∧ ∃ t, step lively = .next t := by
  refine ⟨⟨by decide, by decide, by decide, by decide, by decide, ?_⟩, lively_steps⟩
  intro r hr p hp
  cases hr
  cases hp
  decide

theorem witness_ArmedRecordFitsTheSceneState : lively.flipLaw ∧ ∃ t, step lively = .next t := by
  refine ⟨⟨rfl, rfl, ?_, ?_, rfl, ?_, ?_⟩, lively_steps⟩
  · intro r hr
    cases hr
    refine ⟨fun _ => rfl, fun _ => rfl, fun h => ?_, fun h => ?_⟩
    · rcases h with h | h <;> cases h
    · cases h
  · rintro n ⟨⟩
  · intro h
    revert h
    decide
  · rintro j ⟨⟩

/-- The law of a save that writes: address 5000 lies behind the header's place, which is erased. -/
theorem witness_ArmedRecordFitsTheSceneState_saving :
    let s := { saving [3] with pending := [.pulseEnd] }
    s.flipLaw ∧ ∃ t, step s = .next t := by
  refine ⟨⟨rfl, rfl, (by rintro r ⟨⟩), (by rintro n ⟨⟩), rfl, (by intro h; revert h; decide), ?_⟩,
    next_of_steps (by decide +kernel)⟩
  rintro j ⟨⟩
  exact ⟨rfl, fun _ => ⟨by decide, fun a _ => rfl⟩⟩

theorem witness_RasterSettingsAndSourceStayLawful :
    let s := { lockedAt .slipping2 1080 with pending := [.inputFrameStart true] }
    s.rasterLaw ∧ ∃ t, step s = .next t := by
  refine ⟨⟨by unfold Settings.lawful; decide, by decide, by decide, by decide, by decide, by decide, rfl, rfl, ?_, ?_⟩,
    next_of_steps (by decide +kernel)⟩ <;> intro h <;> cases h

theorem witness_UploadGrantsStayWithinTheWindowLimit :
    let s := { creditSpent with pending := [.creditWindowRestart] }
    s.creditLaw ∧ ∃ t, step s = .next t := by
  refine ⟨⟨by decide, by decide, by decide, by decide, ?_⟩, next_of_steps (by decide +kernel)⟩
  intro w hw
  cases hw
  decide

theorem witness_FrameViewIsTheActiveBank :
    let s := { State.reset with pending := [.loadCompletion] }
    s.viewLaw ∧ ∃ t, step s = .next t := by
  refine ⟨?_, next_of_steps (by decide +kernel)⟩
  intro v hv
  cases hv
  decide

/-- Four lines in the ring, one pixel of them closed by its fourth sample, the next line start at hand. -/
def drawn : State :=
  { calm with
    pending := [.fallbackLineStart true]
    raster := { calm.raster with record := ⟨.fallback, 2, 2, .black⟩, linePeriods := 45 }
    builder :=
      { calm.builder with
        ring :=
          [⟨0, [(1, ⟨[⟨.black, 1⟩, ⟨.black, 2⟩, ⟨.black, 3⟩, ⟨.black, 255⟩], true⟩)]⟩, ⟨1, []⟩, ⟨2, []⟩, ⟨3, []⟩] } }

theorem witness_LineListsAndSlotsStayBounded : drawn.builderLaw ∧ ∃ t, step drawn = .next t := by
  refine ⟨⟨by rintro w ⟨⟩, by decide, ?_⟩, next_of_steps (by decide +kernel)⟩
  intro e he
  simp only [drawn, List.mem_cons, List.not_mem_nil, or_false] at he
  obtain rfl | rfl | rfl | rfl := he <;> intro q hq <;> simp at hq
  subst hq
  refine ⟨by decide, by decide, by decide, ?_⟩
  simp

theorem witness_MemoriesStayCanonical :
    let s := { protecting with
      pending := [.protectProgramCompletion]
      library := { calm.library with mem := [(5, 1), (7, 2)] }
      store := { protecting.store with flash := [(0, 0x4D), (8388607, 0x7F)] } }
    s.memoryLaw ∧ ∃ t, step s = .next t :=
  ⟨by unfold State.memoryLaw; decide +kernel, next_of_steps (by decide +kernel)⟩

/-! ### Witnesses: the tile cache -/

/-- The shape of a cache, checked over its lines and entries alone. -/
def boundedLaw (c : Cache) : Prop :=
  c.sets.length = 32 ∧
    (∀ i, i < 32 → ∀ ws ∈ c.sets[i]?,
      ws.length = 4 ∧ (ws.filterMap (·.tag)).Nodup ∧
        ∀ l ∈ ws, l.sectors.length = 4 ∧ l.confidence ≤ 3 ∧ ∀ t ∈ l.tag, Machine.setOf t = i) ∧
    (∀ ws ∈ c.sets, ∀ l ∈ ws, ∀ t ∈ l.tag, ∀ n, n < 4 → (l.slot n).inFlight = true →
      ∃ f ∈ c.fills, f.tile = t ∧ f.sector = n) ∧
    (∀ f ∈ c.fills, c.inFlight f.tile f.sector = true) ∧
    (c.fills.map fun f => (f.tile, f.sector)).Nodup ∧
    (c.reads.map fun r => (r.tile, r.sector)).Nodup ∧
    ∀ r ∈ c.reads, ∃ f ∈ c.fills, f.tile = r.tile ∧ f.sector = r.sector ∧ f.granted = true

/-- A cache of that shape is lawful: a fill in flight is marked on some line, at one of its four sectors. -/
theorem lawful_of_bounded (c : Cache) (h : boundedLaw c) : c.lawful := by
  obtain ⟨h1, h2, h3, h4, h5, h6, h7⟩ := h
  have hi : ∀ (i : Nat) (ws : List CacheLine), c.sets[i]? = some ws → i < 32 := by
    intro i ws hw
    have := (List.getElem?_eq_some_iff.1 hw).1
    omega
  refine ⟨h1, fun i ws hw => h2 i (hi i ws hw) ws hw, fun t n => ⟨fun hf => ?_, ?_⟩, h5, h6, h7⟩
  · unfold Cache.inFlight Cache.line? at hf
    split at hf
    · cases hf
    · rename_i l hl
      have hm := List.mem_of_find?_eq_some hl
      have ht : l.tag = some t := by simpa using List.find?_some hl
      have hlt : Machine.setOf t < 32 := Nat.mod_lt _ (by decide)
      have hws : c.ways t ∈ c.sets := by
        unfold Cache.ways
        rw [List.getD_eq_getElem _ _ (by omega)]
        exact List.getElem_mem _
      have hlen : l.sectors.length = 4 :=
        ((h2 (Machine.setOf t) hlt (c.ways t) (by
          unfold Cache.ways
          rw [List.getD_eq_getElem _ _ (by omega), List.getElem?_eq_getElem (by omega)]
          rfl)).2.2 l hm).1
      refine h3 _ hws l hm t ht n ?_ hf
      by_contra hn
      unfold CacheLine.slot at hf
      rw [List.getD_eq_default _ _ (by omega)] at hf
      cases hf
  · rintro ⟨f, hf, rfl, rfl⟩
    exact h4 f hf

/-- A cache with set 7 as given. -/
def setSeven (ws : List CacheLine) (fills : List Fill) : Cache := ⟨Cache.atReset.sets.set 7 ws, fills, []⟩

/-- Tile 39 with sector 0 valid and sector 1 in flight. -/
def cacheOne : Cache :=
  setSeven
    [⟨some 39, [⟨some (List.replicate 256 0), false⟩, ⟨none, true⟩, ⟨none, false⟩, ⟨none, false⟩], 1⟩, .atReset,
      .atReset, .atReset]
    [⟨39, 1, false, false, false⟩]

/-- Tiles 39 and 71 with fills of all their sectors: the fill queue is full. -/
def cacheFull : Cache :=
  setSeven
    [⟨some 39, List.replicate 4 ⟨none, true⟩, 1⟩, ⟨some 71, List.replicate 4 ⟨none, true⟩, 1⟩, .atReset, .atReset]
    ([39, 71].flatMap fun t => (List.range 4).map fun n => ⟨t, n, true, false, false⟩)

/-- Every way of set 7 busy, with a fill each. -/
def cacheBusy : Cache :=
  setSeven [wayOf 39 3 true, wayOf 71 2 true, wayOf 103 2 true, wayOf 135 1 true]
    ([39, 71, 103, 135].map fun t => ⟨t, 1, true, false, false⟩)

theorem cacheOne_lawful : cacheOne.lawful := lawful_of_bounded _ (by unfold boundedLaw; decide +kernel)
theorem cacheFull_lawful : cacheFull.lawful := lawful_of_bounded _ (by unfold boundedLaw; decide +kernel)
theorem cacheBusy_lawful : cacheBusy.lawful := lawful_of_bounded _ (by unfold boundedLaw; decide +kernel)
theorem oneRead_lawful (void : Bool) : (oneRead void).cache.lawful :=
  lawful_of_bounded _ (by unfold boundedLaw; cases void <;> decide +kernel)

theorem witness_SectorReadHasItsOutcomes :
    cacheOne.lawful ∧ cacheFull.lawful ∧ cacheBusy.lawful ∧
      cacheOne.valid? 39 0 ≠ none ∧
      (cacheOne.valid? 39 1 = none ∧ cacheOne.inFlight 39 1 = true) ∧
      (cacheOne.valid? 39 3 = none ∧ cacheOne.inFlight 39 3 = false ∧ cacheOne.line? 39 ≠ none ∧
        cacheOne.fills.length < 8) ∧
      (cacheOne.line? 71 = none ∧ cacheOne.fills.length < 8 ∧
        victim (cacheOne.ways 71) = some (cacheOne.ways 71, 1) ∧ Machine.setOf 71 ≠ Machine.setOf 8) ∧
      (cacheFull.inFlight 103 3 = false ∧ cacheFull.valid? 103 3 = none ∧ 8 ≤ cacheFull.fills.length) ∧
      (cacheBusy.line? 167 = none ∧ cacheBusy.fills.length < 8 ∧ victim (cacheBusy.ways 167) = none) :=
  ⟨cacheOne_lawful, cacheFull_lawful, cacheBusy_lawful, by decide +kernel⟩

theorem witness_VictimIsTheLowestWayOfLeastConfidence :
    (let ws := [wayOf 39 3 false, wayOf 71 0 true, wayOf 103 2 false, wayOf 135 0 false]
      ∃ l, ws[3]? = some l ∧ l.busy = false ∧ l.confidence = 0 ∧
        ∀ j, j < 3 → ∀ l' ∈ ws[j]?, l'.busy = true ∨ l'.confidence ≠ 0) ∧
    (let ws := [wayOf 39 3 false, wayOf 71 1 false, wayOf 103 2 false, wayOf 167 1 true]
      ∃ l, ws[1]? = some l ∧ l.busy = false ∧ l.confidence ≠ 0 ∧
        (∀ l' ∈ ws, l'.busy = false → l.confidence ≤ l'.confidence) ∧
        ∀ j, j < 1 → ∀ l' ∈ ws[j]?, l'.busy = true ∨ l'.confidence ≠ l.confidence) ∧
    ∀ l ∈ [wayOf 39 3 true, wayOf 71 2 true, wayOf 103 2 true, wayOf 135 1 true], l.busy = true :=
  ⟨⟨_, rfl, by decide⟩, ⟨_, rfl, by decide⟩, by decide⟩

/-- Four fills in the queue and a free way of counter 0 in set 7. -/
def cacheFour : Cache :=
  setSeven [⟨some 39, List.replicate 4 ⟨none, true⟩, 1⟩, wayOf 71 1 false, .atReset, wayOf 135 0 false]
    ((List.range 4).map fun n => ⟨39, n, true, false, false⟩)

theorem cacheFour_lawful : cacheFour.lawful := lawful_of_bounded _ (by unfold boundedLaw; decide +kernel)

theorem witness_PrefetchIsMadeOnThreeConditions :
    (3 < (⟨2048, 4, 3⟩ : PhotoRef).width ∧ (⟨2048, 4, 3⟩ : PhotoRef).height ≤ 2 + 1 ∧
      1 + 1 < (⟨2048, 4, 3⟩ : PhotoRef).height) ∧
    cacheOne.lawful ∧ cacheFull.lawful ∧ cacheBusy.lawful ∧ cacheFour.lawful ∧
    cacheOne.valid? 39 0 ≠ none ∧ cacheOne.inFlight 39 1 = true ∧ 4 < cacheFull.fills.length ∧
    (cacheBusy.line? 167 = none ∧ ¬∃ l ∈ cacheBusy.ways 167, l.busy = false ∧ l.confidence = 0) ∧
    (cacheFour.valid? 71 3 = none ∧ cacheFour.inFlight 71 3 = false ∧ cacheFour.fills.length ≤ 4 ∧
      cacheFour.line? 71 ≠ none) ∧
    (cacheFour.valid? 167 0 = none ∧ cacheFour.inFlight 167 0 = false ∧ cacheFour.line? 167 = none ∧
      ∃ l ∈ cacheFour.ways 167, l.busy = false ∧ l.confidence = 0) :=
  ⟨by decide, cacheOne_lawful, cacheFull_lawful, cacheBusy_lawful, cacheFour_lawful, by decide +kernel⟩

/-- Tile 39's sector 0 valid with the bytes of library memory, and a read of its sector 1 under way. -/
def cached : State :=
  { calm with
    pending := [.fillCompletion]
    cache :=
      { cacheOne with
        fills := [⟨39, 1, false, false, true⟩]
        reads := [⟨39, 1, List.replicate 256 0⟩] } }

theorem cached_fills_lawful : cached.cache.lawful := lawful_of_bounded _ (by unfold boundedLaw; decide +kernel)

/-- With nothing written, library memory reads 0. -/
theorem librarySector_of_empty (s : State) (h : s.library.mem = []) (t n : Nat) :
    s.librarySector t n = List.replicate 256 0 := by
  unfold State.librarySector
  rw [h]
  generalize sectorAddr t n = a
  have : ∀ k a, memReadBytes libraryFill [] a k = List.replicate k 0 := by
    intro k
    induction k with
    | zero => intro a; rfl
    | succ k ih => intro a; rw [memReadBytes, ih, List.replicate_succ]; rfl
  exact this 256 a

theorem witness_CachedSectorsEqualLibraryMemory : cached.cacheLaw ∧ ∃ t, step cached = .next t := by
  refine ⟨⟨cached_fills_lawful, by rintro u ⟨⟩, ?_, ?_⟩, next_of_steps (by decide +kernel)⟩
  · intro t n bs hv
    rw [librarySector_of_empty _ rfl]
    unfold Cache.valid? Cache.line? at hv
    split at hv
    · cases hv
    · rename_i l hl
      have hm := List.mem_of_find?_eq_some hl
      have hws : cached.cache.ways t ∈ cached.cache.sets := by
        unfold Cache.ways
        have hlt : Machine.setOf t < cached.cache.sets.length := Nat.mod_lt _ (by decide)
        rw [List.getD_eq_getElem _ _ hlt]
        exact List.getElem_mem _
      have hall : ∀ ws ∈ cached.cache.sets, ∀ l ∈ ws, ∀ d ∈ l.sectors, ∀ bs ∈ d.data,
          bs = List.replicate 256 (0 : Byte) := by decide +kernel
      unfold CacheLine.slot at hv
      by_cases hn : n < l.sectors.length
      · rw [List.getD_eq_getElem _ _ hn] at hv
        exact hall _ hws l hm _ (List.getElem_mem _) bs hv
      · rw [List.getD_eq_default _ _ (by omega)] at hv
        cases hv
  · intro r hr _
    rw [librarySector_of_empty _ rfl]
    have hr' : r ∈ [(⟨39, 1, List.replicate 256 0⟩ : GrantedRead)] := hr
    rw [List.mem_singleton.1 hr']

/-- A granted demand ahead of a waiting prefetch. -/
def granted : State :=
  { calm with
    cache := { calm.cache with fills := [⟨6, 1, true, false, true⟩, ⟨5, 0, false, false, false⟩] } }

theorem witness_FillsAreGrantedByRankAndInstalled :
    (twoFills.quiet = true ∧
      twoFills.cache.fills = [⟨5, 0, false, false, false⟩] ++ ⟨6, 1, true, false, false⟩ :: [] ∧
      ∀ g ∈ [(⟨5, 0, false, false, false⟩ : Fill)], g.granted = true ∨ g.demand = false) ∧
    (granted.quiet = true ∧
      granted.cache.fills = [⟨6, 1, true, false, true⟩] ++ ⟨5, 0, false, false, false⟩ :: [] ∧
      ∀ g ∈ [(⟨6, 1, true, false, true⟩ : Fill)], g.granted = true) ∧
    (∀ void, (oneRead void).quiet = true ∧
      (oneRead void).cache.reads = ⟨103, 1, List.replicate 256 7⟩ :: [] ∧ (oneRead void).cache.lawful ∧
      (oneRead void).builder.view = none ∧ (oneRead void).builder.work = none ∧
      (oneRead void).cache.isVoid 103 1 = void ∧ (oneRead void).cache.line? 103 ≠ none) := by
  refine ⟨by decide +kernel, by decide +kernel, fun void => ?_⟩
  refine ⟨?_, rfl, oneRead_lawful void, rfl, rfl, ?_⟩ <;> cases void <;> decide +kernel

/-- A builder that waits, over a cache with sector 0 of tile 39 valid and sector 1 in flight. -/
def waiting (wait : Wait) : State :=
  { calm with
    cache := cacheOne
    builder := { calm.builder with ring := [⟨0, []⟩], reader := { calm.builder.reader with wait := wait } } }

/-- A line-list entry of columns 0 to 3, of a kind, over a photo of one tile. -/
def entryOfKind (kind : Kind) : LineEntry :=
  ⟨0, kind, .cleared, 0, some (0, 3), false, 0, some ⟨39, 1, 1⟩, none, .notStarted⟩

/-- A builder that waits at a completion that installs its sector, at one that does not, or at none; an entry
that is produced wholly, and one that waits at its first column. -/
theorem witness_FillsAreGrantedByRankAndInstalled_builder :
    ((waiting .nothing).builder.reader.wait = .nothing ∧ (waiting .room).builder.reader.wait = .room ∧
      (waiting .way).builder.reader.wait = .way ∧ (waiting (.fill 39 0)).builder.reader.wait = .fill 39 0 ∧
      (waiting (.fill 39 0)).cache.valid? 39 0 ≠ none ∧ (waiting (.fill 39 1)).cache.valid? 39 1 = none) ∧
      (workEntry 0 (entryOfKind .fill) (waiting .nothing)).2.2 = true ∧
      (workEntry 0 (entryOfKind .photo) { waiting .nothing with cache := calm.cache }).2.2 = false := by
  decide +kernel

theorem witness_TileWriteIsRefusedOrWritten :
    ∀ tile ∈ [1030, 2100],
      (uploading [tile]).quiet = true ∧ (uploading [tile]).uploadLaw ∧ (uploading [tile]).memoryLaw ∧
      (uploading [tile]).cache.nextGrant = none ∧
      (uploading [tile]).library.uploads = ⟨tile, 2, List.replicate 256 3⟩ :: [] ∧
      (uploading [tile]).library.creditRemains = true ∧
      (uploading [tile]).pinned (tile / 1024) = decide (tile = 2100) := by
  unfold State.uploadLaw State.memoryLaw
  decide +kernel

theorem witness_PinnedLibraryBytesAreNotWritten :
    (uploading [1030]).loading = false ∧ (uploading [1030]).uploadLaw ∧
      (∃ t, exec .tileWrite (uploading [1030]) = .next t) ∧
      (uploading [1030]).pinned (0 / 1048576) = true ∧ (uploading [1030]).pinned (3145727 / 1048576) = true ∧
      ∃ t, exec .fillGrant twoFills = .next t :=
  ⟨rfl, by unfold State.uploadLaw; decide +kernel,
    next_of_leads (p := fun _ => true) (by decide +kernel), by decide +kernel, by decide +kernel,
    next_of_leads (p := fun _ => true) (by decide +kernel)⟩

/-! ### Witnesses: what commands leave unchanged, reset and load -/

theorem witness_SelectorAndGenerationChangeOnlyAtAFlip :
    (∃ t, exec (.fallbackFrameStart true) lively = .next t) ∧ (∃ t, exec .blankingLine lively = .next t) ∧
      (∃ t, exec (.powerOn ⟨7, true, true, 16⟩) lively = .next t) ∧
      (∃ t, exec .restart (queued .saving .restart) = .next t) ∧ ∃ t, exec .restart lively = .next t := by
  refine ⟨?_, ?_, ?_, ?_, ?_⟩ <;> exact next_of_leads (p := fun _ => true) (by decide +kernel)

theorem witness_StoreAndSettingsChangeOnlyAtTheirWriters :
    calm.quiet = true ∧ (queued .settled .storeSave).quiet = true ∧
      (∃ t, exec (.fallbackFrameStart true) calm = .next t) ∧
      ∃ t, exec .storeSave (queued .settled .storeSave) = .next t :=
  ⟨by decide +kernel, by decide +kernel, next_of_leads (p := fun _ => true) (by decide +kernel),
    next_of_leads (p := fun _ => true) (by decide +kernel)⟩

theorem witness_BanksChangeOnlyAtTheirWriters :
    lively.quiet = true ∧ lively.scene.hotQ = [] ∧ (queued .editing .flipCancel).quiet = true ∧
      (∃ t, exec (.fallbackFrameStart true) lively = .next t) ∧
      ∃ t, exec .flipCancel (queued .editing .flipCancel) = .next t :=
  ⟨by decide +kernel, rfl, by decide +kernel, next_of_leads (p := fun _ => true) (by decide +kernel),
    next_of_leads (p := fun _ => true) (by decide +kernel)⟩

/-- A save that has been accepted and not seeded. -/
def unseeded : State :=
  { calmIn .saving with store := { calm.store with save := some ⟨false, [], [3], 0, 0, [], 0xFFFF, 1⟩ } }

/-- A state with RESTART at the head of its table queue and an output line in progress. -/
def restarting (s : State) : State :=
  { s with scene := { s.scene with tableQ := [.restart] }, panel := ⟨.pixels [.black], true⟩ }

/-- A save that writes, its next program page at an address. -/
def savingAt (address : Nat) : State :=
  { saving [3] with
    store :=
      { calm.store with
        flash := [(4096, 0x00), (address, 0x00)]
        save := some ⟨true, [], [3], 0, address, [1, 2], 0xFFFF, 1⟩ } }

/-- A RESTART, or POWER_ON, of a part at rest, with a seed copy, with a save not yet seeded, with a protect program,
and with a save that writes at the start of a sector, of a page, or within one. -/
theorem witness_PowerOnAndRestartLeaveResetValues :
    (⟨7, true, true, 16⟩ : Straps).wellFormed = true ∧ (⟨0, false, false, 0⟩ : Straps).wellFormed = true ∧
      (∀ s ∈ [queued .seeding .restart, restarting calm, restarting unseeded, restarting protecting,
          restarting (savingAt 8192), restarting (savingAt 8448), restarting (savingAt 5000)],
        s.nothingButHoldDue = true ∧ s.loading = false ∧ s.scene.tableQ = .restart :: [] ∧ s.memoryLaw) ∧
      (queued .seeding .restart).panel.inProgress = false ∧
      (restarting calm).panel = ⟨.pixels [.black], true⟩ ∧ (restarting calm).store.protectJob = none ∧
      (restarting calm).store.save = none ∧ (restarting protecting).store.protectJob = some 1 ∧
      (restarting protecting).store.save = none ∧
      (∀ address ∈ [8192, 8448, 5000],
        (restarting (savingAt address)).store.protectJob = none ∧
          (restarting (savingAt address)).store.save = some ⟨true, [], [3], 0, address, [1, 2], 0xFFFF, 1⟩ ∧
          (restarting (savingAt address)).straps.blocks ≠ 0 ∧
          ∀ a, a < 11 → (restarting (savingAt address)).flashByte a = 0xFF) := by
  unfold State.memoryLaw
  decide +kernel

/-- The cells of a store image from address 0 on. -/
def imageCells (bs : List Byte) : List Host.Cell := (indexed 0 bs).filter fun c => c.2 != flashFill

/-- An image of one CONFIG section with an empty field mask: MENU, length 20, tag 0101, one section. -/
def smallImage : List Byte :=
  [0x4D, 0x45, 0x4E, 0x55, 0, 0, 0, 20, 0x01, 0x01, 1] ++ [1, 0, 0, 0, 2, 0, 0, 0x27, 0xCF]

/-- The start-up load running over a store of 4 megabytes, or none. -/
def loadingFrom (blocks : Nat) (bs : List Byte) : State :=
  { State.reset with
    straps := ⟨0, false, false, blocks⟩
    store := { State.reset.store with flash := imageCells bs } }

/-- A RECALL running over it. -/
def recallingFrom (blocks : Nat) (bs : List Byte) : State :=
  { calmIn .recalling with
    straps := ⟨0, false, false, blocks⟩
    store := { calm.store with flash := imageCells bs } }

/-- Each of the four outcomes is met: no store, no signature, a length too long, a whole image. -/
theorem witness_LoadAndRecallEndByTheirOutcome :
    (∀ bs ∈ [[], [0x4D, 0x45, 0x4E, 0x55, 0, 0x40, 0, 0], smallImage],
      (loadingFrom 4 bs).nothingDue = true ∧ (loadingFrom 4 bs).loading = true) ∧
      ((loadingFrom 0 []).loading = true ∧ (loadingFrom 0 []).straps.blocks = 0) ∧
      (∀ p ∈ [(0, []), (4, []), (4, [0x4D, 0x45, 0x4E, 0x55, 0, 0x40, 0, 0]), (4, smallImage)],
        (recallingFrom p.1 p.2).nothingDue = true ∧ (recallingFrom p.1 p.2).loading = false ∧
        (recallingFrom p.1 p.2).scene.phase = .recalling) ∧
      (recallingFrom 0 []).imageOutcome = .noStore ∧ (loadingFrom 4 []).imageOutcome = .unprogrammed ∧
      (loadingFrom 4 [0x4D, 0x45, 0x4E, 0x55, 0, 0x40, 0, 0]).imageOutcome = .failed ∧
      (loadingFrom 4 smallImage).imageOutcome = .loaded 0x0101 ∧
      (recallingFrom 4 smallImage).imageOutcome = .loaded 0x0101 := by decide +kernel

/-- Sections: one that ends at the image's end, one that runs past it, one whose check value is wrong; payloads of
no section, of a CONFIG, of directory entries that are valid or not, of tiles to tile 32767 and past it. -/
theorem witness_LoadAndRecallEndByTheirOutcome_sections :
    (imageSections (imageCells smallImage) 20 1 11).2 = true ∧
      (imageSections (imageCells smallImage) 19 1 11).2 = false ∧
      (imageSections ((18, 0) :: imageCells (smallImage.take 18)) 20 1 11).2 = false ∧
      (sectionActs 0 []).2 = false ∧ (sectionActs 7 []).2 = false ∧
      [(0 : Byte), 0].length = 2 + maskedSize (fieldAt 0 2 [0, 0]) configSizes 0 ∧
      ((5, 4, 6) : Nat × Nat × Nat) ∈ [(2, 3, 20), (3, 2, 16), (4, 1, 19), (5, 4, 6)] ∧
      entryValid 4 [1, 0, 0, 0, 1, 1] = true ∧ entryValid 4 [2, 0, 0, 0, 1, 1] = false ∧
      fieldAt 0 2 [0x01, 0xFF, 0, 1] + 0 < tableSize 4 ∧
      (∀ first ∈ [[(0x7F : Byte), 0xFF], [0x80, 0]],
        (first ++ [0, 1] ++ List.replicate 1024 (0 : Byte)).length =
          4 + fieldAt 2 2 (first ++ [0, 1] ++ List.replicate 1024 0) * 1024) ∧
      fieldAt 0 2 [0x7F, (0xFF : Byte)] + 1 ≤ 32768 ∧ 32768 < fieldAt 0 2 [(0x80 : Byte), 0] + 1 := by
  decide +kernel

/-! ### Witnesses: forward path and raster -/

/-- A quiet state, by its lock and the lines of the frame measured: 1080 match, 1079 do not. -/
theorem lockedAt_quiet :
    ∀ lock ∈ [Lock.unlocked, .acquiring1, .acquiring2, .locked, .slipping1, .slipping2], ∀ n ∈ [1079, 1080],
      (lockedAt lock n).quiet = true ∧ (lockedAt lock n).scene.hotQ = [] ∧
        (lockedAt lock n).raster.lossTimer = some 100 ∧ (lockedAt lock n).raster.inFrame = some ⟨0, false⟩ ∧
        ∀ m ∈ (lockedAt lock n).raster.measure, m.complete = true ∧ m.widthsOk = true ∧
          (m.lines = (lockedAt lock n).raster.settings.hAct ↔ n = 1080) := by decide +kernel

theorem witness_InputFrameStartJudgesAndMovesTheLock :
    (∀ lock ∈ [Lock.unlocked, .acquiring1, .acquiring2, .locked, .slipping1, .slipping2],
      (lockedAt lock 1080).rasterQuiet = true ∧ (lockedAt lock 1079).rasterQuiet = true ∧
        (lockedAt lock 1080).raster.measure = some ⟨1080, true, true⟩ ∧
        (lockedAt lock 1080).raster.settings.hAct = 1080 ∧
        (lockedAt lock 1079).raster.measure = some ⟨1079, true, true⟩ ∧
        (lockedAt lock 1079).scene.hotQ = []) ∧
      calm.rasterQuiet = true ∧ calm.raster.measure = none ∧ calm.raster.lock.follows = false ∧
      ({ calm with raster := { calm.raster with measure := some ⟨3, true, false⟩ } } : State).rasterQuiet = true ∧
      unsettled.rasterQuiet = true := by
  decide +kernel

/-- An input frame in progress in lock or out of it, as many control lines in. -/
def inFrameAt (s : State) (f : InFrame) : State := { s with raster := { s.raster with inFrame := some f } }

theorem witness_ControlAndBlankingLinesAreReceived :
    (∀ f ∈ [(⟨7, false⟩ : InFrame), ⟨8, false⟩, ⟨0, true⟩],
      (inFrameAt calm f).rasterQuiet = true ∧ (inFrameAt calm f).raster.inFrame = some f ∧
        (inFrameAt (loadingFrom 4 []) f).nothingDue = true ∧ (inFrameAt (loadingFrom 4 []) f).loading = true ∧
        (inFrameAt (loadingFrom 4 []) f).raster.inFrame = some f) ∧
      (lockedAt .locked 0).rasterQuiet = true ∧ (lockedAt .locked 0).followsInput = true ∧
      (lockedAt .unlocked 0).rasterQuiet = true ∧ (lockedAt .unlocked 0).followsInput = false ∧
      ∀ n ∈ [44, 45],
        ({ calm with raster := { calm.raster with linePeriods := n } } : State).rasterQuiet = true ∧
          ({ calm with raster := { calm.raster with linePeriods := n } } : State).followsInput = false ∧
          calm.raster.inFrame = none := by
  decide +kernel

theorem witness_OutputLinesAreComposedOverTheirBackground :
    (lockedAt .acquiring2 3).rasterQuiet = true ∧ (lockedAt .acquiring2 3).followsInput = false ∧
      (lockedAt .acquiring2 3).raster.inFrame = some ⟨0, false⟩ ∧
      (lockedAt .slipping2 3).rasterQuiet = true ∧ (lockedAt .slipping2 3).followsInput = true ∧
      (lockedAt .slipping2 3).raster.inFrame = some ⟨0, false⟩ ∧
      (lockedAt .slipping2 3).raster.nextLine < (lockedAt .slipping2 3).raster.record.height ∧
      (let s := { drawn with raster := { drawn.raster with nextLine := 1, linePeriods := 46 } };
        s.rasterQuiet = true ∧ s.followsInput = false ∧ s.raster.linePeriods = 45 + s.raster.nextLine ∧
          s.raster.nextLine < s.raster.record.height) ∧
      (let s := { drawn with raster := { drawn.raster with nextLine := 2, linePeriods := 47 } };
        s.rasterQuiet = true ∧ s.raster.record.height ≤ s.raster.nextLine) ∧
      (calm.rasterQuiet = true ∧ calm.raster.inFrame = none) ∧ unsettled.rasterQuiet = true ∧
      (atPeriod 44 calm).rasterQuiet = true ∧
      (atPeriod 44 calm).raster.linePeriods ≠ 45 + (atPeriod 44 calm).raster.nextLine := by
  decide +kernel

theorem witness_LossIntervalExpiryUnlocks :
    calm.rasterQuiet = true ∧ calm.raster.lossTimer = none ∧
      (lockedAt .acquiring2 3).rasterQuiet = true ∧ (lockedAt .acquiring2 3).raster.lossTimer = some 100 ∧
      (lockedAt .acquiring2 3).raster.lock.follows = false ∧
      (lockedAt .locked 3).rasterQuiet = true ∧ (lockedAt .locked 3).raster.lossTimer = some 100 ∧
      (lockedAt .locked 3).raster.lock.follows = true ∧ (lockedAt .locked 3).scene.hotQ = [] ∧
      (lockedAt .locked 3).panel.inProgress = false ∧
      (let s := { lockedAt .locked 3 with panel := ⟨.pixels [.black], true⟩ };
        s.rasterQuiet = true ∧ s.raster.lossTimer = some 100 ∧ s.raster.lock.follows = true ∧
          s.panel = ⟨.pixels [.black], true⟩) := by
  decide +kernel

/-- Calm, with a page hold timer. -/
def holding (n : Option Nat) : State := { calm with scene := { calm.scene with hold := n } }

/-- The input frame start that keeps the lock, gains it, gives it up, and the fallback frame start at its place and
before it. -/
theorem witness_FallbackFrameStartFlipsAndSettles :
    ((atPeriod 1125 calm).rasterQuiet = true ∧ (atPeriod 1125 calm).followsInput = false ∧
      (atPeriod 1125 calm).raster.linePeriods = (atPeriod 1125 calm).raster.record.height + 45) ∧
      ((atPeriod 1124 calm).rasterQuiet = true ∧
        (atPeriod 1124 calm).raster.linePeriods ≠ (atPeriod 1124 calm).raster.record.height + 45) ∧
      (∀ p ∈ [(Lock.locked, 1080, true, true), (.acquiring2, 1080, false, true), (.slipping2, 1079, true, false)],
        let s := lockedAt p.1 p.2.1
        s.rasterQuiet = true ∧ s.followsInput = p.2.2.1 ∧
          ({ s with group := { s.group with othersReady := true } } : State).judgeFrame.followsInput = p.2.2.2) ∧
      ((lockedAt .locked 0).followsInput = true ∧ (lockedAt .locked 0).raster.lossTimer ≠ none) ∧
      unsettled.rasterQuiet = true ∧ calm.flipDue = false ∧ lively.flipDue = true ∧
      lively.scene.armed = some ⟨.localOnly, 3, false, 0x0101, some 7, 0⟩ ∧
      (holding (some 1)).scene.hold.map (· - 1) = some 0 ∧ (holding none).scene.hold.map (· - 1) ≠ some 0 := by
  decide +kernel

/-! ### Witnesses: line composition, arithmetic, text -/

theorem witness_RegionIsSelectedByTheTenTests :
    let r := platterRegion .badge .price0 42 .none
    let k := { platter .soldOut with regions := [r] }
    let v : View := ⟨.a, 0, 0, 1920, 1080, false⟩
    v.duringLoad = false ∧ r ∈ k.regions ∧ choose k v 0 r = .photoMissing := by decide +kernel

theorem witness_LineListHoldsTheFirst32InPrecedence :
    (⟨.a, 0, 0, 1920, 1080, false⟩ : View).duringLoad = false ∧
      (⟨.a, 0, 0, 1920, 1080, true⟩ : View).duringLoad = true := by decide

/-- A FILL entry in progress at column 1 of 0 to 3. -/
def fillEntry (progress : Progress) : LineEntry :=
  ⟨0, .fill, .cleared, 0, some (0, 3), false, 0, none, none, progress⟩

/-- The builder with a view of 2 lines, a line in hand or none, and its next line. -/
def builderAt (work : Option Work) (next : Nat) : State :=
  { calm with
    builder :=
      { calm.builder with
        view := some ⟨.a, 0, 0, 4, 2, false⟩, work := work, nextLine := next, ring := [⟨0, []⟩, ⟨1, []⟩] } }

/-- A line to take up, none left of the canvas, no ring entry free. -/
theorem witness_LineListHoldsTheFirst32InPrecedence_takeUp :
    calm.builder.view = none ∧ (builderAt none 1).builder.view = some ⟨.a, 0, 0, 4, 2, false⟩ ∧
      (builderAt none 1).builder.nextLine < 2 ∧ (builderAt none 1).builder.ring.length < 4 ∧
      2 ≤ (builderAt none 2).builder.nextLine ∧ 4 ≤ State.reset.builder.ring.length := by decide

theorem witness_SamplesArePlacedInTheFourCases :
    let open4 : List Sample := [⟨.black, 1⟩, ⟨.black, 2⟩, ⟨.black, 3⟩, ⟨.black, 4⟩]
    let ring : List RingEntry := [⟨1, [(0, ⟨[⟨.black, 255⟩], true⟩), (1, ⟨open4, false⟩), (2, ⟨open4.take 3, false⟩)]⟩]
    (pixelAt (ringPixels ring 1) 0).closed = true ∧
      (pixelAt (ringPixels ring 1) 1).closed = false ∧ 4 ≤ (pixelAt (ringPixels ring 1) 1).slots.length ∧
      (pixelAt (ringPixels ring 1) 2).closed = false ∧ (pixelAt (ringPixels ring 1) 2).slots.length < 4 ∧
      (∃ e ∈ ring, e.line = 1) ∧ (⟨.black, 0⟩ : Sample).coverage = 0 ∧ (⟨.black, 255⟩ : Sample).coverage ≠ 0 := by
  decide

/-- A sector held, one not held; a column produced, a column waited at; a FILL entry. -/
theorem witness_SamplesArePlacedInTheFourCases_produce :
    ({ waiting .nothing with
        builder := { (waiting .nothing).builder with reader := ⟨some (39, 0), [], false, .nothing⟩ } } :
      State).builder.reader.held = some (39, 0) ∧
      (waiting .nothing).builder.reader.held ≠ some (39, 0) ∧
      ((waiting .nothing).fetch ((entryOfKind .photo).source 0 0)).2 = true ∧
      ({ waiting .nothing with cache := calm.cache }.fetch ((entryOfKind .photo).source 0 0)).2 = false ∧
      (fillEntry .notStarted).kind = .fill ∧ ∃ r ∈ (waiting .nothing).builder.ring, r.line = 0 := by
  decide +kernel

theorem witness_LineDeadlineFindsTheLineInThreePositions :
    (1 < (⟨.a, 0, 0, 4, 2, false⟩ : View).height) ∧
      (calm.builder.view = none ∧ calm.raster.record.height ≤ 1080 ∧ 1079 < calm.raster.record.height ∧
        calm.builder.work = none ∧ calm.builder.nextLine ≤ 1079) ∧
      (builderAt none 2).builder.work = none ∧ 1 < (builderAt none 2).builder.nextLine ∧
      (∀ w ∈ (builderAt (some ⟨1, []⟩) 2).builder.work, w.line ≠ 0 ∧ w.line = 1) ∧
      0 < (builderAt (some ⟨1, []⟩) 2).builder.nextLine ∧
      inProgressSpan [fillEntry .notStarted] = none ∧
      inProgressSpan [fillEntry .done, fillEntry (.inProgress 1)] = some (.black, 1, 3) ∧
      (∃ e ∈ (builderAt none 2).builder.ring, e.line = 1) ∧ (builderAt none 1).builder.nextLine ≤ 1 := by
  decide

/-- A line start before a scene settled that waits for its hold expiry. -/
theorem witness_LineDeadlineFindsTheLineInThreePositions_unsettled :
    unsettled.scene.hold = some 0 ∧
      unsettled.rasterQuiet = true ∧
      unsettled.followsInput = false ∧ unsettled.raster.linePeriods = 45 + unsettled.raster.nextLine ∧
      unsettled.raster.nextLine < unsettled.raster.record.height ∧ unsettled.builder.view = none ∧
      unsettled.builder.work = none ∧ unsettled.builder.nextLine ≤ unsettled.raster.nextLine ∧
      unsettled.builder.ring = [] := by decide +kernel

theorem witness_RoundingAndBlendingAreExact :
    65025 ≤ 65025 ∧ 255 ≤ 255 ∧ 127 ≤ 127 ∧ 127 ≤ 255 * 255 ∧
      ([⟨1, 2, 3⟩] : List Rgb)[0]? = some ⟨1, 2, 3⟩ ∧
      (pixelAt (ringPixels calm.builder.ring 0) 0).slots = [] ∧
      (⟨[⟨.black, 7⟩, ⟨.black, 255⟩], true⟩ : Pixel).lawful := by
  refine ⟨by decide, by decide, by decide, by decide, rfl, rfl, by decide, by decide, by decide, ?_⟩
  simp

/-- A column of a PHOTO, one of a PRICE inside its text and one outside, and a source pixel at the end of a sector that
the cache holds. -/
theorem witness_SamplesArePlacedInTheFourCases_source :
    ({ fillEntry .done with kind := .photo, photo := some ⟨39, 1, 1⟩ } : LineEntry).photo = some ⟨39, 1, 1⟩ ∧
      (let t : TextRec := ⟨[1], [24], 24, 10, 0, 24, 32, ⟨0, 23, 2⟩⟩;
        ({ fillEntry .done with kind := .price, text := some t } : LineEntry).text = some t ∧
          t.glyphPixel 34 0 = none ∧ t.glyphPixel 33 0 = some (47, 0)) ∧
      cacheOne.valid? 39 0 = some (List.replicate 256 0) ∧ 252 + 4 ≤ (List.replicate 256 (0 : Byte)).length := by
  decide +kernel

theorem witness_SamplesOfEachKindAreFormed :
    ∀ kind ∈ [Kind.fill, .photo, .badge, .price],
      ({ fillEntry .done with kind := kind } : LineEntry).kind = kind ∧
        ({ fillEntry .done with kind := kind } : LineEntry).style.boxOpacity = 0 ∧
        ({ fillEntry .done with style := { Style.cleared with boxOpacity := 1 } } : LineEntry).style.boxOpacity
          ≠ 0 ∧
        (platterRegion kind .price0 40 .dim).kind = kind ∧ 1 ≤ (platterRegion kind .price0 40 .dim).width ∧
        1 ≤ (⟨.a, 0, 0, 1, 1, false⟩ : View).width ∧ 1 ≤ ((platter .soldOut).photo 40).width := by decide +kernel

theorem witness_PriceAndEnergyStringsAreFormed :
    999 < 1000 ∧ 1000 ≤ 1000 ∧ 999999 ≤ 999999 ∧ 9999 ≤ 9999 ∧ styleUsd.lawful := by
  unfold Style.lawful
  decide

/-- A PRICE region 120 wide over item 12, under style 2 whose glyph photo is directory entry 40. -/
def priceRegion (width : Nat) : Region :=
  { platterRegion .price .price0 0 .none with width := width, height := 40 }

/-- The bank of that region; the glyph photo is `tiles` wide. -/
def priceBank (tiles : Nat) : Bank :=
  { platter .available with
    styles := Bank.cleared.styles.set 2 { styleUsd with glyphPhoto := 40 }
    photos := Bank.cleared.photos.set 40 ⟨true, 0, 0, tiles, 2⟩ }

theorem witness_TextIsFittedAndPlaced :
    (textWidth 24 [1, 2] ≤ 48 ∧ 47 < textWidth 24 [1, 2]) ∧
      (let cells := [10, 1, 12, 0, 4, 9];
        125 < textWidth 24 cells ∧ textWidth 24 (cells.filter (· ≠ 12)) ≤ 125 ∧
          100 < textWidth 24 (cells.filter (· ≠ 12)) ∧
          textWidth 24 ((cells.filter (· ≠ 12)).filter (fun c => c ≠ 10 ∧ c ≠ 13)) ≤ 100 ∧
          90 < textWidth 24 ((cells.filter (· ≠ 12)).filter (fun c => c ≠ 10 ∧ c ≠ 13))) ∧
      (priceRegion 40).kind = .price ∧
      (match regionLayout (priceBank 23) (priceRegion 40) with | .text _ o => o | .unusable => false) = true ∧
      (match regionLayout (priceBank 23) (priceRegion 200) with | .text _ o => !o | .unusable => false) = true ∧
      regionLayout (priceBank 22) (priceRegion 200) = .unusable ∧
      itemOf (priceBank 23) (priceRegion 200) ≠ none ∧
      (match itemOf (priceBank 23) (priceRegion 200) with
        | some it => (figureOf it (priceRegion 200).figure).isSome
        | none => false) = true ∧
      (let t : TextRec := ⟨[1, 0, 11, 4, 9], [24, 24, 12, 24, 24], 108, 406, 204, 24, 32, ⟨0, 23, 2⟩⟩;
        1 ≤ t.cellH ∧ 1 ≤ t.width ∧ 1 ≤ (priceRegion 200).width ∧ 1 ≤ (priceRegion 200).height ∧
          1 ≤ (⟨.a, 0, 0, 1, 1, false⟩ : View).width ∧ 1 ≤ (⟨.a, 0, 0, 1, 1, false⟩ : View).height ∧
          t.glyphs[2]? = some 11 ∧ t.advances[2]? = some 12 ∧ t.x0 + (t.advances.take 2).sum ≤ 465 ∧
          465 < t.x0 + (t.advances.take 2).sum + 12) ∧
      glyphUsable ((priceBank 23).photo 40) ((priceBank 23).style 2) = true ∧
      glyphUsable ((priceBank 22).photo 40) ((priceBank 22).style 2) = false := by decide +kernel

/-! ### Witnesses: counters and the flip group -/

theorem witness_CounterAndWindowStepsAreTakenWhereDue :
    (drained.loadDue = false ∧ drained.scene.phase = .draining ∧
      drained.scene.armed = some (armedRecord .group false) ∧ (armedRecord .group false).uploadsAhead = 0 ∧
      (armedRecord .localOnly false).mode = .localOnly ∧ (armedRecord .localOnly false).uploadsAhead = 0) ∧
      (creditSpent.loadDue = false ∧ creditSpent.library.window = some ⟨540, 3, 540, 3⟩) ∧
      (pulseOver.loadDue = false ∧ pulseOver.group.pulse = some 0 ∧ pulseOver.group.role = .leader ∧
        pulseOver.group.participation = true) ∧
      (∀ force ∈ [true, false],
        (inGroup .leader force 3).loadDue = false ∧ (inGroup .leader force 3).scene.phase = .armedGroup ∧
          (inGroup .leader force 3).scene.armed = some (armedRecord .group force) ∧
          (inGroup .leader force 3).group.window = some 3 ∧ (inGroup .leader force 3).group.role = .leader ∧
          1 ≤ 3 ∧ (armedRecord .group force).window ≤ 3 ∧ (armedRecord .group force).force = force) ∧
      (inGroup .member true 5).loadDue = false ∧ (inGroup .member true 5).scene.phase = .armedGroup ∧
      (inGroup .member true 5).scene.armed = some (armedRecord .group true) ∧
      (inGroup .member true 5).group.window = some 5 ∧ (inGroup .member true 5).group.role = .member ∧
      (armedRecord .group true).window + 2 ≤ 5 ∧ (inGroup .member true 5).group.participation = true := by
  decide +kernel

/-- A member that takes part, its filter at a level and a run, the line at a level, in a scene state. -/
def sampled (line filter : Bool) (run : Nat) (phase : Phase) : State :=
  { calmIn phase with
    group := ⟨.member, true, none, none, filter, run, true, line⟩ }

theorem witness_GroupLinesDecideAndAreFiltered :
    ((inGroup .leader true 1).scene.phase = .armedGroup ∧ (inGroup .leader true 1).group.window = some 1 ∧
      (inGroup .leader true 1).group.role = .leader ∧ (inGroup .leader true 1).readyHigh = true ∧
      (inGroup .member true 1).scene.phase = .armedGroup ∧ (inGroup .member true 1).group.window = some 1 ∧
      (inGroup .member true 1).group.role = .member) ∧
      calm.scene.phase ≠ .armedGroup ∧ calm.group.sampling = false ∧
      ((sampled true true 0 .settled).group.sampling = true ∧
        (sampled true true 0 .settled).flipHigh = (sampled true true 0 .settled).group.filterHigh) ∧
      ((sampled true false 1 .settled).flipHigh ≠ (sampled true false 1 .settled).group.filterHigh ∧
        (sampled true false 1 .settled).group.filterRun < 2) ∧
      (∀ phase ∈ [Phase.settled, .seeding, .editing, .draining, .armedLocal, .armedGroup, .committed, .saving,
          .recalling],
        (sampled true false 2 phase).group.sampling = true ∧ (sampled true false 2 phase).flipHigh = true ∧
          (sampled true false 2 phase).group.filterHigh = false ∧
          2 ≤ (sampled true false 2 phase).group.filterRun ∧ (sampled true false 2 phase).scene.phase = phase) ∧
      (sampled false true 2 .armedGroup).flipHigh = false ∧
      (sampled false true 2 .armedGroup).group.filterHigh = true := by decide +kernel

/-! ### Witnesses: the scene controller -/

/-- A command at the head of the table queue of an idle engine, in a quiet state. -/
def takeable (s : State) (c : TableCmd) : Bool :=
  s.quiet && !s.engineBusy && s.scene.tableQ == [c]

theorem witness_StageOpenSeedsStaging :
    takeable (queued .settled .stageOpen) .stageOpen = true ∧
      takeable (queued .editing .stageOpen) .stageOpen = true ∧
      (queued .settled .stageOpen).scene.phase = .settled ∧ (queued .editing .stageOpen).scene.phase ≠ .settled ∧
      (calmIn .seeding).quiet = true ∧ (calmIn .seeding).scene.phase = .seeding ∧
      unseeded.quiet = true ∧ unseeded.scene.phase = .saving ∧
      unseeded.store.save = some ⟨false, [], [3], 0, 0, [], 0xFFFF, 1⟩ := by decide +kernel

/-- Writes of the directory table, one for each outcome: a table of no number, a step of no direction, an
index past the end, an index below 0, a mask bit of no field, a bad entry, 512 as the last index plus 1. -/
theorem witness_TableWriteWritesAllOrNothing :
    (∀ w ∈ [(⟨5, 0, 1, 1, 1, [1]⟩ : TableWriteCmd), ⟨0, 0, 1, 1, 1, [1]⟩, ⟨4, 0, 2, 1, 1, [1]⟩,
        ⟨4, 511, 1, 2, 1, [1, 1]⟩, ⟨4, 0, 0xFF, 2, 1, [1, 1]⟩, ⟨4, 0, 1, 1, 32, []⟩, ⟨4, 0, 1, 1, 1, [2]⟩,
        ⟨4, 511, 1, 1, 1, [1]⟩, ⟨1, 0, 1, 64, 0, []⟩],
      takeable (queued .editing (.tableWrite w)) (.tableWrite w) = true ∧
        takeable (queued .settled (.tableWrite w)) (.tableWrite w) = true) ∧
      writeIndices ⟨4, 0, 2, 1, 1, [1]⟩ = none ∧ writeIndices ⟨4, 511, 1, 2, 1, [1, 1]⟩ = none ∧
      writeIndices ⟨4, 0, 0xFF, 2, 1, [1, 1]⟩ = none ∧
      writeIndices ⟨4, 0, 1, 1, 32, []⟩ = some [0] ∧ 2 ^ (fieldSizes 4).length ≤ 32 ∧ 31 < 2 ^ (fieldSizes 4).length ∧
      (match writeEntries 4 1 [0] [2] (queued .editing .stageOpen).stagingBank with
        | .error i => i == 0
        | .ok _ => false) = true ∧
      writeIndices ⟨4, 511, 1, 1, 1, [1]⟩ = some [511] ∧
      (match writeEntries 4 1 [511] [1] (queued .editing .stageOpen).stagingBank with
        | .error _ => false
        | .ok k => k.count 0 == 1) = true := by decide +kernel

/-- A write of each table at the last index of it, and one with an empty mask. -/
theorem witness_EntryWriteChangesItsEntryAlone :
    (∃ k, Bank.cleared.writeEntry 1 0x20 127 [7] = some k) ∧ (∃ k, Bank.cleared.writeEntry 2 0x01 255 [2] = some k) ∧
      (∃ k, Bank.cleared.writeEntry 3 0x0800 15 [9] = some k) ∧
      (∃ k, Bank.cleared.writeEntry 4 0x01 511 [1] = some k) ∧ (∃ k, Bank.cleared.writeEntry 1 0 0 [] = some k) ∧
      127 < Bank.cleared.regions.length ∧ 255 < Bank.cleared.items.length ∧ 15 < Bank.cleared.styles.length ∧
      511 < Bank.cleared.photos.length :=
  ⟨Option.isSome_iff_exists.1 (by decide +kernel), Option.isSome_iff_exists.1 (by decide +kernel),
    Option.isSome_iff_exists.1 (by decide +kernel), Option.isSome_iff_exists.1 (by decide +kernel),
    Option.isSome_iff_exists.1 (by decide +kernel), by decide +kernel⟩

theorem witness_EntryEncodingIsReadBack :
    (⟨.badge, 4095, 4095, 4095, 4095, 7, 0xFF, some 255, .energy, 15, 511, .right, .hide⟩ : Region).lawful ∧
      (⟨.withdrawn, [999999, 0, 1, 2], some 9999⟩ : Item).lawful ∧ (⟨.available, [], none⟩ : Item).lawful ∧
      styleUsd.lawful ∧ (⟨true, 31, 1023, 1, 1⟩ : Photo).lawful := by
  simp [Region.lawful, Item.lawful, Style.lawful, Photo.lawful, styleUsd, Style.cleared]

/-- A part that takes part, with a command queued. -/
def queuedInGroup (phase : Phase) (c : TableCmd) : State :=
  { queued phase c with group := { calm.group with participation := true } }

/-- FLIP_ARM values at their bounds: window 1 and 255, entry pages 7, NONE and 8, mode and force 2. -/
theorem witness_FlipArmIsCheckedAndArms :
    (∀ f ∈ [(⟨0, 1, 0, 5, 7, 0⟩ : FlipArmCmd), ⟨1, 255, 1, 5, 0xFF, 32⟩, ⟨0, 0, 0, 5, 7, 0⟩, ⟨2, 1, 0, 5, 7, 0⟩,
        ⟨0, 1, 2, 5, 7, 0⟩, ⟨0, 1, 0, 5, 8, 0⟩, ⟨1, 1, 0, 5, 7, 0⟩],
      takeable (queued .editing (.flipArm f)) (.flipArm f) = true ∧
        takeable (queued .settled (.flipArm f)) (.flipArm f) = true ∧
        takeable (queuedInGroup .editing (.flipArm f)) (.flipArm f) = true ∧
        (queued .editing (.flipArm f)).group.participation = false ∧
        (queuedInGroup .editing (.flipArm f)).group.participation = true) ∧
      FlipArmCmd.inRange ⟨1, 255, 1, 5, 0xFF, 32⟩ = true ∧ FlipArmCmd.inRange ⟨0, 1, 0, 5, 8, 0⟩ = false := by
  decide +kernel

theorem witness_CancelAndDiscardEndAPreparation :
    ∀ c ∈ [TableCmd.flipCancel, .stageDiscard],
      (∀ phase ∈ [Phase.settled, .editing, .armedLocal, .committed],
        takeable (queued phase c) c = true ∧ (queued phase c).scene.phase = phase) ∧
      (∀ s ∈ [{ drained with scene := { drained.scene with
            tableQ := [c], armed := some ⟨.group, 3, false, 1, none, 1⟩ } },
          { inGroup .member false 1 with scene := { (inGroup .member false 1).scene with tableQ := [c] } }],
        takeable s c = true ∧ (s.scene.phase = .draining ∨ s.scene.phase = .armedGroup) ∧
          s.group.participation = true) := by decide +kernel

theorem witness_ConfigWriteClampsItsValues :
    (∀ mask ∈ [0x0080, 0x0100, 0x01FF, 0],
      takeable (queued .committed (.configWrite mask [])) (.configWrite mask []) = true ∧
        takeable (queued .settled (.configWrite mask [])) (.configWrite mask []) = true) ∧
      (queued .committed (.configWrite 0x80 [])).scene.phase.armed = true ∧
      (queued .settled (.configWrite 0x80 [])).scene.phase.armed = false ∧ Nat.testBit 0x80 7 = true ∧
      Nat.testBit 0x100 8 = true ∧
      calm.group.participation = false ∧ (queuedInGroup .settled (.configWrite 0 [])).group.participation = true ∧
      (queuedInGroup .settled (.configWrite 0 [])).group.role = .member ∧
      takeable (queuedInGroup .settled (.configWrite 0 [])) (.configWrite 0 []) = true ∧
      calm.library.creditLines = 0 ∧ creditSpent.library.creditLines ≠ 0 := by decide +kernel

/-- Calm, with `n` entries in the page stack. -/
def stacked (n : Nat) : State :=
  { calm with scene := { calm.scene with stack := List.replicate n ⟨1, some 5, 2⟩ } }

theorem witness_HotEntriesAreApplied :
    255 < calm.tables.a.items.length ∧ 255 < calm.tables.b.items.length ∧
      itemStateOfCode 2 = some .withdrawn ∧ 3 ≤ 3 ∧ 7 ≤ 7 ∧ 7 < 8 ∧
      (stacked 7).scene.stack.length < 8 ∧ (stacked 8).scene.stack.length = 8 := by decide +kernel

theorem witness_PagePopRestoresTheTopEntry :
    (stacked 1).scene.stack = ⟨1, some 5, 2⟩ :: [] ∧ calm.scene.stack = [] ∧
      holdEnds.loadDue = false ∧ holdEnds.scene.hold = some 0 ∧ holdEnds.scene.stack = ⟨1, some 40, 2⟩ :: [] ∧
      ({ holdEnds with scene := { holdEnds.scene with stack := [] } } : State).scene.hold = some 0 ∧
      calm.scene.hold ≠ some 0 ∧ holdEnds.status.draft = none ∧
      (let d : StatusDraft := ⟨.locked, 0, none, 32, 4, none, none⟩;
        ({ calm with status := { calm.status with draft := some d } } : State).status.draft = some d) := by decide

/-! ### Witnesses: packets and status -/

theorem witness_PacketsAreFramedCheckedAndDispatched :
    (1 ≤ 0xFF ∧ 0xFF ≤ 255 ∧ (List.replicate 1018 (0 : Byte)).length ≤ 1018 ∧
      Nat.testBit 0x01 calm.straps.board = true ∧ Nat.testBit 0xFE calm.straps.board = false ∧
      packetOf 0 0x10 [] = some (.table .stageOpen) ∧ packetOf 0 0x10 [1] = none) ∧
      ((0x10 : Byte) ≠ 0 ∧ [0x10, 1, (0 : Byte)].length < 4 ∧ 1018 < fieldAt 2 2 [0x10, 1, 3, 0xFB] ∧
        [0x10, 1, 0, 0, (0 : Byte)].length < 4 + fieldAt 2 2 [0x10, 1, 0, 0, 0] + 2 ∧
        4 + fieldAt 2 2 [0x10, 1, 0, 0, 0, 0] + 2 ≤ [0x10, 1, 0, 0, 0, (0 : Byte)].length ∧
        crcBytes (crc16 ([0x10, 1, 0, 0, 0, 0].take 4)) ≠ [0x10, 1, 0, 0, 0, 0].drop 4) ∧
      (calm.scene.tableQ.length < 64 ∧ calm.scene.hotQ.length < 16 ∧ calm.library.uploads.length < 32 ∧
        calm.status.readQ.length < 4) ∧
      64 ≤ full.scene.tableQ.length ∧ 16 ≤ full.scene.hotQ.length ∧ 32 ≤ full.library.uploads.length ∧
      4 ≤ full.status.readQ.length := by decide +kernel

theorem witness_StatusPacketsHaveTheirLayout :
    ({ calm with straps := ⟨7, false, false, 0⟩ } : State).straps.board < 8 ∧
      calm.draftReply ⟨.unlocked, 0, none, 32, 4, none, none⟩ = none ∧
      calm.draftReply ⟨.unlocked, 0, none, 32, 4, none, some ⟨3, 9, 16, 2, []⟩⟩ ≠ none ∧
      calm.status.refusal = none ∧ (calm.refuse 0x10 .state 0 0).status.refusal = some ⟨0x10, 1, 0, 0⟩ ∧
      (calm.outputFrameStart .fallback).holdDue = false ∧
      ((holding (some 1)).outputFrameStart .fallback).holdDue = true := by decide +kernel

/-- Calm, with a watch rectangle and its computation so far. -/
def watching (r : Rect) (rows : Nat) (whole : Bool) : State :=
  { calm with status := { calm.status with watch := some r, watchRun := ⟨0x1234, rows, whole⟩ } }

theorem witness_WatchResultCoversTheClippedRectangle :
    calm.status.watch = none ∧
      ¬(1920 < min (1920 + 5) calm.raster.record.width ∧ 0 < min (0 + 1) calm.raster.record.height) ∧
      (1919 < min (1919 + 5) calm.raster.record.width ∧ 1079 < min (1079 + 5) calm.raster.record.height) ∧
      (watching ⟨1919, 1079, 5, 5⟩ 1 true).status.watchRun.rows =
        min (1079 + 5) calm.raster.record.height - 1079 ∧
      (watching ⟨1919, 1079, 5, 5⟩ 1 true).status.watchRun.whole = true ∧
      (watching ⟨1919, 1079, 5, 5⟩ 0 true).status.watchRun.rows ≠
        min (1079 + 5) calm.raster.record.height - 1079 ∧
      min (1919 + 5) calm.raster.record.width ≤ (List.replicate 1920 Rgb.black).length ∧
      (List.replicate 1919 Rgb.black).length < min (1919 + 5) calm.raster.record.width ∧
      calm.panel.inProgress = false ∧
      ({ calm with panel := ⟨.pixels [.black], true⟩ } : State).panel = ⟨.pixels [.black], true⟩ ∧
      calm.raster.nextLine = 0 ∧ (atPeriod 1125 calm).raster.nextLine = 1079 + 1 ∧
      1079 < min (1079 + 5) (atPeriod 1125 calm).raster.record.height ∧
      1919 < min (1919 + 5) (atPeriod 1125 calm).raster.record.width := by decide +kernel

/-- A store read outstanding, of a part with a store of so many blocks, from an address on. -/
def storeReading (blocks address : Nat) : State :=
  { calm with
    straps := ⟨0, false, false, blocks⟩
    status := { calm.status with storeRead := some ⟨3, 0, address⟩ } }

theorem witness_ReadBackIsAnswered :
    (511 < tableSize 4 ∧ tableSize 4 ≤ 512 ∧ 31 < tableSize 5) ∧
      (∀ p ∈ [(0, 0), (4, 4194288), (4, 4194289)],
        (storeReading p.1 p.2).quiet = true ∧ (storeReading p.1 p.2).status.storeRead = some ⟨3, 0, p.2⟩ ∧
          (storeReading p.1 p.2).scene.phase ≠ .saving ∧ (storeReading p.1 p.2).store.protectJob = none) ∧
      4194288 + 16 ≤ 4 * 1048576 ∧ 4 * 1048576 < 4194289 + 16 := by decide +kernel

/-- A frame start that answers a store reply, one that finds its queue empty or a store read outstanding, and one
that takes a read-back of a table or of the store. -/
theorem witness_ReadBackIsAnswered_frameStart :
    (let s := { calm with status := { calm.status with storeReply := some ⟨3, 0, 16, 2, []⟩ } };
      s.status.storeReply = some ⟨3, 0, 16, 2, []⟩ ∧ (s.outputFrameStart .fallback).holdDue = false) ∧
      (calm.status.storeReply = none ∧ calm.status.readQ = []) ∧
      ((storeReading 4 0).status.storeReply = none ∧ (storeReading 4 0).status.storeRead ≠ none) ∧
      ∀ target ∈ [1, 2, 3],
        let s := { calm with status := { calm.status with readQ := [⟨target, 4, 511⟩] } }
        s.status.storeReply = none ∧ s.status.storeRead = none ∧ s.status.readQ = ⟨target, 4, 511⟩ :: [] ∧
          (s.outputFrameStart .fallback).holdDue = false := by decide +kernel

/-! ### Witnesses: the serial store -/

/-- A page from address 5000 on, which 120 bytes fill, and one that starts a sector. -/
theorem witness_SerialStoreErasesAndPrograms :
    memWf flashFill [(0, 0x4D)] = true ∧ 5000 % 4096 ≠ 0 ∧ 8192 % 4096 = 0 ∧
      256 - 5000 % 256 ≤ (List.replicate 200 (3 : Byte)).length ∧
      ∀ c, 5000 ≤ c → c / 4096 = 5000 / 4096 → memRead flashFill [(0, 0x4D)] c = 0xFF := by
  refine ⟨by decide, by decide, by decide, by rw [List.length_replicate]; decide, fun c h _ => ?_⟩
  have hc : c ≠ 0 := by omega
  simp [memRead, hc, flashFill]

/-- A part with a store, three areas pinned, a command queued, as many blocks write-protected as the marks
say. -/
def storeQueued (blocks : Nat) (marks : BitVec 16) (c : TableCmd) (s : State) : State :=
  { s with
    straps := ⟨0, false, false, blocks⟩
    scene := { s.scene with tableQ := [c] }
    tables := { s.tables with a := { Bank.cleared with counts := [1, 1, 0, 1] } }
    store := { s.store with writeMarks := marks } }

/-- STORE_SAVE and STORE_RECALL, in EDITING, busy, with no store, with block 3 protected, and accepted:
three areas fit a store of 4 megabytes (Section 11's case). -/
theorem witness_StoreSaveAndRecallAreChecked :
    (∀ c ∈ [TableCmd.storeSave, .storeRecall],
      (∀ s ∈ [storeQueued 4 0xFFFF c (calmIn .editing), storeQueued 4 0xFFFF c calm, storeQueued 0 0xFFFF c calm,
          storeQueued 4 0xFFF7 c calm, storeQueued 4 0xFFFF c (storeReading 4 0)],
        takeable s c = true)) ∧
      (storeQueued 4 0xFFFF .storeSave (storeReading 4 0)).status.storeRead ≠ none ∧
      (storeQueued 4 0xFFFF .storeSave calm).pinnedAreas.length = 3 ∧
      9997 + 3 * 1048587 ≤ 4 * 1048576 - 4096 ∧ (9997 + 3 * 1048587 - 1) / 1048576 = 3 ∧
      (storeQueued 4 0xFFF7 .storeSave calm).store.writeMarks.getLsbD 3 = false ∧
      (storeQueued 4 0xFFFF .storeSave calm).store.protectJob = none ∧
      (storeQueued 4 0xFFFF .storeSave calm).status.storeRead = none := by decide +kernel

theorem witness_SaveReadsOnAndEndsWithItsHeader :
    (∀ areas ∈ [[3], []],
      (saving areas).nothingDue = true ∧ (saving areas).loading = false ∧ (saving areas).scene.phase = .saving ∧
        (saving areas).store.save = some ⟨true, [], areas, 0, 5000, [], 0xFFFF, areas.length⟩ ∧
        (saving areas).cache.nextGrant = none ∧ (saving areas).uploadEligible = false) ∧
      memWf flashFill (saving []).store.flash = true ∧ 11 ≤ 5000 ∧
      (∀ a, a < 11 → (saving []).flashByte a = 0xFF) ∧ 4094 + 1 < 4096 ∧ 4095 + 1 = 4096 ∧
      (Bank.cleared.item 0).state ≠ .withdrawn ∧ ((platter .withdrawn).item 12).state = .withdrawn := by
  decide +kernel

theorem witness_StoreProtectClearsMarks :
    (∀ s ∈ [storeQueued 8 0xFFFE (.storeProtect 1) calm, storeQueued 0 0xFFFF (.storeProtect 1) calm,
        storeQueued 4 0xFFFF (.storeProtect 1) (storeReading 4 0)],
      takeable s (.storeProtect 1) = true) ∧
      (storeQueued 8 0xFFFE (.storeProtect 1) calm).store.protectJob = none ∧
      (storeQueued 8 0xFFFE (.storeProtect 1) calm).status.storeRead = none ∧
      protecting.quiet = true ∧ protecting.memoryLaw ∧ protecting.straps.blocks ≠ 0 ∧
      protecting.store.protectJob = some 1 ∧ (1 : BitVec 16).getLsbD 0 = true := by
  unfold State.memoryLaw
  decide +kernel

theorem witness_ProgramTimeoutSetsStoreFault :
    (saving [3]).nothingDue = true ∧ (saving [3]).loading = false ∧ (saving [3]).scene.phase = .saving ∧
      (saving [3]).store.save = some ⟨true, [], [3], 0, 5000, [], 0xFFFF, 1⟩ ∧
      protecting.quiet = true ∧ protecting.memoryLaw ∧ protecting.scene.phase ≠ .saving ∧
      protecting.store.protectJob = some 1 := by
  unfold State.memoryLaw
  decide +kernel

end Sys2Proof.Tests
end

/-! SUPPORT. The reach of the overlay builder: what its work can touch, said once, and that each of its operations
keeps within it. -/

namespace Sys2Proof.Machine

/-! ### The builder's reach -/

/-- All that the overlay builder's work can touch: its own record but for the frozen view, the tile cache, and the
event flags, of which it clears none. -/
def State.BuildsTo (s t : State) : Prop :=
  ∃ b c v, t = { s with builder := b, cache := c, status := { s.status with flags := v } } ∧
    b.view = s.builder.view ∧ ∀ g, s.flagged g = true → t.flagged g = true

namespace State.BuildsTo

theorem refl (s : State) : s.BuildsTo s := ⟨_, _, _, rfl, rfl, fun _ h => h⟩

theorem trans {s t u : State} (h : s.BuildsTo t) (k : t.BuildsTo u) : s.BuildsTo u := by
  obtain ⟨b, c, v, rfl, hview, hflag⟩ := h
  obtain ⟨b', c', v', rfl, hview', hflag'⟩ := k
  exact ⟨b', c', v', rfl, hview'.trans hview, fun g hg => hflag' g (hflag g hg)⟩

theorem of_builder (s : State) (b : Builder) (h : b.view = s.builder.view) :
    s.BuildsTo { s with builder := b } := ⟨b, _, _, rfl, h, fun _ hg => hg⟩

theorem of_builder_cache (s : State) (b : Builder) (c : Cache) (h : b.view = s.builder.view) :
    s.BuildsTo { s with builder := b, cache := c } := ⟨b, c, _, rfl, h, fun _ hg => hg⟩

theorem raise (f : Flag) (s : State) : s.BuildsTo (s.raise f) :=
  ⟨_, _, _, rfl, rfl, fun g => s.flagged_raise_mono f g⟩

theorem raiseAll (fs : List Flag) (s : State) : s.BuildsTo (State.raiseAll fs s) := by
  induction fs generalizing s with
  | nil => exact refl s
  | cons f fs ih => exact (raise f s).trans (ih _)

variable {s t : State} (h : s.BuildsTo t)
include h

theorem raster : t.raster = s.raster := by obtain ⟨b, c, v, rfl, -, -⟩ := h; rfl
theorem straps : t.straps = s.straps := by obtain ⟨b, c, v, rfl, -, -⟩ := h; rfl
theorem panel : t.panel = s.panel := by obtain ⟨b, c, v, rfl, -, -⟩ := h; rfl
theorem tables : t.tables = s.tables := by obtain ⟨b, c, v, rfl, -, -⟩ := h; rfl
theorem scene : t.scene = s.scene := by obtain ⟨b, c, v, rfl, -, -⟩ := h; rfl
theorem library : t.library = s.library := by obtain ⟨b, c, v, rfl, -, -⟩ := h; rfl
theorem group : t.group = s.group := by obtain ⟨b, c, v, rfl, -, -⟩ := h; rfl
theorem store : t.store = s.store := by obtain ⟨b, c, v, rfl, -, -⟩ := h; rfl
theorem status : t.status = { s.status with flags := t.status.flags } := by
  obtain ⟨b, c, v, rfl, -, -⟩ := h; rfl
theorem view : t.builder.view = s.builder.view := by obtain ⟨b, c, v, rfl, hview, -⟩ := h; exact hview
theorem flagged {g : Flag} (hg : s.flagged g = true) : t.flagged g = true := by
  obtain ⟨b, c, v, -, -, hflag⟩ := h; exact hflag g hg

end State.BuildsTo

/-! ### Each of the builder's operations keeps within that reach -/

theorem State.place_buildsTo (line x : Nat) (m : Sample) (s : State) : s.BuildsTo (s.place line x m) := by
  rcases s.place_cases line x m with h | h | ⟨p, -, h⟩ <;> rw [h]
  · exact .refl s
  · exact .raise _ s
  · exact .of_builder s _ rfl

theorem placeAll_buildsTo (line x : Nat) (ms : List Sample) (s : State) :
    s.BuildsTo (placeAll line x ms s) := by
  induction ms generalizing s with
  | nil => exact .refl s
  | cons m ms ih => exact (s.place_buildsTo line x m).trans (ih _)

theorem State.fetch_buildsTo (src : Option PixelSource) (s : State) : s.BuildsTo (s.fetch src).1 := by
  unfold State.fetch
  split
  · exact .refl s
  · split
    · exact .refl s
    · exact .of_builder_cache s _ _ rfl

theorem produce_buildsTo (e : LineEntry) (line n x : Nat) (s : State) :
    s.BuildsTo (produce e line n x s).1 := by
  induction n generalizing x s with
  | zero => exact .refl s
  | succ n ih =>
    have hfetch := s.fetch_buildsTo (e.source line x)
    rw [produce]
    split
    · rename_i h; rwa [h] at hfetch
    · rename_i h
      rw [h] at hfetch
      exact (hfetch.trans (placeAll_buildsTo ..)).trans (ih _ _)

theorem State.readerIdle_buildsTo (s : State) : s.BuildsTo s.readerIdle := .of_builder s _ rfl

theorem workEntry_buildsTo (line : Nat) (e : LineEntry) (s : State) :
    s.BuildsTo (workEntry line e s).2.1 := by
  unfold workEntry
  split
  · exact .refl s
  · exact .refl s
  · rename_i a b _ _
    have h := s.readerIdle_buildsTo.trans (produce_buildsTo e line (b + 1 - a) a s.readerIdle)
    split <;> rename_i hp <;> rwa [hp] at h
  · rename_i next _ b _ _
    have h := produce_buildsTo e line (b + 1 - next) next s
    split <;> rename_i hp <;> rwa [hp] at h

theorem workList_buildsTo (line : Nat) (es : List LineEntry) (s : State) :
    s.BuildsTo (workList line es s).2.1 := by
  induction es generalizing s with
  | nil => exact .refl s
  | cons e es ih =>
    have he := workEntry_buildsTo line e s
    rw [workList]
    split
    · rename_i h; rwa [h] at he
    · rename_i e1 s1 h
      rw [h] at he
      exact he.trans (ih s1)

theorem State.takeUp_buildsTo {s t : State} (h : s.takeUp = some t) : s.BuildsTo t := by
  unfold State.takeUp at h
  split at h
  · cases h
  · split at h
    · cases h
      exact (State.BuildsTo.of_builder s _ (by rfl)).trans (.raiseAll _ _)
    · cases h

theorem runBuilder_buildsTo (n : Nat) (s : State) : s.BuildsTo (runBuilder n s) := by
  induction n generalizing s with
  | zero => exact .refl s
  | succ n ih =>
    rw [runBuilder]
    split
    · rename_i w _
      have hw := workList_buildsTo w.line w.entries s
      split
      · exact .refl s
      · split <;> rename_i h <;> rw [h] at hw
        · exact (hw.trans (.of_builder _ _ (by rfl))).trans (ih _)
        · exact hw.trans (.of_builder _ _ (by rfl))
    · split
      · exact .refl s
      · rename_i h
        exact (State.takeUp_buildsTo h).trans (ih _)

theorem State.build_buildsTo (s : State) : s.BuildsTo s.build := runBuilder_buildsTo 10 s

theorem State.lineLate_buildsTo (s : State) : s.BuildsTo s.lineLate :=
  (State.BuildsTo.raise _ s).trans (.of_builder _ _ rfl)

theorem State.neverTakenUp_buildsTo (y : Nat) (s : State) : s.BuildsTo (s.neverTakenUp y) :=
  s.lineLate_buildsTo.trans (.of_builder _ _ rfl)

/-- The line deadline keeps within the builder's reach (R62 to R64). -/
theorem State.deadline_buildsTo (y : Nat) (s : State) : s.BuildsTo (s.deadline y) := by
  unfold State.deadline
  split
  · exact .refl s
  · split
    · split
      · exact (State.BuildsTo.of_builder s _ (by rfl)).trans (State.lineLate_buildsTo _)
      · split
        · exact s.neverTakenUp_buildsTo y
        · exact .refl s
    · split
      · exact s.neverTakenUp_buildsTo y
      · exact .refl s

theorem State.freeLineBefore_buildsTo (y : Nat) (s : State) : s.BuildsTo (s.freeLineBefore y) :=
  .of_builder s _ rfl

theorem State.wake_buildsTo (tile sector : Nat) (s : State) : s.BuildsTo (s.wake tile sector) := by
  unfold State.wake
  split
  · exact .refl s
  · exact .of_builder s _ rfl
  · exact .of_builder s _ rfl
  · split
    · split
      · exact .of_builder_cache s _ _ rfl
      · exact .of_builder s _ rfl
    · exact .refl s

/-- A fill completion keeps within the builder's reach (R102, R105). -/
theorem State.completeFill_buildsTo (r : GrantedRead) (rest : List GrantedRead) (s : State) :
    s.BuildsTo (s.completeFill r rest) :=
  ((State.BuildsTo.of_builder_cache s s.builder (s.cache.complete r rest) rfl).trans
    (State.wake_buildsTo r.tile r.sector _)).trans (State.build_buildsTo _)

end Sys2Proof.Machine

/-! SUPPORT. The reach of the scene controller and the group sync unit, and from it, field by field, what an output
frame start and the end of a line in progress leave. -/

namespace Sys2Proof.Machine

/-! ### The reach of the scene controller and the group sync unit -/

/-- All that the scene controller and the group sync unit can touch: the tables, their own records but for role and
participation, and in the status unit the flags, the last refusal and the watch rectangle. -/
def State.ControlsTo (s t : State) : Prop :=
  ∃ tb sc g v r w,
    t = { s with
      tables := tb
      scene := sc
      group := g
      status := { s.status with flags := v, refusal := r, watch := w } } ∧
    g.role = s.group.role ∧ g.participation = s.group.participation

namespace State.ControlsTo

theorem refl (s : State) : s.ControlsTo s := ⟨_, _, _, _, _, _, rfl, rfl, rfl⟩

theorem trans {s t u : State} (h : s.ControlsTo t) (k : t.ControlsTo u) : s.ControlsTo u := by
  obtain ⟨tb, sc, g, v, r, w, rfl, hrole, hpart⟩ := h
  obtain ⟨tb', sc', g', v', r', w', rfl, hrole', hpart'⟩ := k
  exact ⟨tb', sc', g', v', r', w', rfl, hrole'.trans hrole, hpart'.trans hpart⟩

theorem raise (f : Flag) (s : State) : s.ControlsTo (s.raise f) := ⟨_, _, _, _, _, _, rfl, rfl, rfl⟩

theorem refuse (p : Nat) (why : Reason) (tb i : Nat) (s : State) : s.ControlsTo (s.refuse p why tb i) :=
  ⟨_, _, _, _, _, _, rfl, rfl, rfl⟩

theorem of_scene (s : State) (c : Scene) : s.ControlsTo { s with scene := c } :=
  ⟨_, _, _, _, _, _, rfl, rfl, rfl⟩

theorem of_tables_scene (s : State) (tb : Tables) (c : Scene) :
    s.ControlsTo { s with tables := tb, scene := c } := ⟨_, _, _, _, _, _, rfl, rfl, rfl⟩

theorem of_scene_group (s : State) (c : Scene) (g : Group) (hrole : g.role = s.group.role)
    (hpart : g.participation = s.group.participation) : s.ControlsTo { s with scene := c, group := g } :=
  ⟨_, _, _, _, _, _, rfl, hrole, hpart⟩

variable {s t : State} (h : s.ControlsTo t)
include h

theorem raster : t.raster = s.raster := by obtain ⟨tb, sc, g, v, r, w, rfl, -, -⟩ := h; rfl
theorem straps : t.straps = s.straps := by obtain ⟨tb, sc, g, v, r, w, rfl, -, -⟩ := h; rfl
theorem panel : t.panel = s.panel := by obtain ⟨tb, sc, g, v, r, w, rfl, -, -⟩ := h; rfl
theorem builder : t.builder = s.builder := by obtain ⟨tb, sc, g, v, r, w, rfl, -, -⟩ := h; rfl
theorem cache : t.cache = s.cache := by obtain ⟨tb, sc, g, v, r, w, rfl, -, -⟩ := h; rfl
theorem library : t.library = s.library := by obtain ⟨tb, sc, g, v, r, w, rfl, -, -⟩ := h; rfl
theorem store : t.store = s.store := by obtain ⟨tb, sc, g, v, r, w, rfl, -, -⟩ := h; rfl
theorem role : t.group.role = s.group.role := by obtain ⟨tb, sc, g, v, r, w, rfl, hrole, -⟩ := h; exact hrole
theorem participation : t.group.participation = s.group.participation := by
  obtain ⟨tb, sc, g, v, r, w, rfl, -, hpart⟩ := h; exact hpart
theorem watchRun : t.status.watchRun = s.status.watchRun := by
  obtain ⟨tb, sc, g, v, r, w, rfl, -, -⟩ := h; rfl
theorem draft : t.status.draft = s.status.draft := by
  obtain ⟨tb, sc, g, v, r, w, rfl, -, -⟩ := h; rfl

end State.ControlsTo

/-! ### The frame-start update keeps within it -/

theorem State.popEntry_controlsTo (e : StackEntry) (rest : List StackEntry) (s : State) :
    s.ControlsTo (s.popEntry e rest) := .of_scene s _

/-- The hold timer's pop, and its clearing on an empty stack (R136). -/
theorem State.holdPop_controlsTo (s : State) : s.ControlsTo s.holdPop := by
  unfold State.holdPop
  split
  · exact s.popEntry_controlsTo _ _
  · exact (State.ControlsTo.raise .stackEmpty s).trans (.of_scene _ _)

theorem State.popIfDue_controlsTo (s : State) : s.ControlsTo s.popIfDue := by
  unfold State.popIfDue
  split
  · exact s.holdPop_controlsTo
  · exact .refl s

theorem State.flip_controlsTo (s : State) : s.ControlsTo s.flip := by
  unfold State.flip
  simp only
  split <;> exact .of_tables_scene s _ _

theorem State.flipIfDue_controlsTo (s : State) : s.ControlsTo s.flipIfDue := by
  rcases s.flipIfDue_cases with ⟨-, h⟩ | ⟨-, h⟩ <;> rw [h]
  · exact s.flip_controlsTo
  · exact .refl s

theorem State.pushPage_controlsTo (page duration threshold : Nat) (s : State) :
    s.ControlsTo (s.pushPage page duration threshold) := by
  unfold State.pushPage
  simp only
  split
  · exact (State.ControlsTo.raise .stackWrap s).trans (.of_scene _ _)
  · exact .of_scene s _

/-- One hot change (R133 to R135, R167, R170). -/
theorem applyHot_controlsTo (c : HotCmd) (p : State × Bool) : p.1.ControlsTo (applyHot c p).1 := by
  cases c with
  | itemState item code =>
    simp only [applyHot]
    split
    · exact .of_tables_scene _ _ _
    · exact .refuse ..
  | pageSet page =>
    simp only [applyHot]
    split
    · exact .of_scene _ _
    · exact .refuse ..
  | pagePush page duration threshold =>
    simp only [applyHot]
    split
    · exact State.pushPage_controlsTo ..
    · exact .refuse ..
  | pagePop =>
    simp only [applyHot]
    split
    · exact .raise ..
    · exact State.popEntry_controlsTo ..
  | thresholdSet t => exact .of_scene _ _
  | watchSet r => exact ⟨_, _, _, _, _, _, rfl, rfl, rfl⟩
  | eventClear mask => exact ⟨_, _, _, _, _, _, rfl, rfl, rfl⟩

theorem applyHots_controlsTo (cs : List HotCmd) (p : State × Bool) : p.1.ControlsTo (applyHots cs p).1 := by
  induction cs generalizing p with
  | nil => exact .refl _
  | cons c cs ih => exact (applyHot_controlsTo c p).trans (ih _)

theorem State.applyHotQueue_controlsTo (s : State) : s.ControlsTo s.applyHotQueue.1 :=
  (State.ControlsTo.of_scene s { s.scene with hotQ := [] }).trans
    (applyHots_controlsTo s.scene.hotQ ({ s with scene := { s.scene with hotQ := [] } }, false))

/-- The hold timer of R136: a count taken from a running timer that this update has not touched. -/
theorem State.runHoldTimer_eq (touched : Bool) (s : State) :
    s.runHoldTimer touched =
      { s with
        scene :=
          { s.scene with
            hold := if touched = true then s.scene.hold else s.scene.hold.map (· - 1) } } := by
  unfold State.runHoldTimer
  split <;> rename_i h
  · simp only [h, Option.map_none, ite_self]
    rw [← h]
  · cases touched
    · simp [h]
    · simp

theorem State.frameUpdate_controlsTo (s : State) : s.ControlsTo s.frameUpdate := by
  unfold State.frameUpdate
  rw [State.runHoldTimer_eq]
  exact (s.flipIfDue_controlsTo.trans (State.applyHotQueue_controlsTo _)).trans (.of_scene _ _)

/-! ### The group sync unit keeps within it -/

theorem State.commit_controlsTo (s : State) : s.ControlsTo s.commit := .of_scene_group s _ _ rfl rfl

theorem State.disarm_controlsTo (p : Phase) (s : State) : s.ControlsTo (s.disarm p) :=
  .of_scene_group s _ _ rfl rfl

theorem State.groupFrameStart_controlsTo (s : State) : s.ControlsTo s.groupFrameStart := by
  rcases s.groupFrameStart_cases with ⟨-, h⟩ | ⟨-, h | ⟨-, h⟩⟩ <;> rw [h]
  · exact .refl s
  · exact .of_scene_group s _ _ rfl rfl
  · exact .of_scene_group s _ _ rfl rfl

theorem State.enterArmed_controlsTo (s : State) : s.ControlsTo s.enterArmed := by
  unfold State.enterArmed
  split
  · exact .of_scene_group s _ _ rfl rfl
  · exact .of_scene s _
  · exact .refl s

theorem State.leaderWindowEnds_controlsTo (s : State) : s.ControlsTo s.leaderWindowEnds := by
  have hraise := State.ControlsTo.raise .flipTimeout s
  unfold State.leaderWindowEnds
  simp only
  split
  · split
    · exact hraise.trans (.of_scene_group _ _ _ rfl rfl)
    · exact hraise.trans (State.disarm_controlsTo _ _)
  · exact hraise.trans (State.disarm_controlsTo _ _)

theorem State.memberWindowEnds_controlsTo (s : State) : s.ControlsTo s.memberWindowEnds :=
  (State.ControlsTo.raise .flipTimeout s).trans (State.disarm_controlsTo _ _)

/-- The pulse timer's count at a line start, whether it runs or not (R144). -/
theorem State.pulseLine_eq (s : State) :
    s.pulseLine = { s with group := { s.group with pulse := s.group.pulse.map (· - 1) } } := by
  unfold State.pulseLine
  split <;> rename_i h
  · rw [h, Option.map_none, ← h]
  · simp [h]

theorem State.pulseRecognized_controlsTo (s : State) : s.ControlsTo s.pulseRecognized := by
  unfold State.pulseRecognized
  split
  · exact s.commit_controlsTo
  · exact .raise _ s
  · exact .raise _ s
  · exact .raise _ s
  all_goals exact .refl s

theorem State.sampleFlip_controlsTo (s : State) : s.ControlsTo s.sampleFlip := by
  unfold State.sampleFlip
  simp only
  split
  · split
    · exact .of_scene_group s _ _ rfl rfl
    · split
      · exact .of_scene_group s _ _ rfl rfl
      · split
        · exact (State.ControlsTo.of_scene_group s s.scene
            { s.group with filterHigh := s.flipHigh, filterRun := 0 } rfl rfl).trans
            (State.pulseRecognized_controlsTo _)
        · exact .of_scene_group s _ _ rfl rfl
  · exact .refl s

/-! ### The steps that a counter brings due -/

theorem State.settleDrained_controlsTo (s : State) : s.ControlsTo s.settleDrained := by
  unfold State.settleDrained
  split
  · exact s.enterArmed_controlsTo
  · exact .refl s

theorem State.settlePulse_controlsTo (s : State) : s.ControlsTo s.settlePulse := by
  unfold State.settlePulse
  split
  · exact .of_scene_group s _ _ rfl rfl
  · exact .refl s

theorem State.settleLeaderWindow_controlsTo (s : State) : s.ControlsTo s.settleLeaderWindow := by
  unfold State.settleLeaderWindow
  split
  · exact s.leaderWindowEnds_controlsTo
  · exact .refl s

theorem State.settleMemberWindow_controlsTo (s : State) : s.ControlsTo s.settleMemberWindow := by
  unfold State.settleMemberWindow
  split
  · exact s.memberWindowEnds_controlsTo
  · exact .refl s

/-! ### An output frame start -/

/-- The status unit's taking of a read request touches its read queue and its store read alone (R169). -/
theorem State.serveRead_cases (s : State) :
    ∃ q n r, s.serveRead.1 = { s with status := { s.status with readQ := q, storeRead := n, storeReply := r } } := by
  unfold State.serveRead
  split
  · exact ⟨_, _, _, rfl⟩
  · exact ⟨_, _, _, rfl⟩
  · exact ⟨_, _, _, rfl⟩
  · split <;> exact ⟨_, _, _, rfl⟩

/-- The frame opened: the record latched, the builder at its reset values, a packet begun with the watch result of the
frame just ended; flags, last refusal and watch rectangle stay (R10, R45, R166, R170). -/
theorem State.openFrame_cases (src : Source) (s : State) :
    ∃ k st d, s.openFrame src =
        { s with
          raster := s.raster.latch src
          panel := { s.panel with inProgress := false }
          builder := .atReset
          tick := k
          status := st } ∧
      st.flags = s.status.flags ∧ st.refusal = s.status.refusal ∧ st.watch = s.status.watch ∧
      st.draft = some d ∧ d.watch = s.watchResult := by
  unfold State.openFrame
  simp only
  generalize hc : State.closeBuilder _ = c
  obtain ⟨n, k, hcut⟩ := c.cutPacket_cases
  rw [hcut]
  generalize hl : ({ c with tick := k, status := _ } : State) = l
  obtain ⟨q, m, r, hserve⟩ := l.serveRead_cases
  unfold State.beginStatus
  simp only [hserve]
  subst hl hc
  exact ⟨k, _, _, rfl, rfl, rfl, rfl, rfl, rfl⟩

/-- Scene settled is the packet sent and the view frozen, and then the builder's work (R46, R166). -/
theorem State.settleScene_cases (s : State) :
    ∃ lane d, State.BuildsTo
      (State.freezeView { s with status := { s.status with lane := lane, draft := d } }) s.settleScene := by
  unfold State.settleScene State.completeStatus
  split
  · exact ⟨s.status.lane, s.status.draft, State.build_buildsTo _⟩
  · exact ⟨_, _, State.build_buildsTo _⟩

section SettleScene
variable (s : State)

@[simp] theorem State.settleScene_raster : s.settleScene.raster = s.raster := by
  obtain ⟨l, d, h⟩ := s.settleScene_cases; exact h.raster
@[simp] theorem State.settleScene_straps : s.settleScene.straps = s.straps := by
  obtain ⟨l, d, h⟩ := s.settleScene_cases; exact h.straps
@[simp] theorem State.settleScene_panel : s.settleScene.panel = s.panel := by
  obtain ⟨l, d, h⟩ := s.settleScene_cases; exact h.panel
@[simp] theorem State.settleScene_tables : s.settleScene.tables = s.tables := by
  obtain ⟨l, d, h⟩ := s.settleScene_cases; exact h.tables
@[simp] theorem State.settleScene_scene : s.settleScene.scene = s.scene := by
  obtain ⟨l, d, h⟩ := s.settleScene_cases; exact h.scene
@[simp] theorem State.settleScene_library : s.settleScene.library = s.library := by
  obtain ⟨l, d, h⟩ := s.settleScene_cases; exact h.library
@[simp] theorem State.settleScene_group : s.settleScene.group = s.group := by
  obtain ⟨l, d, h⟩ := s.settleScene_cases; exact h.group
@[simp] theorem State.settleScene_store : s.settleScene.store = s.store := by
  obtain ⟨l, d, h⟩ := s.settleScene_cases; exact h.store
@[simp] theorem State.settleScene_watch : s.settleScene.status.watch = s.status.watch := by
  obtain ⟨l, d, h⟩ := s.settleScene_cases; rw [h.status]; rfl
@[simp] theorem State.settleScene_refusal : s.settleScene.status.refusal = s.status.refusal := by
  obtain ⟨l, d, h⟩ := s.settleScene_cases; rw [h.status]; rfl

theorem State.settleScene_view :
    s.settleScene.builder.view =
      some ⟨s.tables.active, s.scene.page, s.scene.threshold, s.raster.record.width, s.raster.record.height,
        s.loading⟩ := by
  obtain ⟨l, d, h⟩ := s.settleScene_cases; exact h.view

theorem State.settleScene_flagged {g : Flag} (hg : s.flagged g = true) : s.settleScene.flagged g = true := by
  obtain ⟨l, d, h⟩ := s.settleScene_cases; exact h.flagged hg

end SettleScene

/-- Up to scene settled, an output frame start opens the frame behind the pop that may be due, and then stays within
the controllers' reach. -/
theorem State.beginFrame_controlsTo (src : Source) (s : State) :
    (s.popIfDue.openFrame src).ControlsTo (s.beginFrame src) :=
  (State.frameUpdate_controlsTo _).trans (State.groupFrameStart_controlsTo _)

section FrameStart
variable (src : Source) (s : State)

@[simp] theorem State.beginFrame_raster : (s.beginFrame src).raster = s.raster.latch src := by
  obtain ⟨k, st, d, h, -⟩ := s.popIfDue.openFrame_cases src
  rw [(s.beginFrame_controlsTo src).raster, h, ← s.popIfDue_controlsTo.raster]
@[simp] theorem State.beginFrame_straps : (s.beginFrame src).straps = s.straps := by
  obtain ⟨k, st, d, h, -⟩ := s.popIfDue.openFrame_cases src
  rw [(s.beginFrame_controlsTo src).straps, h, ← s.popIfDue_controlsTo.straps]
@[simp] theorem State.beginFrame_panel : (s.beginFrame src).panel = { s.panel with inProgress := false } := by
  obtain ⟨k, st, d, h, -⟩ := s.popIfDue.openFrame_cases src
  rw [(s.beginFrame_controlsTo src).panel, h, ← s.popIfDue_controlsTo.panel]
@[simp] theorem State.beginFrame_builder : (s.beginFrame src).builder = .atReset := by
  obtain ⟨k, st, d, h, -⟩ := s.popIfDue.openFrame_cases src
  rw [(s.beginFrame_controlsTo src).builder, h]
@[simp] theorem State.beginFrame_cache : (s.beginFrame src).cache = s.cache := by
  obtain ⟨k, st, d, h, -⟩ := s.popIfDue.openFrame_cases src
  rw [(s.beginFrame_controlsTo src).cache, h, ← s.popIfDue_controlsTo.cache]
@[simp] theorem State.beginFrame_library : (s.beginFrame src).library = s.library := by
  obtain ⟨k, st, d, h, -⟩ := s.popIfDue.openFrame_cases src
  rw [(s.beginFrame_controlsTo src).library, h, ← s.popIfDue_controlsTo.library]
@[simp] theorem State.beginFrame_store : (s.beginFrame src).store = s.store := by
  obtain ⟨k, st, d, h, -⟩ := s.popIfDue.openFrame_cases src
  rw [(s.beginFrame_controlsTo src).store, h, ← s.popIfDue_controlsTo.store]
@[simp] theorem State.beginFrame_role : (s.beginFrame src).group.role = s.group.role := by
  obtain ⟨k, st, d, h, -⟩ := s.popIfDue.openFrame_cases src
  rw [(s.beginFrame_controlsTo src).role, h, ← s.popIfDue_controlsTo.role]
@[simp] theorem State.beginFrame_participation :
    (s.beginFrame src).group.participation = s.group.participation := by
  obtain ⟨k, st, d, h, -⟩ := s.popIfDue.openFrame_cases src
  rw [(s.beginFrame_controlsTo src).participation, h, ← s.popIfDue_controlsTo.participation]

@[simp] theorem State.outputFrameStart_raster : (s.outputFrameStart src).raster = s.raster.latch src := by
  rcases s.outputFrameStart_cases src with ⟨-, h⟩ | ⟨-, h⟩ <;> simp [h]
@[simp] theorem State.outputFrameStart_straps : (s.outputFrameStart src).straps = s.straps := by
  rcases s.outputFrameStart_cases src with ⟨-, h⟩ | ⟨-, h⟩ <;> simp [h]
@[simp] theorem State.outputFrameStart_panel :
    (s.outputFrameStart src).panel = { s.panel with inProgress := false } := by
  rcases s.outputFrameStart_cases src with ⟨-, h⟩ | ⟨-, h⟩ <;> simp [h]
@[simp] theorem State.outputFrameStart_library : (s.outputFrameStart src).library = s.library := by
  rcases s.outputFrameStart_cases src with ⟨-, h⟩ | ⟨-, h⟩ <;> simp [h]
@[simp] theorem State.outputFrameStart_store : (s.outputFrameStart src).store = s.store := by
  rcases s.outputFrameStart_cases src with ⟨-, h⟩ | ⟨-, h⟩ <;> simp [h]
@[simp] theorem State.outputFrameStart_role : (s.outputFrameStart src).group.role = s.group.role := by
  rcases s.outputFrameStart_cases src with ⟨-, h⟩ | ⟨-, h⟩ <;> simp [h]
@[simp] theorem State.outputFrameStart_participation :
    (s.outputFrameStart src).group.participation = s.group.participation := by
  rcases s.outputFrameStart_cases src with ⟨-, h⟩ | ⟨-, h⟩ <;> simp [h]

end FrameStart

/-! ### Ending the line in progress -/

/-- The line cut short: panel, watch computation and the model's counter alone change (R13, R14, R79). -/
theorem State.cutLine_eq (s : State) :
    ∃ p k r, s.cutLine = { s with panel := p, tick := k, status := { s.status with watchRun := r } } := by
  rcases s.cutLine_cases with ⟨-, h⟩ | ⟨px, -, h | ⟨sent, -, h⟩⟩
  · exact ⟨s.panel, s.tick, s.status.watchRun, h⟩
  · exact ⟨_, _, _, h⟩
  · obtain ⟨r, hr⟩ := s.watchCut_cases sent
    rw [hr] at h
    exact ⟨_, _, r, h⟩

section CutLine
variable (s : State)

@[simp] theorem State.cutLine_raster : s.cutLine.raster = s.raster := by
  obtain ⟨p, k, r, h⟩ := s.cutLine_eq; rw [h]
@[simp] theorem State.cutLine_straps : s.cutLine.straps = s.straps := by
  obtain ⟨p, k, r, h⟩ := s.cutLine_eq; rw [h]
@[simp] theorem State.cutLine_tables : s.cutLine.tables = s.tables := by
  obtain ⟨p, k, r, h⟩ := s.cutLine_eq; rw [h]
@[simp] theorem State.cutLine_scene : s.cutLine.scene = s.scene := by
  obtain ⟨p, k, r, h⟩ := s.cutLine_eq; rw [h]
@[simp] theorem State.cutLine_builder : s.cutLine.builder = s.builder := by
  obtain ⟨p, k, r, h⟩ := s.cutLine_eq; rw [h]
@[simp] theorem State.cutLine_library : s.cutLine.library = s.library := by
  obtain ⟨p, k, r, h⟩ := s.cutLine_eq; rw [h]
@[simp] theorem State.cutLine_group : s.cutLine.group = s.group := by
  obtain ⟨p, k, r, h⟩ := s.cutLine_eq; rw [h]
@[simp] theorem State.cutLine_store : s.cutLine.store = s.store := by
  obtain ⟨p, k, r, h⟩ := s.cutLine_eq; rw [h]
@[simp] theorem State.cutLine_flags : s.cutLine.status.flags = s.status.flags := by
  obtain ⟨p, k, r, h⟩ := s.cutLine_eq; rw [h]

end CutLine

/-! ### An output line start -/

/-- The mixer sends its line to the panel, and the watch computation takes it in (R17, R170). -/
theorem State.mix_eq (y : Nat) (background : List Rgb) (s : State) :
    s.mix y background =
      { s with
        panel := ⟨.pixels (s.mixed y background), true⟩
        status :=
          { s.status with watchRun := (s.watchLine y (s.mixed y background)).status.watchRun } } := by
  unfold State.mix State.watchLine State.watchClip
  simp only
  split
  · rfl
  · split <;> rfl

/-- The line's count in the credit window, whether one runs or not (R113). -/
theorem State.creditLine_eq (s : State) :
    s.creditLine =
      { s with
        library :=
          { s.library with window := s.library.window.map fun w => { w with lines := w.lines + 1 } } } := by
  unfold State.creditLine
  split <;> rename_i h
  · rw [h, Option.map_none, ← h]
  · simp [h]

end Sys2Proof.Machine

/-! SUPPORT. An output line start, field by field, and what the reading of an image can apply. -/

namespace Sys2Proof.Machine

/-! ### An output line start -/

/-- The line composed: its deadline, the mixer's line, the ring entry before it freed, the builder gone on. -/
def State.composeLine (background : List Rgb) (s : State) : State :=
  (((s.deadline s.raster.nextLine).mix s.raster.nextLine background).freeLineBefore s.raster.nextLine).build

theorem State.outputLineStart_eq (background : List Rgb) (s : State) :
    s.outputLineStart background =
      { s.composeLine background with
        raster := { (s.composeLine background).raster with nextLine := s.raster.nextLine + 1 } }.clockLine := rfl

/-- The clocked counters of a line start: credit window and pulse timer count, then the filter samples (R113, R144,
R146). -/
theorem State.clockLine_eq (s : State) :
    s.clockLine =
      State.sampleFlip
        { s with
          library := { s.library with window := s.library.window.map fun w => { w with lines := w.lines + 1 } }
          group := { s.group with pulse := s.group.pulse.map (· - 1) } } := by
  rw [State.clockLine, State.creditLine_eq, State.pulseLine_eq]

/-- A composed line: the panel carries the mixed pixels, the watch computation has taken them in, and the rest is
within the builder's reach. -/
theorem State.composeLine_cases (background : List Rgb) (s : State) :
    ∃ b c v, s.composeLine background =
        { s with
          panel := ⟨.pixels ((s.deadline s.raster.nextLine).mixed s.raster.nextLine background), true⟩
          builder := b
          cache := c
          status :=
            { s.status with
              flags := v
              watchRun :=
                (State.watchLine s.raster.nextLine
                  ((s.deadline s.raster.nextLine).mixed s.raster.nextLine background) s).status.watchRun } } ∧
      ∀ g, s.flagged g = true → (s.composeLine background).flagged g = true := by
  generalize hy : s.raster.nextLine = y
  obtain ⟨b, c, v, hd, -, hflag⟩ := s.deadline_buildsTo y
  have hrest := ((State.freeLineBefore_buildsTo y ((s.deadline y).mix y background)).trans
    (State.build_buildsTo _))
  obtain ⟨b', c', v', hb, -, hflag'⟩ := hrest
  have hcompose : s.composeLine background = (((s.deadline y).mix y background).freeLineBefore y).build := by
    rw [State.composeLine, hy]
  have hwatch : ∀ out, ((s.deadline y).watchLine y out).status.watchRun = (s.watchLine y out).status.watchRun := by
    intro out
    rw [hd]
    unfold State.watchLine State.watchClip
    simp only
    split
    · rfl
    · split <;> rfl
  refine ⟨b', c', v', ?_, fun g hg => ?_⟩
  · rw [hcompose, hb, State.mix_eq, hwatch]
    generalize (s.deadline y).mixed y background = out
    rw [hd]
  · rw [hcompose]
    refine hflag' g ?_
    rw [State.mix_eq]
    exact hflag g hg

section ComposeLine
variable (background : List Rgb) (s : State)

@[simp] theorem State.composeLine_raster : (s.composeLine background).raster = s.raster := by
  obtain ⟨b, c, v, h, -⟩ := s.composeLine_cases background; rw [h]
@[simp] theorem State.composeLine_straps : (s.composeLine background).straps = s.straps := by
  obtain ⟨b, c, v, h, -⟩ := s.composeLine_cases background; rw [h]
@[simp] theorem State.composeLine_tables : (s.composeLine background).tables = s.tables := by
  obtain ⟨b, c, v, h, -⟩ := s.composeLine_cases background; rw [h]
@[simp] theorem State.composeLine_scene : (s.composeLine background).scene = s.scene := by
  obtain ⟨b, c, v, h, -⟩ := s.composeLine_cases background; rw [h]
@[simp] theorem State.composeLine_library : (s.composeLine background).library = s.library := by
  obtain ⟨b, c, v, h, -⟩ := s.composeLine_cases background; rw [h]
@[simp] theorem State.composeLine_group : (s.composeLine background).group = s.group := by
  obtain ⟨b, c, v, h, -⟩ := s.composeLine_cases background; rw [h]
@[simp] theorem State.composeLine_store : (s.composeLine background).store = s.store := by
  obtain ⟨b, c, v, h, -⟩ := s.composeLine_cases background; rw [h]

end ComposeLine

section LineStart
variable (background : List Rgb) (s : State)

@[simp] theorem State.outputLineStart_raster :
    (s.outputLineStart background).raster = { s.raster with nextLine := s.raster.nextLine + 1 } := by
  rw [State.outputLineStart_eq, State.clockLine_eq, (State.sampleFlip_controlsTo _).raster]
  simp
@[simp] theorem State.outputLineStart_straps : (s.outputLineStart background).straps = s.straps := by
  rw [State.outputLineStart_eq, State.clockLine_eq, (State.sampleFlip_controlsTo _).straps]
  simp
@[simp] theorem State.outputLineStart_library :
    (s.outputLineStart background).library =
      { s.library with window := s.library.window.map fun w => { w with lines := w.lines + 1 } } := by
  rw [State.outputLineStart_eq, State.clockLine_eq, (State.sampleFlip_controlsTo _).library]
  simp
@[simp] theorem State.outputLineStart_store : (s.outputLineStart background).store = s.store := by
  rw [State.outputLineStart_eq, State.clockLine_eq, (State.sampleFlip_controlsTo _).store]
  simp
@[simp] theorem State.outputLineStart_role : (s.outputLineStart background).group.role = s.group.role := by
  rw [State.outputLineStart_eq, State.clockLine_eq, (State.sampleFlip_controlsTo _).role]
  simp
@[simp] theorem State.outputLineStart_participation :
    (s.outputLineStart background).group.participation = s.group.participation := by
  rw [State.outputLineStart_eq, State.clockLine_eq, (State.sampleFlip_controlsTo _).participation]
  simp

end LineStart

/-! ### Reading the image -/

theorem entryActs_entry (table n i : Nat) (bs : List Byte) :
    ∀ a ∈ (entryActs table n i bs).1, ∃ j b, a = .entry table j b := by
  induction n generalizing i bs with
  | zero => simp [entryActs]
  | succ n ih =>
    intro a ha
    simp only [entryActs] at ha
    split at ha
    · rcases List.mem_cons.1 ha with rfl | ha
      · exact ⟨_, _, rfl⟩
      · exact ih _ _ a ha
    · simp at ha

theorem sectorActs_sector (first n k : Nat) (bs : List Byte) :
    ∀ a ∈ sectorActs first n k bs, ∃ t m b, a = .sector t m b := by
  induction n generalizing k bs with
  | zero => simp [sectorActs]
  | succ n ih =>
    intro a ha
    rcases List.mem_cons.1 ha with rfl | ha
    · exact ⟨_, _, _, rfl⟩
    · exact ih _ _ a ha

/-- A configuration in a section is one that R159 clamps. -/
theorem sectionActs_config (kind : Nat) (payload : List Byte) (f : ConfigFields)
    (h : .config f ∈ (sectionActs kind payload).1) : ∃ mask data, f = configFields mask data := by
  unfold sectionActs at h
  simp only at h
  split at h
  · split at h
    · simp only [List.mem_singleton, ImageAct.config.injEq] at h
      exact ⟨_, _, h⟩
    · simp at h
  iterate 4
    split at h
    · obtain ⟨j, b, hj⟩ := entryActs_entry _ _ _ _ _ h
      cases hj
    · simp at h
  · split at h
    · obtain ⟨t, m, b, hs⟩ := sectorActs_sector _ _ _ _ _ h
      cases hs
    · simp at h
  · simp at h

theorem imageSections_config (m : List Host.Cell) (len n a : Nat) (f : ConfigFields)
    (h : .config f ∈ (imageSections m len n a).1) : ∃ mask data, f = configFields mask data := by
  induction n generalizing a with
  | zero => simp [imageSections] at h
  | succ n ih =>
    simp only [imageSections] at h
    split at h
    · simp at h
    · split at h
      · exact sectionActs_config _ _ f h
      · rcases List.mem_append.1 h with h | h
        · exact sectionActs_config _ _ f h
        · exact ih _ h

/-- A configuration that the loader takes from an image is one that R159 clamps. -/
theorem State.imageRest_config (s : State) (f : ConfigFields) (h : .config f ∈ s.imageRest) :
    ∃ mask data, f = configFields mask data := by
  have h := List.mem_of_mem_drop h
  unfold readImage at h
  split at h
  · simp at h
  · split at h
    · simp at h
    · simp only at h
      split at h
      · simp at h
      · exact imageSections_config _ _ _ _ f h

/-- What every application of a list keeps, applying any number of them keeps. -/
theorem applyActs_keeps {P : State → Prop} {f : ImageAct → State → State} (acts : List ImageAct)
    (h : ∀ a ∈ acts, ∀ s, P s → P (f a s)) (n : Nat) (s : State) (hs : P s) : P (applyActs f acts n s).1 := by
  induction acts generalizing n s with
  | nil => exact hs
  | cons a acts ih =>
    cases n with
    | zero => exact hs
    | succ n =>
      exact ih (fun b hb => h b (List.mem_cons_of_mem a hb)) n (f a s) (h a (List.mem_cons_self ..) s hs)

/-- What every application of the image keeps, and no note of how far the image has come touches, the work on the
image keeps. -/
theorem State.applyImage_keeps {P : State → Prop} {f : ImageAct → State → State} (n : Nat) (s : State)
    (h : ∀ a ∈ s.imageRest, ∀ u, P u → P (f a u))
    (hpos : ∀ u k, P u → P { u with store := { u.store with imagePos := k } }) (hs : P s) :
    P (s.applyImage f n) :=
  hpos _ _ (applyActs_keeps s.imageRest h n s hs)

end Sys2Proof.Machine

/-! SUPPORT. What each command leaves of straps, settings, marks, raster and store contents. -/

namespace Sys2Proof.Machine

/-! ### What stands before a command -/

/-- The states in which a command finds the part: behind the steps that stand before it (log 4). -/
inductive State.Before (s : State) : State → Prop where
  | settleLoad : s.Before s.settleLoad
  | prelude : s.Before s.prelude
  | rasterPrelude : s.Before s.rasterPrelude

/-- Nothing stands before a command in a quiet state. -/
theorem State.Before.eq_of_quiet {s u : State} (hq : s.quiet = true) (h : s.Before u) : u = s := by
  cases h with
  | settleLoad => exact s.settleLoad_of_not_due (s.loadDue_of_not_loading (s.loading_of_quiet hq))
  | prelude => exact s.prelude_of_quiet hq
  | rasterPrelude => exact s.rasterPrelude_of_rasterQuiet (s.rasterQuiet_of_quiet hq)

/-! ### What a command leaves of the setup -/

/-- Straps, settings and marks stand as they were (R4, R140, R173, R178). -/
structure State.KeepsSetup (s t : State) : Prop where
  straps : t.straps = s.straps
  settings : t.raster.settings = s.raster.settings
  creditLines : t.library.creditLines = s.library.creditLines
  creditLimit : t.library.creditLimit = s.library.creditLimit
  role : t.group.role = s.group.role
  participation : t.group.participation = s.group.participation
  writeMarks : t.store.writeMarks = s.store.writeMarks
  readMarks : t.store.readMarks = s.store.readMarks

theorem State.KeepsSetup.refl (s : State) : s.KeepsSetup s := ⟨rfl, rfl, rfl, rfl, rfl, rfl, rfl, rfl⟩

theorem State.KeepsSetup.trans {s t u : State} (h : s.KeepsSetup t) (k : t.KeepsSetup u) : s.KeepsSetup u :=
  ⟨k.straps.trans h.straps, k.settings.trans h.settings, k.creditLines.trans h.creditLines,
    k.creditLimit.trans h.creditLimit, k.role.trans h.role, k.participation.trans h.participation,
    k.writeMarks.trans h.writeMarks, k.readMarks.trans h.readMarks⟩

/-- Setup and raster stand as they were. -/
structure State.KeepsRaster (s t : State) : Prop extends s.KeepsSetup t where
  raster : t.raster = s.raster

theorem State.KeepsRaster.refl (s : State) : s.KeepsRaster s := ⟨.refl s, rfl⟩

theorem State.KeepsRaster.trans {s t u : State} (h : s.KeepsRaster t) (k : t.KeepsRaster u) : s.KeepsRaster u :=
  ⟨h.toKeepsSetup.trans k.toKeepsSetup, k.raster.trans h.raster⟩

/-- Setup, raster and store contents stand as they were. -/
structure State.KeepsFlash (s t : State) : Prop extends s.KeepsRaster t where
  flash : t.store.flash = s.store.flash

theorem State.KeepsFlash.refl (s : State) : s.KeepsFlash s := ⟨.refl s, rfl⟩

theorem State.KeepsFlash.trans {s t u : State} (h : s.KeepsFlash t) (k : t.KeepsFlash u) : s.KeepsFlash u :=
  ⟨h.toKeepsRaster.trans k.toKeepsRaster, k.flash.trans h.flash⟩

/-- What touches none of these fields keeps them all. -/
theorem State.KeepsFlash.of_eq {s t : State} (straps : t.straps = s.straps) (raster : t.raster = s.raster)
    (lines : t.library.creditLines = s.library.creditLines)
    (limit : t.library.creditLimit = s.library.creditLimit) (role : t.group.role = s.group.role)
    (part : t.group.participation = s.group.participation) (wm : t.store.writeMarks = s.store.writeMarks)
    (rm : t.store.readMarks = s.store.readMarks) (flash : t.store.flash = s.store.flash) : s.KeepsFlash t :=
  ⟨⟨⟨straps, by rw [raster], lines, limit, role, part, wm, rm⟩, raster⟩, flash⟩

theorem State.BuildsTo.keepsFlash {s t : State} (h : s.BuildsTo t) : s.KeepsFlash t := by
  obtain ⟨b, c, v, rfl, -, -⟩ := h
  exact .of_eq rfl rfl rfl rfl rfl rfl rfl rfl rfl

theorem State.ControlsTo.keepsFlash {s t : State} (h : s.ControlsTo t) : s.KeepsFlash t := by
  obtain ⟨tb, sc, g, v, r, w, rfl, hrole, hpart⟩ := h
  exact .of_eq rfl rfl rfl rfl hrole hpart rfl rfl rfl

theorem State.settleScene_keepsFlash (s : State) : s.KeepsFlash s.settleScene :=
  .of_eq (by simp) (by simp) (by simp) (by simp) (by simp) (by simp) (by simp) (by simp) (by simp)

/-! ### The steps due and the store controller's work -/

theorem State.settleCredit_keepsFlash (s : State) : s.KeepsFlash s.settleCredit := by
  unfold State.settleCredit
  split
  · exact .of_eq rfl rfl rfl rfl rfl rfl rfl rfl rfl
  · exact .refl s

theorem State.settleHold_keepsFlash (s : State) : s.KeepsFlash s.settleHold := by
  unfold State.settleHold
  split
  · exact s.holdPop_controlsTo.keepsFlash.trans (State.settleScene_keepsFlash _)
  · exact .refl s

theorem State.settleCounters_keepsFlash (s : State) : s.KeepsFlash s.settleCounters :=
  (s.settleDrained_controlsTo.keepsFlash.trans (State.settleCredit_keepsFlash _)).trans
    (((State.settlePulse_controlsTo _).trans (State.settleLeaderWindow_controlsTo _)).trans
      (State.settleMemberWindow_controlsTo _)).keepsFlash

theorem State.saveGoesOn_keepsRaster (s : State) : s.KeepsRaster s.saveGoesOn := by
  rcases s.saveGoesOn_cases with ⟨-, h⟩ | ⟨j, -, -, -, h⟩ <;> rw [h]
  · exact .refl s
  · exact ⟨⟨rfl, rfl, rfl, rfl, rfl, rfl, rfl, rfl⟩, rfl⟩

theorem recallAct_keepsFlash (a : ImageAct) (s : State) : s.KeepsFlash (recallAct a s) := by
  cases a with
  | config f => exact .refl s
  | sector t n bs => exact .refl s
  | entry table i bs =>
    simp only [recallAct]
    split
    · exact .of_eq rfl rfl rfl rfl rfl rfl rfl rfl rfl
    · exact .refl s

/-- A RECALL's work on the image leaves setup, raster and store contents as they were (R175). -/
theorem State.applyImage_recallAct_keepsFlash (n : Nat) (s : State) :
    s.KeepsFlash (s.applyImage recallAct n) :=
  s.applyImage_keeps (P := s.KeepsFlash) n (fun a _ u hu => hu.trans (recallAct_keepsFlash a u))
    (fun _ _ hu => hu.trans (.of_eq rfl rfl rfl rfl rfl rfl rfl rfl rfl)) (.refl s)

theorem State.applyImageRest_recallAct_keepsFlash (s : State) :
    s.KeepsFlash (s.applyImageRest recallAct) := s.applyImage_recallAct_keepsFlash _

/-! ### The table commands -/

theorem State.refuse_keepsFlash (p : Nat) (why : Reason) (tb i : Nat) (s : State) :
    s.KeepsFlash (s.refuse p why tb i) := (State.ControlsTo.refuse p why tb i s).keepsFlash

theorem State.takeHead_keepsFlash (s : State) : s.KeepsFlash s.takeHead :=
  (State.ControlsTo.of_scene s _).keepsFlash

theorem State.enter_keepsFlash (p : Phase) (s : State) : s.KeepsFlash (s.enter p) :=
  (State.ControlsTo.of_scene s _).keepsFlash

theorem State.setStaging_keepsFlash (k : Bank) (s : State) : s.KeepsFlash (s.setStaging k) :=
  (State.ControlsTo.of_tables_scene s _ s.scene).keepsFlash

theorem State.openStage_keepsFlash (s : State) : s.KeepsFlash s.openStage := by
  unfold State.openStage
  split
  · exact s.enter_keepsFlash _
  · exact s.refuse_keepsFlash ..

theorem State.writeTable_keepsFlash (w : TableWriteCmd) (s : State) : s.KeepsFlash (s.writeTable w) := by
  unfold State.writeTable
  split
  · exact s.refuse_keepsFlash ..
  · split
    · exact s.refuse_keepsFlash ..
    · split
      · exact s.refuse_keepsFlash ..
      · split
        · exact s.refuse_keepsFlash ..
        · split
          · exact s.refuse_keepsFlash ..
          · exact s.setStaging_keepsFlash _

theorem State.armFlip_keepsFlash (f : FlipArmCmd) (s : State) : s.KeepsFlash (s.armFlip f) := by
  have harmed : s.KeepsFlash { s with scene := { s.scene with armed := some f.record } } :=
    (State.ControlsTo.of_scene s _).keepsFlash
  unfold State.armFlip
  split
  · exact s.refuse_keepsFlash ..
  · split
    · exact s.refuse_keepsFlash ..
    · split
      · exact s.refuse_keepsFlash ..
      · simp only
        split
        · exact harmed.trans (State.enterArmed_controlsTo _).keepsFlash
        · exact harmed.trans (State.enter_keepsFlash _ _)

theorem State.cancelFlip_keepsFlash (s : State) : s.KeepsFlash s.cancelFlip := by
  unfold State.cancelFlip
  cases s.scene.phase with
  | draining | armedLocal | armedGroup => exact (s.disarm_controlsTo _).keepsFlash
  | committed => exact s.refuse_keepsFlash ..
  | editing | settled | seeding | saving | recalling => exact .refl s

theorem State.discardStage_keepsFlash (s : State) : s.KeepsFlash s.discardStage := by
  unfold State.discardStage
  cases s.scene.phase with
  | draining | armedLocal | armedGroup | editing => exact (s.disarm_controlsTo _).keepsFlash
  | committed | settled | seeding | saving | recalling => exact .refl s

theorem State.startSave_keepsFlash (s : State) : s.KeepsFlash s.startSave := by
  unfold State.startSave
  split
  · exact s.refuse_keepsFlash ..
  · split
    · exact s.refuse_keepsFlash ..
    · split
      · exact s.refuse_keepsFlash ..
      · split
        · exact s.refuse_keepsFlash ..
        · exact .of_eq rfl rfl rfl rfl rfl rfl rfl rfl rfl

theorem State.startRecall_keepsFlash (s : State) : s.KeepsFlash s.startRecall := by
  unfold State.startRecall
  split
  · exact s.refuse_keepsFlash ..
  · split
    · exact s.refuse_keepsFlash ..
    · exact .of_eq rfl rfl rfl rfl rfl rfl rfl rfl rfl

/-! ### The library and the ends of store operations -/

theorem State.grantUpload_keepsFlash (u : Upload) (rest : List Upload) (s : State) :
    s.KeepsFlash (s.grantUpload u rest) := by
  have hcredit : s.KeepsFlash { s with library := { s.library with uploads := rest }.creditGrant } := by
    unfold Library.creditGrant
    simp only
    split <;> exact .of_eq rfl rfl rfl rfl rfl rfl rfl rfl rfl
  unfold State.grantUpload
  refine hcredit.trans (State.KeepsFlash.trans ?_ (State.ControlsTo.of_scene _ _).keepsFlash)
  split
  · exact State.refuse_keepsFlash ..
  · exact .of_eq rfl rfl rfl rfl rfl rfl rfl rfl rfl

theorem State.saveSector_keepsRaster (j : SaveJob) (area : Nat) (rest : List Nat) (s : State) :
    s.KeepsRaster (s.saveSector j area rest) := by
  unfold State.saveSector
  simp only
  split <;> exact ⟨⟨rfl, rfl, rfl, rfl, rfl, rfl, rfl, rfl⟩, rfl⟩

theorem State.recallEnds_keepsFlash (s : State) : s.KeepsFlash s.recallEnds := by
  have himage : s.KeepsFlash ((s.applyImageRest recallAct).setStoreState s.imageOutcome.storeState) :=
    s.applyImageRest_recallAct_keepsFlash.trans (.of_eq rfl rfl rfl rfl rfl rfl rfl rfl rfl)
  unfold State.recallEnds
  generalize (s.applyImageRest recallAct).setStoreState s.imageOutcome.storeState = u at himage
  cases s.imageOutcome with
  | loaded tag => exact himage.trans (State.ControlsTo.of_scene u _).keepsFlash
  | noStore | unprogrammed | failed =>
    exact himage.trans ((State.ControlsTo.raise .storeFault u).trans (.of_scene _ _)).keepsFlash

theorem State.protectEnds_keepsRaster (s : State) : s.KeepsRaster s.protectEnds := by
  unfold State.protectEnds
  split
  · exact .refl s
  · exact ⟨⟨rfl, rfl, rfl, rfl, rfl, rfl, rfl, rfl⟩, rfl⟩

theorem State.protectStops_keepsRaster (s : State) : s.KeepsRaster s.protectStops := by
  obtain ⟨k, m, h⟩ := s.protectStops_cases
  rw [h]
  exact ⟨⟨rfl, rfl, rfl, rfl, rfl, rfl, rfl, rfl⟩, rfl⟩

theorem State.saveStops_keepsRaster (s : State) : s.KeepsRaster s.saveStops := by
  obtain ⟨k, m, h⟩ := s.saveStops_cases
  rw [h]
  exact ⟨⟨rfl, rfl, rfl, rfl, rfl, rfl, rfl, rfl⟩, rfl⟩

theorem State.programTimeout_keepsRaster (s : State) : s.KeepsRaster s.programTimeout := by
  unfold State.programTimeout
  split
  · split
    · exact (s.saveStops_keepsRaster.trans (State.ControlsTo.raise _ _).keepsFlash.toKeepsRaster).trans
        (State.enter_keepsFlash _ _).toKeepsRaster
    · exact .refl s
  · exact s.protectStops_keepsRaster.trans (State.ControlsTo.raise _ _).keepsFlash.toKeepsRaster
  · exact .refl s

/-! ### The commands that write neither setting nor mark nor store -/

theorem execFillGrant_keepsFlash {s t : State} (h : execFillGrant s = .next t) : s.prelude.KeepsFlash t := by
  unfold execFillGrant at h
  generalize s.prelude = u at h ⊢
  simp only at h
  split at h <;> cases h
  · exact .refl _
  · exact .of_eq rfl rfl rfl rfl rfl rfl rfl rfl rfl


theorem execFillCompletion_keepsFlash {s t : State} (h : execFillCompletion s = .next t) :
    s.prelude.KeepsFlash t := by
  unfold execFillCompletion at h
  generalize s.prelude = u at h ⊢
  simp only at h
  split at h <;> cases h
  · exact .refl _
  · exact (State.completeFill_buildsTo ..).keepsFlash


theorem execTileWrite_keepsFlash {s t : State} (h : execTileWrite s = .next t) : s.prelude.KeepsFlash t := by
  unfold execTileWrite at h
  generalize s.prelude = u at h ⊢
  simp only at h
  split at h
  · split at h <;> cases h
    · exact State.grantUpload_keepsFlash ..
    · exact .refl _
  · cases h
    exact .refl _


theorem execStageOpen_keepsFlash {s t : State} (h : execStageOpen s = .next t) : s.prelude.KeepsFlash t := by
  unfold execStageOpen at h
  generalize s.prelude = u at h ⊢
  simp only at h
  split at h <;> cases h
  · exact (State.takeHead_keepsFlash _).trans (State.openStage_keepsFlash _)
  · exact .refl _


theorem execTableWrite_keepsFlash {s t : State} (h : execTableWrite s = .next t) : s.prelude.KeepsFlash t := by
  unfold execTableWrite at h
  generalize s.prelude = u at h ⊢
  simp only at h
  split at h <;> cases h
  · exact (State.takeHead_keepsFlash _).trans (State.writeTable_keepsFlash _ _)
  · exact .refl _


theorem execFlipArm_keepsFlash {s t : State} (h : execFlipArm s = .next t) : s.prelude.KeepsFlash t := by
  unfold execFlipArm at h
  generalize s.prelude = u at h ⊢
  simp only at h
  split at h <;> cases h
  · exact (State.takeHead_keepsFlash _).trans (State.armFlip_keepsFlash _ _)
  · exact .refl _


theorem execFlipCancel_keepsFlash {s t : State} (h : execFlipCancel s = .next t) : s.prelude.KeepsFlash t := by
  unfold execFlipCancel at h
  generalize s.prelude = u at h ⊢
  simp only at h
  split at h <;> cases h
  · exact (State.takeHead_keepsFlash _).trans (State.cancelFlip_keepsFlash _)
  · exact .refl _


theorem execStageDiscard_keepsFlash {s t : State} (h : execStageDiscard s = .next t) : s.prelude.KeepsFlash t := by
  unfold execStageDiscard at h
  generalize s.prelude = u at h ⊢
  simp only at h
  split at h <;> cases h
  · exact (State.takeHead_keepsFlash _).trans (State.discardStage_keepsFlash _)
  · exact .refl _


theorem execStoreSave_keepsFlash {s t : State} (h : execStoreSave s = .next t) : s.prelude.KeepsFlash t := by
  unfold execStoreSave at h
  generalize s.prelude = u at h ⊢
  simp only at h
  split at h <;> cases h
  · exact (State.takeHead_keepsFlash _).trans (State.startSave_keepsFlash _)
  · exact .refl _


theorem execStoreRecall_keepsFlash {s t : State} (h : execStoreRecall s = .next t) : s.prelude.KeepsFlash t := by
  unfold execStoreRecall at h
  generalize s.prelude = u at h ⊢
  simp only at h
  split at h <;> cases h
  · exact (State.takeHead_keepsFlash _).trans (State.startRecall_keepsFlash _)
  · exact .refl _


theorem execRecallCompletion_keepsFlash {s t : State} (h : execRecallCompletion s = .next t) :
    s.prelude.KeepsFlash t := by
  unfold execRecallCompletion at h
  generalize s.prelude = u at h ⊢
  simp only at h
  split at h <;> cases h
  · exact State.recallEnds_keepsFlash _
  · exact .refl _


theorem execStoreReadCompletion_keepsFlash {s t : State} (h : execStoreReadCompletion s = .next t) :
    s.prelude.KeepsFlash t := by
  unfold execStoreReadCompletion at h
  generalize s.prelude = u at h ⊢
  simp only at h
  split at h <;> cases h
  · exact .of_eq rfl rfl rfl rfl rfl rfl rfl rfl rfl
  · exact .refl _


/-! ### The commands that write the store -/

theorem execSeedCompletion_keepsRaster {s t : State} (h : execSeedCompletion s = .next t) :
    s.prelude.KeepsRaster t := by
  unfold execSeedCompletion at h
  generalize s.prelude = u at h ⊢
  simp only at h
  split at h
  · cases h
    exact ((State.setStaging_keepsFlash _ _).trans (State.enter_keepsFlash _ _)).toKeepsRaster
  · split at h <;> cases h
    · exact .refl _
    · exact ⟨⟨rfl, rfl, rfl, rfl, rfl, rfl, rfl, rfl⟩, rfl⟩
  · cases h
    exact .refl _


theorem execSaveReadGrant_keepsRaster {s t : State} (h : execSaveReadGrant s = .next t) :
    s.prelude.KeepsRaster t := by
  unfold execSaveReadGrant at h
  generalize s.prelude = u at h ⊢
  simp only at h
  split at h
  · split at h
    · cases h
      exact .refl _
    · split at h <;> cases h
      · exact State.saveSector_keepsRaster ..
      · exact .refl _
  · cases h
    exact .refl _


theorem execSaveCompletion_keepsRaster {s t : State} (h : execSaveCompletion s = .next t) :
    s.prelude.KeepsRaster t := by
  unfold execSaveCompletion at h
  generalize s.prelude = u at h ⊢
  simp only at h
  split at h
  · split at h <;> cases h
    · exact ⟨⟨rfl, rfl, rfl, rfl, rfl, rfl, rfl, rfl⟩, rfl⟩
    · exact .refl _
  · cases h
    exact .refl _


end Sys2Proof.Machine

/-! SUPPORT. The law of the raster: what stands before a command keeps it, and every command keeps it. -/

namespace Sys2Proof.Machine

/-! ### The packet parser and the receiver -/

theorem dispatch_keepsFlash (k : Packet) (s : State) : s.KeepsFlash (dispatch k s) := by
  rcases dispatch_cases k s with ⟨c, -, -, h⟩ | ⟨c, -, -, h⟩ | ⟨u, -, -, h⟩ | ⟨r, -, -, h⟩ | ⟨f, h⟩ <;> rw [h]
  · exact (State.ControlsTo.of_scene s _).keepsFlash
  · exact (State.ControlsTo.of_scene s _).keepsFlash
  · exact .of_eq rfl rfl rfl rfl rfl rfl rfl rfl rfl
  · exact .of_eq rfl rfl rfl rfl rfl rfl rfl rfl rfl
  · exact (State.ControlsTo.raise f s).keepsFlash

theorem checkPacket_keepsFlash (type target : Nat) (p : List Byte) (s : State) :
    s.KeepsFlash (checkPacket type target p s) := by
  rcases checkPacket_cases type target p s with h | h | ⟨k, -, h⟩ <;> rw [h]
  · exact .refl s
  · exact (State.ControlsTo.raise _ s).keepsFlash
  · exact dispatch_keepsFlash k s

theorem parseFrom_keepsFlash (n : Nat) (bs : List Byte) (s : State) : s.KeepsFlash (parseFrom n bs s) := by
  have hbad : s.KeepsFlash (s.raise .packetBad) := (State.ControlsTo.raise _ s).keepsFlash
  induction n generalizing bs s with
  | zero => exact .refl s
  | succ n ih =>
    cases bs with
    | nil => exact .refl s
    | cons b bs =>
      simp only [parseFrom]
      split
      · exact .refl s
      · split
        · exact hbad
        · split
          · exact hbad
          · split
            · exact hbad
            · split
              · exact hbad
              · exact (checkPacket_keepsFlash _ _ _ s).trans
                  (ih _ _ (State.ControlsTo.raise _ _).keepsFlash)

theorem parseLine_keepsFlash (stream : List Byte) (s : State) : s.KeepsFlash (parseLine stream s) :=
  parseFrom_keepsFlash ..

theorem State.blankIfInput_keepsFlash (s : State) : s.KeepsFlash s.blankIfInput := by
  unfold State.blankIfInput
  split
  · exact .of_eq rfl rfl rfl rfl rfl rfl rfl rfl rfl
  · exact .refl s

/-- A control line counted in the input frame in progress (R2). -/
def State.countControl (f : InFrame) (s : State) : State :=
  { s with raster := { s.raster with inFrame := some { f with controls := f.controls + 1 } } }

/-- Beyond its count, the receiver leaves setup, raster and store as they were (R2). -/
theorem State.receiveControl_keepsFlash (f : InFrame) (cols : List Rgb) (s : State) :
    (s.countControl f).KeepsFlash (s.receiveControl f cols) := by
  unfold State.receiveControl
  simp only
  split
  · exact (State.ControlsTo.raise _ _).keepsFlash
  · split
    · exact .refl _
    · exact parseLine_keepsFlash _ _

/-! ### The two halves of the raster's law -/

/-- The law of the settings and of the receiver: what an output frame start does not touch (R4, R6, R9). -/
def Raster.receiverLaw (r : Raster) : Prop :=
  r.settings.lawful ∧ r.measure.isSome = r.lossTimer.isSome ∧ r.inFrame.isSome = r.lossTimer.isSome ∧
    (r.measure = none → r.lock = .unlocked)

/-- The law of the frame in progress: its canvas, its source, the place of its lines (R10, R11, R12). -/
def Raster.frameLaw (r : Raster) : Prop :=
  640 ≤ r.record.width ∧ r.record.width ≤ 1920 ∧ 360 ≤ r.record.height ∧ r.record.height ≤ 1080 ∧
    (r.record.source = .input ↔ r.lock.follows = true) ∧
    (r.record.source = .fallback →
      r.nextLine = r.linePeriods - 45 ∧ r.linePeriods ≤ r.record.height + 45)

/-- The output follows the input as the lock state says (R11). -/
theorem State.followsInput_eq (s : State) : s.followsInput = s.raster.lock.follows := by
  unfold State.followsInput Lock.follows
  cases s.raster.lock <;> rfl

theorem State.rasterLaw_iff (s : State) : s.rasterLaw ↔ s.raster.receiverLaw ∧ s.raster.frameLaw := by
  unfold State.rasterLaw Raster.receiverLaw Raster.frameLaw
  rw [State.followsInput_eq]
  tauto

theorem State.KeepsRaster.rasterLaw {s t : State} (h : s.KeepsRaster t) (hs : s.rasterLaw) : t.rasterLaw := by
  rw [State.rasterLaw_iff] at hs ⊢
  rwa [h.raster]

/-- Either the source is the input or it is the fallback raster. -/
theorem Source.fallback_iff (src : Source) : src = .fallback ↔ src ≠ .input := by
  cases src <;> simp

/-- The frame latched is lawful where its source is the one the lock asks for (R10, R11). -/
theorem Raster.latch_frameLaw {r : Raster} {src : Source} (hset : r.settings.lawful)
    (hsrc : src = .input ↔ r.lock.follows = true) : (r.latch src).frameLaw := by
  obtain ⟨hw, hw', -, hh, hh', -⟩ := hset
  exact ⟨hw, hw', hh, hh', hsrc, fun _ => ⟨rfl, Nat.zero_le _⟩⟩

/-- An output frame start of the source the lock asks for gives the raster its whole law. -/
theorem State.outputFrameStart_rasterLaw {s : State} {src : Source} (hrec : s.raster.receiverLaw)
    (hsrc : src = .input ↔ s.raster.lock.follows = true) : (s.outputFrameStart src).rasterLaw := by
  rw [State.rasterLaw_iff, State.outputFrameStart_raster]
  exact ⟨hrec, Raster.latch_frameLaw hrec.1 hsrc⟩

/-! ### Settings -/

theorem clampTo_bounds (lo hi v : Nat) (h : lo ≤ hi) : lo ≤ clampTo lo hi v ∧ clampTo lo hi v ≤ hi := by
  unfold clampTo
  omega

/-- W_ACT as R159 clamps it: in its range, and a multiple of 16 (R4). -/
theorem clampWidth_bounds (v : Nat) : 640 ≤ clampWidth v ∧ clampWidth v ≤ 1920 ∧ clampWidth v % 16 = 0 := by
  have h := clampTo_bounds 640 1920 v (by decide)
  unfold clampWidth
  omega

/-- A configuration as R159 clamps it keeps every setting in its range. -/
theorem Settings.configure_lawful {g : Settings} (hg : g.lawful) (mask : Nat) (data : List Byte) :
    (g.configure (configFields mask data)).lawful := by
  obtain ⟨hw, hw', hw16, hh, hh', hl, hl', hp, hp'⟩ := hg
  unfold Settings.configure configFields
  refine ⟨?_, ?_, ?_, ?_, ?_, ?_, ?_, ?_, ?_⟩ <;> simp only
  · cases maskedField mask data 0 with
    | none => exact hw
    | some bs => exact (clampWidth_bounds _).1
  · cases maskedField mask data 0 with
    | none => exact hw'
    | some bs => exact (clampWidth_bounds _).2.1
  · cases maskedField mask data 0 with
    | none => exact hw16
    | some bs => exact (clampWidth_bounds _).2.2
  · cases maskedField mask data 1 with
    | none => exact hh
    | some bs => exact (clampTo_bounds 360 1080 _ (by decide)).1
  · cases maskedField mask data 1 with
    | none => exact hh'
    | some bs => exact (clampTo_bounds 360 1080 _ (by decide)).2
  · cases maskedField mask data 2 with
    | none => exact hl
    | some bs => exact (clampTo_bounds 20 500 _ (by decide)).1
  · cases maskedField mask data 2 with
    | none => exact hl'
    | some bs => exact (clampTo_bounds 20 500 _ (by decide)).2
  · cases maskedField mask data 3 with
    | none => exact hp
    | some bs => exact (clampTo_bounds 16 42 _ (by decide)).1
  · cases maskedField mask data 3 with
    | none => exact hp'
    | some bs => exact (clampTo_bounds 16 42 _ (by decide)).2

/-- A clamped configuration, written at any time, keeps the raster's law: the frame in progress has its own record
(R10, R128, R159). -/
theorem State.applyConfig_rasterLaw {s : State} (hs : s.rasterLaw) (mask : Nat) (data : List Byte) :
    (s.applyConfig (configFields mask data)).rasterLaw := by
  rw [State.rasterLaw_iff] at hs ⊢
  obtain ⟨⟨hset, hrest⟩, hframe⟩ := hs
  exact ⟨⟨Settings.configure_lawful hset mask data, hrest⟩, hframe⟩

/-! ### What stands before a command keeps the law -/

theorem loadAct_rasterLaw {s : State} (hs : s.rasterLaw) (a : ImageAct)
    (ha : ∀ f, a = .config f → ∃ mask data, f = configFields mask data) : (loadAct a s).rasterLaw := by
  cases a with
  | config f =>
    obtain ⟨mask, data, rfl⟩ := ha f rfl
    exact State.applyConfig_rasterLaw hs mask data
  | entry table i bs =>
    simp only [loadAct]
    split
    · exact hs
    · exact hs
  | sector t n bs => exact hs

theorem State.applyImage_loadAct_rasterLaw {s : State} (hs : s.rasterLaw) (n : Nat) :
    (s.applyImage loadAct n).rasterLaw :=
  s.applyImage_keeps (P := State.rasterLaw) n
    (fun a ha _ hu => loadAct_rasterLaw hu a fun f hf => s.imageRest_config f (hf ▸ ha)) (fun _ _ hu => hu) hs

theorem State.loadEnds_rasterLaw {s : State} (hs : s.rasterLaw) : s.loadEnds.rasterLaw := by
  have himage : (s.applyImageRest loadAct).rasterLaw := State.applyImage_loadAct_rasterLaw hs _
  unfold State.loadEnds
  generalize s.applyImageRest loadAct = u at himage ⊢
  cases s.imageOutcome <;> exact himage

theorem State.settleLoad_rasterLaw {s : State} (hs : s.rasterLaw) : s.settleLoad.rasterLaw := by
  unfold State.settleLoad
  split
  · exact State.loadEnds_rasterLaw hs
  · exact hs

theorem State.background_rasterLaw {s : State} (hs : s.rasterLaw) : s.background.rasterLaw := by
  unfold State.background
  split
  · exact State.applyImage_loadAct_rasterLaw hs _
  · split
    · exact (s.applyImage_recallAct_keepsFlash _).toKeepsRaster.rasterLaw hs
    · exact s.saveGoesOn_keepsRaster.rasterLaw hs

theorem State.Before.rasterLaw {s u : State} (h : s.Before u) (hs : s.rasterLaw) : u.rasterLaw := by
  have hload := State.settleLoad_rasterLaw hs
  cases h with
  | settleLoad => exact hload
  | prelude =>
    exact State.background_rasterLaw
      (((State.settleHold_keepsFlash _).trans (State.settleCounters_keepsFlash _)).toKeepsRaster.rasterLaw hload)
  | rasterPrelude =>
    exact State.background_rasterLaw ((State.settleCounters_keepsFlash _).toKeepsRaster.rasterLaw hload)

/-! ### The raster's own commands keep the law -/

/-- Judging an input frame touches the lock monitor, the receiver and the flags alone (R6). -/
theorem State.judgeFrame_eq (s : State) :
    ∃ v, s.judgeFrame =
      { s with
        raster :=
          { s.raster with
            lock := s.raster.lock.judged s.raster.judge
            lossTimer := some s.raster.settings.lossMs
            measure := some ⟨0, true, true⟩
            inFrame := some ⟨0, false⟩ }
        status := { s.status with flags := v } } := by
  unfold State.judgeFrame
  simp only
  split <;> split <;> exact ⟨_, rfl⟩

theorem State.judgeFrame_raster (s : State) :
    s.judgeFrame.raster =
      { s.raster with
        lock := s.raster.lock.judged s.raster.judge
        lossTimer := some s.raster.settings.lossMs
        measure := some ⟨0, true, true⟩
        inFrame := some ⟨0, false⟩ } := by
  obtain ⟨v, h⟩ := s.judgeFrame_eq
  rw [h]

/-- What an input frame start brings keeps the law: a frame of the source the lock now asks for, or none where the
output goes on with the fallback raster (R11 to R14). -/
theorem State.inputFrameOutput_rasterLaw {s : State} {before : Lock} (hrec : s.raster.receiverLaw)
    (hframe : before.follows = false → s.raster.lock.follows = false → s.raster.frameLaw) :
    (s.inputFrameOutput before).rasterLaw := by
  unfold State.inputFrameOutput
  cases hnow : s.raster.lock.follows
  · cases hbefore : before.follows
    · exact s.rasterLaw_iff.2 ⟨hrec, hframe hbefore hnow⟩
    · exact State.outputFrameStart_rasterLaw hrec (by simp [hnow])
  · cases hbefore : before.follows
    · exact State.outputFrameStart_rasterLaw (by simpa using hrec) (by simpa using hnow)
    · exact State.outputFrameStart_rasterLaw hrec (by simp [hnow])

theorem execInputFrameStart_rasterLaw {ready : Bool} {s t : State} (hs : s.rasterPrelude.rasterLaw)
    (h : execInputFrameStart ready s = .next t) : t.rasterLaw := by
  unfold execInputFrameStart at h
  generalize s.rasterPrelude = u at h hs
  cases h
  obtain ⟨hrec, hframe⟩ := u.rasterLaw_iff.1 hs
  obtain ⟨hset, -⟩ := hrec
  obtain ⟨hw, hw', hh, hh', hsrc, hlines⟩ := hframe
  refine State.inputFrameOutput_rasterLaw ?_ fun hbefore hnow => ?_
  · rw [State.judgeFrame_raster]
    exact ⟨hset, rfl, rfl, by simp⟩
  · rw [State.judgeFrame_raster] at hnow ⊢
    refine ⟨hw, hw', hh, hh', ?_, hlines⟩
    simp only [State.seeReady_raster] at hbefore hnow ⊢
    rw [hsrc, hbefore, hnow]

theorem State.loseInput_rasterLaw {s : State} (hs : s.rasterLaw) : s.loseInput.rasterLaw := by
  obtain ⟨⟨hset, -⟩, hw, hw', hh, hh', hsrc, hlines⟩ := s.rasterLaw_iff.1 hs
  unfold State.loseInput
  simp only
  cases hbefore : s.raster.lock.follows
  · rw [if_neg (by simp), State.rasterLaw_iff]
    refine ⟨⟨hset, rfl, rfl, fun _ => rfl⟩, hw, hw', hh, hh', ?_, hlines⟩
    rw [hsrc, hbefore]
    simp [Lock.follows]
  · rw [if_pos rfl]
    refine State.outputFrameStart_rasterLaw ?_ ?_
    · rw [State.cutLine_raster]
      exact ⟨hset, rfl, rfl, fun _ => rfl⟩
    · simp [Lock.follows]

theorem State.outputLineStart_rasterLaw {s : State} (background : List Rgb) (hrec : s.raster.receiverLaw)
    (hframe : { s.raster with nextLine := s.raster.nextLine + 1 }.frameLaw) :
    (s.outputLineStart background).rasterLaw := by
  rw [State.rasterLaw_iff, State.outputLineStart_raster]
  exact ⟨hrec, hframe⟩

theorem execControlLine_rasterLaw {cols : List Rgb} {s t : State} (hs : s.rasterPrelude.rasterLaw)
    (h : execControlLine cols s = .next t) : t.rasterLaw := by
  unfold execControlLine at h
  generalize s.rasterPrelude = u at h hs
  simp only at h
  split at h <;> cases h
  · exact hs
  · rename_i f hf
    refine ((u.receiveControl_keepsFlash f cols).trans (State.blankIfInput_keepsFlash _)).toKeepsRaster.rasterLaw ?_
    obtain ⟨⟨hset, hmeas, hin, hlock⟩, hframe⟩ := u.rasterLaw_iff.1 hs
    rw [hf] at hin
    exact (State.rasterLaw_iff _).2 ⟨⟨hset, hmeas, hin, hlock⟩, hframe⟩

theorem execBlankingLine_keepsFlash {s t : State} (h : execBlankingLine s = .next t) :
    s.rasterPrelude.KeepsFlash t := by
  unfold execBlankingLine at h
  generalize s.rasterPrelude = u at h ⊢
  simp only at h
  split at h <;> cases h
  · exact .refl _
  · exact State.blankIfInput_keepsFlash _

/-- A measured line keeps the receiver's law and the frame in progress (R3). -/
theorem State.measureLine_rasterLaw {s : State} {f f' : InFrame} (hf : s.raster.inFrame = some f') (n : Nat)
    (hs : s.rasterLaw) : (s.measureLine f n).rasterLaw := by
  obtain ⟨⟨hset, hmeas, hin, hlock⟩, hframe⟩ := s.rasterLaw_iff.1 hs
  rw [hf] at hin
  refine (State.rasterLaw_iff _).2 ⟨⟨hset, ?_, hin, ?_⟩, hframe⟩
  · simpa [State.measureLine] using hmeas
  · simpa [State.measureLine] using hlock

theorem execActiveLine_rasterLaw {cols : List Rgb} {flip : Bool} {s t : State}
    (hs : s.rasterPrelude.rasterLaw) (h : execActiveLine cols flip s = .next t) : t.rasterLaw := by
  unfold execActiveLine at h
  generalize s.rasterPrelude = u at h hs
  have hseen : (u.seeFlip flip).rasterLaw := hs
  generalize u.seeFlip flip = v at h hseen
  simp only at h
  split at h
  · cases h
    exact hseen
  · rename_i f hf
    have hmeas := State.measureLine_rasterLaw (f := f) hf cols.length hseen
    split at h <;> cases h
    · rename_i hfollows
      obtain ⟨hrec, hw, hw', hh, hh', hsrc, -⟩ := (State.rasterLaw_iff _).1 hmeas
      refine State.outputLineStart_rasterLaw cols hrec ⟨hw, hw', hh, hh', hsrc, fun hfall => ?_⟩
      rw [State.followsInput_eq] at hfollows
      have hinput := hsrc.2 hfollows
      rw [hinput] at hfall
      cases hfall
    · exact hmeas

theorem execLossIntervalExpiry_rasterLaw {ready : Bool} {s t : State} (hs : s.rasterPrelude.rasterLaw)
    (h : execLossIntervalExpiry ready s = .next t) : t.rasterLaw := by
  unfold execLossIntervalExpiry at h
  generalize s.rasterPrelude = u at h hs
  have hseen : (u.seeReady ready).rasterLaw := hs
  generalize u.seeReady ready = v at h hseen
  simp only at h
  split at h <;> cases h
  · exact hseen
  · exact State.loseInput_rasterLaw hseen

theorem execFallbackFrameStart_rasterLaw {ready : Bool} {s t : State} (hs : s.rasterPrelude.rasterLaw)
    (h : execFallbackFrameStart ready s = .next t) : t.rasterLaw := by
  unfold execFallbackFrameStart at h
  generalize s.rasterPrelude = u at h hs
  have hseen : (u.seeReady ready).rasterLaw := hs
  generalize u.seeReady ready = v at h hseen
  simp only at h
  split at h <;> cases h
  · exact hseen
  · rename_i hnot
    rw [State.followsInput_eq, Bool.or_eq_true, not_or] at hnot
    exact State.outputFrameStart_rasterLaw ((State.rasterLaw_iff _).1 hseen).1 (by simp [hnot.1])

/-- A line period begun, with the line that starts in it if any, keeps a fallback frame's law (R12). -/
theorem Raster.frameLaw_linePeriod {r : Raster} {y : Nat} (hr : r.frameLaw)
    (hline : y = r.linePeriods + 1 - 45) (hroom : r.linePeriods < r.record.height + 45) :
    { r with linePeriods := r.linePeriods + 1, nextLine := y }.frameLaw := by
  obtain ⟨hw, hw', hh, hh', hsrc, -⟩ := hr
  exact ⟨hw, hw', hh, hh', hsrc, fun _ => ⟨hline, hroom⟩⟩

/-- While the output does not follow the input, the frame in progress is a fallback frame with its lines in place
(R12). -/
theorem Raster.frameLaw_fallback {r : Raster} (hr : r.frameLaw) (hfollows : r.lock.follows = false) :
    r.nextLine = r.linePeriods - 45 ∧ r.linePeriods ≤ r.record.height + 45 := by
  obtain ⟨-, -, -, -, hsrc, hlines⟩ := hr
  refine hlines ((Source.fallback_iff _).2 fun hinput => ?_)
  rw [hsrc.1 hinput] at hfollows
  cases hfollows

theorem execFallbackBlankingLinePeriod_rasterLaw {s t : State} (hs : s.rasterPrelude.rasterLaw)
    (h : execFallbackBlankingLinePeriod s = .next t) : t.rasterLaw := by
  unfold execFallbackBlankingLinePeriod at h
  generalize s.rasterPrelude = u at h hs
  simp only at h
  split at h <;> cases h
  · exact hs
  · rename_i hnot
    simp only [State.followsInput_eq, Bool.or_eq_true, decide_eq_true_eq, not_or, Bool.not_eq_true, not_le] at hnot
    obtain ⟨hfollows, hperiod⟩ := hnot
    obtain ⟨hrec, hframe⟩ := u.rasterLaw_iff.1 hs
    obtain ⟨hnext, -⟩ := Raster.frameLaw_fallback hframe hfollows
    exact (State.rasterLaw_iff _).2
      ⟨hrec, Raster.frameLaw_linePeriod hframe (by omega) (by omega)⟩

theorem execFallbackLineStart_rasterLaw {flip : Bool} {s t : State} (hs : s.rasterPrelude.rasterLaw)
    (h : execFallbackLineStart flip s = .next t) : t.rasterLaw := by
  unfold execFallbackLineStart at h
  generalize s.rasterPrelude = u at h hs
  have hseen : (u.seeFlip flip).rasterLaw := hs
  generalize u.seeFlip flip = v at h hseen
  simp only at h
  split at h <;> cases h
  · exact hseen
  · rename_i hnot
    simp only [State.followsInput_eq, Raster.lineDue, Bool.or_eq_true, Bool.not_eq_true', not_or,
      Bool.not_eq_true, Bool.not_eq_false, Bool.and_eq_true, beq_iff_eq, decide_eq_true_eq] at hnot
    obtain ⟨hfollows, hperiod, hline⟩ := hnot
    obtain ⟨hrec, hframe⟩ := v.rasterLaw_iff.1 hseen
    have hnext : v.raster.nextLine + 1 = v.raster.linePeriods + 1 - 45 := by omega
    exact State.outputLineStart_rasterLaw _ hrec (Raster.frameLaw_linePeriod hframe hnext (by omega))

theorem execConfigWrite_rasterLaw {s t : State} (hs : s.prelude.rasterLaw) (h : execConfigWrite s = .next t) :
    t.rasterLaw := by
  unfold execConfigWrite at h
  generalize s.prelude = u at h hs
  simp only at h
  split at h <;> cases h
  · unfold State.writeConfig
    split
    · exact hs
    · exact State.applyConfig_rasterLaw (s := u.takeHead) hs _ _
  · exact hs

theorem execLoadCompletion_rasterLaw {s t : State} (hs : s.rasterLaw) (hpre : s.prelude.rasterLaw)
    (h : execLoadCompletion s = .next t) : t.rasterLaw := by
  unfold execLoadCompletion at h
  generalize s.prelude = u at h hpre
  split at h
  · cases h
    exact State.settleLoad_rasterLaw hs
  · simp only at h
    split at h <;> cases h
    · exact State.loadEnds_rasterLaw hpre
    · exact hpre

/-- The first fallback frame behind a reset of every block is lawful (R19). -/
theorem State.resetBlocks_outputFrameStart_rasterLaw (s : State) :
    (s.resetBlocks.outputFrameStart .fallback).rasterLaw := by
  refine State.outputFrameStart_rasterLaw (src := .fallback) ?_ ?_
  · exact ⟨by change Raster.atReset.settings.lawful; unfold Settings.lawful; decide, rfl, rfl, fun _ => rfl⟩
  · simp [State.resetBlocks, Raster.atReset, Lock.follows]

theorem State.startProtect_raster (named : BitVec 16) (s : State) :
    (s.startProtect named).raster = s.raster := by
  unfold State.startProtect
  split
  · rfl
  · split <;> rfl

theorem execStoreProtect_rasterLaw {s t : State} (hs : s.prelude.rasterLaw) (h : execStoreProtect s = .next t) :
    t.rasterLaw := by
  unfold execStoreProtect at h
  generalize s.prelude = u at h hs
  simp only at h
  split at h <;> cases h
  · rw [State.rasterLaw_iff, State.startProtect_raster]
    exact u.rasterLaw_iff.1 hs
  · exact hs

/-- A POWER_ON that is taken resets every block and starts the first fallback frame (R19, R173). -/
theorem execPowerOn_resets {p : Straps} {s t : State} (h : execPowerOn p s = .next t) :
    ∃ u : State, u.resetBlocks.outputFrameStart .fallback = t := by
  unfold execPowerOn at h
  split at h
  · exact ⟨_, Host.Outcome.next.inj h⟩
  · cases h

theorem execPowerOn_rasterLaw {p : Straps} {s t : State} (h : execPowerOn p s = .next t) : t.rasterLaw := by
  obtain ⟨u, rfl⟩ := execPowerOn_resets h
  exact u.resetBlocks_outputFrameStart_rasterLaw

theorem execRestart_rasterLaw {s t : State} (hs : s.rasterPrelude.rasterLaw) (h : execRestart s = .next t) :
    t.rasterLaw := by
  unfold execRestart at h
  generalize s.rasterPrelude = u at h hs
  simp only at h
  split at h <;> cases h
  · exact State.resetBlocks_outputFrameStart_rasterLaw _
  · exact hs

/-- Every command keeps the raster's law. -/
theorem exec_rasterLaw {c : Instr} {s t : State} (hs : s.rasterLaw) (h : exec c s = .next t) : t.rasterLaw := by
  have hload : s.settleLoad.rasterLaw := State.Before.settleLoad.rasterLaw hs
  have hpre : s.prelude.rasterLaw := State.Before.prelude.rasterLaw hs
  have hraster : s.rasterPrelude.rasterLaw := State.Before.rasterPrelude.rasterLaw hs
  unfold exec at h
  cases c with
  | powerOn p => exact execPowerOn_rasterLaw h
  | restart => exact execRestart_rasterLaw hraster h
  | loadCompletion => exact execLoadCompletion_rasterLaw hs hpre h
  | inputFrameStart ready => exact execInputFrameStart_rasterLaw hraster h
  | controlLine cols => exact execControlLine_rasterLaw hraster h
  | blankingLine => exact (execBlankingLine_keepsFlash h).toKeepsRaster.rasterLaw hraster
  | activeLine cols flip => exact execActiveLine_rasterLaw hraster h
  | lossIntervalExpiry ready => exact execLossIntervalExpiry_rasterLaw hraster h
  | fallbackFrameStart ready => exact execFallbackFrameStart_rasterLaw hraster h
  | fallbackLineStart flip => exact execFallbackLineStart_rasterLaw hraster h
  | fallbackBlankingLinePeriod => exact execFallbackBlankingLinePeriod_rasterLaw hraster h
  | fillGrant => exact (execFillGrant_keepsFlash h).toKeepsRaster.rasterLaw hpre
  | fillCompletion => exact (execFillCompletion_keepsFlash h).toKeepsRaster.rasterLaw hpre
  | tileWrite => exact (execTileWrite_keepsFlash h).toKeepsRaster.rasterLaw hpre
  | stageOpen => exact (execStageOpen_keepsFlash h).toKeepsRaster.rasterLaw hpre
  | tableWrite => exact (execTableWrite_keepsFlash h).toKeepsRaster.rasterLaw hpre
  | flipArm => exact (execFlipArm_keepsFlash h).toKeepsRaster.rasterLaw hpre
  | flipCancel => exact (execFlipCancel_keepsFlash h).toKeepsRaster.rasterLaw hpre
  | stageDiscard => exact (execStageDiscard_keepsFlash h).toKeepsRaster.rasterLaw hpre
  | storeSave => exact (execStoreSave_keepsFlash h).toKeepsRaster.rasterLaw hpre
  | storeRecall => exact (execStoreRecall_keepsFlash h).toKeepsRaster.rasterLaw hpre
  | recallCompletion => exact (execRecallCompletion_keepsFlash h).toKeepsRaster.rasterLaw hpre
  | storeReadCompletion => exact (execStoreReadCompletion_keepsFlash h).toKeepsRaster.rasterLaw hpre
  | seedCompletion => exact (execSeedCompletion_keepsRaster h).rasterLaw hpre
  | saveReadGrant => exact (execSaveReadGrant_keepsRaster h).rasterLaw hpre
  | saveCompletion => exact (execSaveCompletion_keepsRaster h).rasterLaw hpre
  | configWrite => exact execConfigWrite_rasterLaw hpre h
  | storeProtect => exact execStoreProtect_rasterLaw hpre h
  | protectProgramCompletion =>
    cases h
    exact (State.protectEnds_keepsRaster _).rasterLaw hpre
  | storeProgramTimeout =>
    cases h
    exact (State.programTimeout_keepsRaster _).rasterLaw hpre
  | uploadsAheadDrained =>
    cases h
    exact (State.settleDrained_controlsTo _).keepsFlash.toKeepsRaster.rasterLaw hload
  | creditWindowRestart =>
    cases h
    exact (State.settleCredit_keepsFlash _).toKeepsRaster.rasterLaw hload
  | pageHoldExpiry =>
    cases h
    exact (State.settleHold_keepsFlash _).toKeepsRaster.rasterLaw hload
  | leaderWindowEnd =>
    cases h
    exact (State.settleLeaderWindow_controlsTo _).keepsFlash.toKeepsRaster.rasterLaw hload
  | memberWindowEnd =>
    cases h
    exact (State.settleMemberWindow_controlsTo _).keepsFlash.toKeepsRaster.rasterLaw hload
  | pulseEnd =>
    cases h
    exact (State.settlePulse_controlsTo _).keepsFlash.toKeepsRaster.rasterLaw hload

/-- Settles O9: what stands before a command keeps the law, and so does each command behind it. -/
theorem rasterSettingsAndSourceStayLawful : Obligations.RasterSettingsAndSourceStayLawful := by
  intro s t hs h
  rcases step_cases s t h with ⟨-, rfl⟩ | ⟨c, rest, -, hexec⟩
  · exact hs
  · exact exec_rasterLaw (s := { s with pending := rest }) hs hexec

end Sys2Proof.Machine

/-! SUPPORT. Events that cannot occur, and the commands that write store, marks and settings. -/

namespace Sys2Proof.Machine

/-! ### What each command leaves of setup and store -/

/-- Beside the raster it moves, a command of the raster leaves setup and store as they were. -/
def State.KeepsStore (s t : State) : Prop := s.KeepsSetup t ∧ t.store = s.store

theorem State.outputFrameStart_keepsStore (src : Source) (s : State) :
    s.KeepsStore (s.outputFrameStart src) := by
  refine ⟨⟨by simp, ?_, by simp, by simp, by simp, by simp, by simp, by simp⟩, by simp⟩
  rw [State.outputFrameStart_raster]
  rfl

theorem State.outputLineStart_keepsStore (background : List Rgb) (s : State) :
    s.KeepsStore (s.outputLineStart background) :=
  ⟨⟨by simp, by simp, by simp, by simp, by simp, by simp, by simp, by simp⟩, by simp⟩

theorem State.KeepsStore.trans {s t u : State} (h : s.KeepsStore t) (k : t.KeepsStore u) : s.KeepsStore u :=
  ⟨h.1.trans k.1, k.2.trans h.2⟩

/-- The level seen on GRP_READY is no setting (R139). -/
theorem State.seeReady_keepsStore (ready : Bool) (s : State) : s.KeepsStore (s.seeReady ready) :=
  ⟨⟨rfl, rfl, rfl, rfl, rfl, rfl, rfl, rfl⟩, rfl⟩

/-- The level seen on GRP_FLIP is no setting (R139). -/
theorem State.seeFlip_keepsStore (flip : Bool) (s : State) : s.KeepsStore (s.seeFlip flip) :=
  ⟨⟨rfl, rfl, rfl, rfl, rfl, rfl, rfl, rfl⟩, rfl⟩

theorem State.cutLine_keepsStore (s : State) : s.KeepsStore s.cutLine :=
  ⟨⟨by simp, by simp, by simp, by simp, by simp, by simp, by simp, by simp⟩, by simp⟩

theorem State.judgeFrame_keepsStore (s : State) : s.KeepsStore s.judgeFrame := by
  obtain ⟨v, h⟩ := s.judgeFrame_eq
  rw [h]
  exact ⟨⟨rfl, rfl, rfl, rfl, rfl, rfl, rfl, rfl⟩, rfl⟩

theorem State.inputFrameOutput_keepsStore (before : Lock) (s : State) :
    s.KeepsStore (s.inputFrameOutput before) := by
  unfold State.inputFrameOutput
  split
  · split
    · exact s.outputFrameStart_keepsStore _
    · exact s.cutLine_keepsStore.trans (State.outputFrameStart_keepsStore _ _)
  · split
    · exact s.outputFrameStart_keepsStore _
    · exact ⟨.refl s, rfl⟩

theorem State.loseInput_keepsStore (s : State) : s.KeepsStore s.loseInput := by
  unfold State.loseInput
  simp only
  split
  · refine State.KeepsStore.trans ?_
      ((State.cutLine_keepsStore _).trans (State.outputFrameStart_keepsStore _ _))
    exact ⟨⟨rfl, rfl, rfl, rfl, rfl, rfl, rfl, rfl⟩, rfl⟩
  · exact ⟨⟨rfl, rfl, rfl, rfl, rfl, rfl, rfl, rfl⟩, rfl⟩

theorem execInputFrameStart_keepsStore {ready : Bool} {s t : State}
    (h : execInputFrameStart ready s = .next t) : s.rasterPrelude.KeepsStore t := by
  unfold execInputFrameStart at h
  generalize s.rasterPrelude = u at h ⊢
  cases h
  have hseen := u.seeReady_keepsStore ready
  exact (hseen.trans (State.judgeFrame_keepsStore _)).trans (State.inputFrameOutput_keepsStore _ _)

theorem execLossIntervalExpiry_keepsStore {ready : Bool} {s t : State}
    (h : execLossIntervalExpiry ready s = .next t) : s.rasterPrelude.KeepsStore t := by
  unfold execLossIntervalExpiry at h
  generalize s.rasterPrelude = u at h ⊢
  have hseen := u.seeReady_keepsStore ready
  simp only at h
  split at h <;> cases h
  · exact hseen
  · exact hseen.trans (State.loseInput_keepsStore _)

theorem execFallbackFrameStart_keepsStore {ready : Bool} {s t : State}
    (h : execFallbackFrameStart ready s = .next t) : s.rasterPrelude.KeepsStore t := by
  unfold execFallbackFrameStart at h
  generalize s.rasterPrelude = u at h ⊢
  have hseen := u.seeReady_keepsStore ready
  simp only at h
  split at h <;> cases h
  · exact hseen
  · exact hseen.trans (State.outputFrameStart_keepsStore _ _)

theorem execActiveLine_keepsStore {cols : List Rgb} {flip : Bool} {s t : State}
    (h : execActiveLine cols flip s = .next t) : s.rasterPrelude.KeepsStore t := by
  unfold execActiveLine at h
  generalize s.rasterPrelude = u at h ⊢
  have hseen := u.seeFlip_keepsStore flip
  simp only at h
  split at h
  · cases h
    exact hseen
  · rename_i f hf
    have hmeas : u.KeepsStore ((u.seeFlip flip).measureLine f cols.length) :=
      ⟨⟨rfl, rfl, rfl, rfl, rfl, rfl, rfl, rfl⟩, rfl⟩
    split at h <;> cases h
    · exact hmeas.trans (State.outputLineStart_keepsStore _ _)
    · exact hmeas

theorem execFallbackLineStart_keepsStore {flip : Bool} {s t : State}
    (h : execFallbackLineStart flip s = .next t) : s.rasterPrelude.KeepsStore t := by
  unfold execFallbackLineStart at h
  generalize s.rasterPrelude = u at h ⊢
  have hseen := u.seeFlip_keepsStore flip
  simp only at h
  split at h <;> cases h
  · exact hseen
  · refine State.KeepsStore.trans ?_ (State.outputLineStart_keepsStore _ _)
    exact ⟨⟨rfl, rfl, rfl, rfl, rfl, rfl, rfl, rfl⟩, rfl⟩

theorem execFallbackBlankingLinePeriod_keepsStore {s t : State}
    (h : execFallbackBlankingLinePeriod s = .next t) : s.rasterPrelude.KeepsStore t := by
  unfold execFallbackBlankingLinePeriod at h
  generalize s.rasterPrelude = u at h ⊢
  simp only at h
  split at h <;> cases h
  · exact ⟨.refl _, rfl⟩
  · exact ⟨⟨rfl, rfl, rfl, rfl, rfl, rfl, rfl, rfl⟩, rfl⟩

/-! ### The writers -/

/-- What O18 says of a command, as one relation: the straps stay, and the store, the marks and the settings change at
their writers alone (R4, R128, R140, R172 to R179). -/
def State.WritesOnly (c : Instr) (s t : State) : Prop :=
  t.straps = s.straps ∧
    (c ∉ [.seedCompletion, .saveReadGrant, .saveCompletion, .protectProgramCompletion, .storeProgramTimeout] →
      ∀ a, t.flashByte a = s.flashByte a) ∧
    (c ≠ .storeProtect →
      t.store.writeMarks = s.store.writeMarks ∧ t.store.readMarks = s.store.readMarks) ∧
    (c ≠ .configWrite →
      t.raster.settings = s.raster.settings ∧ t.library.creditLines = s.library.creditLines ∧
      t.library.creditLimit = s.library.creditLimit ∧ t.group.role = s.group.role ∧
      t.group.participation = s.group.participation)

theorem State.flashByte_congr {s t : State} (h : t.store.flash = s.store.flash) (a : Nat) :
    t.flashByte a = s.flashByte a := by
  unfold State.flashByte
  rw [h]

theorem State.KeepsSetup.writesOnly {c : Instr} {s t : State} (h : s.KeepsSetup t)
    (hflash : c ∉ [.seedCompletion, .saveReadGrant, .saveCompletion, .protectProgramCompletion,
      .storeProgramTimeout] → t.store.flash = s.store.flash) : State.WritesOnly c s t :=
  ⟨h.straps, fun hc => State.flashByte_congr (hflash hc), fun _ => ⟨h.writeMarks, h.readMarks⟩,
    fun _ => ⟨h.settings, h.creditLines, h.creditLimit, h.role, h.participation⟩⟩

theorem State.KeepsFlash.writesOnly {c : Instr} {s t : State} (h : s.KeepsFlash t) : State.WritesOnly c s t :=
  h.toKeepsSetup.writesOnly fun _ => h.flash

theorem State.KeepsStore.writesOnly {c : Instr} {s t : State} (h : s.KeepsStore t) : State.WritesOnly c s t :=
  h.1.writesOnly fun _ => congrArg Store.flash h.2

theorem State.startProtect_writesOnly (named : BitVec 16) (s : State) :
    State.WritesOnly .storeProtect s (s.startProtect named) := by
  unfold State.startProtect
  split
  · exact (s.refuse_keepsFlash ..).writesOnly
  · split
    · exact (State.ControlsTo.raise _ s).keepsFlash.writesOnly
    · exact ⟨rfl, fun _ _ => rfl, fun h => absurd rfl h, fun _ => ⟨rfl, rfl, rfl, rfl, rfl⟩⟩

theorem State.writeConfig_writesOnly (mask : Nat) (data : List Byte) (s : State) :
    State.WritesOnly .configWrite s (s.writeConfig mask data) := by
  unfold State.writeConfig
  split
  · exact (s.refuse_keepsFlash ..).writesOnly
  · exact ⟨rfl, fun _ _ => rfl, fun _ => ⟨rfl, rfl⟩, fun h => absurd rfl h⟩

theorem execStoreProtect_writesOnly {s t : State} (h : execStoreProtect s = .next t) :
    State.WritesOnly .storeProtect s.prelude t := by
  unfold execStoreProtect at h
  generalize s.prelude = u at h ⊢
  simp only at h
  split at h <;> cases h
  · exact u.takeHead.startProtect_writesOnly _
  · exact (State.KeepsFlash.refl _).writesOnly

theorem execConfigWrite_writesOnly {s t : State} (h : execConfigWrite s = .next t) :
    State.WritesOnly .configWrite s.prelude t := by
  unfold execConfigWrite at h
  generalize s.prelude = u at h ⊢
  simp only at h
  split at h <;> cases h
  · exact u.takeHead.writeConfig_writesOnly _ _
  · exact (State.KeepsFlash.refl _).writesOnly

/-! ### Events that cannot occur -/

/-- A quiet part has no load to end: LOAD_COMPLETION changes nothing (log 3). -/
theorem execLoadCompletion_of_quiet {s : State} (hq : s.quiet = true) : execLoadCompletion s = .next s := by
  have hload := s.loading_of_quiet hq
  unfold execLoadCompletion
  simp [s.loadDue_of_not_loading hload, s.prelude_of_quiet hq, hload]

/-- A control line of no input frame is discarded (R1). -/
theorem execControlLine_of_no_frame {s : State} (hq : s.rasterQuiet = true) (hin : s.raster.inFrame = none)
    (cols : List Rgb) : execControlLine cols s = .next s := by
  unfold execControlLine
  simp only [s.rasterPrelude_of_rasterQuiet hq, hin]

/-- A blanking line of no input frame is discarded (R1). -/
theorem execBlankingLine_of_no_frame {s : State} (hq : s.rasterQuiet = true) (hin : s.raster.inFrame = none) :
    execBlankingLine s = .next s := by
  unfold execBlankingLine
  simp only [s.rasterPrelude_of_rasterQuiet hq, hin]

/-- A quiet part is not in RECALLING. -/
theorem State.phase_ne_recalling_of_quiet {s : State} (hq : s.quiet = true) : s.scene.phase ≠ .recalling := by
  unfold State.quiet State.storeQuiet at hq
  simp only [Bool.and_eq_true, bne_iff_ne] at hq
  exact hq.2.1.2

/-- With no upload waiting there is nothing to grant (R109). -/
theorem execTileWrite_of_no_upload {s : State} (hpre : s.prelude = s) (hup : s.library.uploads = []) :
    execTileWrite s = .next s := by
  unfold execTileWrite
  simp only [hpre, hup]
  cases s.cache.nextGrant <;> rfl

/-- With no save in progress there is no read to grant (R117). -/
theorem execSaveReadGrant_of_no_save {s : State} (hpre : s.prelude = s) (hsave : s.store.save = none) :
    execSaveReadGrant s = .next s := by
  unfold execSaveReadGrant
  simp only [hpre, hsave]
  cases s.scene.phase <;> rfl

/-- With no save in progress none completes (R177). -/
theorem execSaveCompletion_of_no_save {s : State} (hpre : s.prelude = s) (hsave : s.store.save = none) :
    execSaveCompletion s = .next s := by
  unfold execSaveCompletion
  simp only [hpre, hsave]
  cases s.scene.phase <;> rfl

/-- With no store read outstanding none completes (R169). -/
theorem execStoreReadCompletion_of_no_read {s : State} (hpre : s.prelude = s)
    (hread : s.status.storeRead = none) : execStoreReadCompletion s = .next s := by
  unfold execStoreReadCompletion
  simp only [hpre, hread]

/-- With no protect program in progress none completes (R178). -/
theorem State.protectEnds_of_no_job {s : State} (hjob : s.store.protectJob = none) : s.protectEnds = s := by
  unfold State.protectEnds
  simp only [hjob]

/-- Settles O3: what stands before the command changes nothing in a quiet state, and then each event finds nothing to
act on. -/
theorem eventsThatCannotOccurChangeNothing : Obligations.EventsThatCannotOccurChangeNothing := by
  intro s hq
  have hpre := State.Before.prelude.eq_of_quiet hq
  have hraster := s.rasterQuiet_of_quiet hq
  have hload := State.Before.settleLoad.eq_of_quiet hq
  have hdue := (Bool.and_eq_true _ _ ▸ hq : s.nothingDue = true ∧ s.storeQuiet = true).1
  obtain ⟨-, hhold, hdrained, hcredit, hpulse, hleader, hmember⟩ := s.nothingDue_iff.1 hdue
  have hafterLoad : ∀ settle : State → State, settle s = s →
      (Host.Outcome.next (settle s.settleLoad) : Host.Outcome State Fault Refusal) = .next s :=
    fun settle h => by rw [hload, h]
  refine ⟨fun hin => ⟨execControlLine_of_no_frame hraster hin, execBlankingLine_of_no_frame hraster hin⟩,
    fun hgrant => ?_, fun hreads => ?_, execTileWrite_of_no_upload hpre,
    fun hsave => ⟨execSaveReadGrant_of_no_save hpre hsave, execSaveCompletion_of_no_save hpre hsave⟩,
    fun hjob => ?_, execStoreReadCompletion_of_no_read hpre, execLoadCompletion_of_quiet hq, ?_,
    hafterLoad _ (s.settleDrained_of_not_due hdrained), hafterLoad _ (s.settleCredit_of_not_due hcredit),
    hafterLoad _ (s.settleHold_of_not_due hhold), hafterLoad _ (s.settleLeaderWindow_of_not_due hleader),
    hafterLoad _ (s.settleMemberWindow_of_not_due hmember), hafterLoad _ (s.settlePulse_of_not_due hpulse)⟩
  · change execFillGrant s = _
    unfold execFillGrant
    simp only [hpre, hgrant]
  · change execFillCompletion s = _
    unfold execFillCompletion
    simp only [hpre, hreads]
  · change execProtectProgramCompletion s = _
    unfold execProtectProgramCompletion
    rw [hpre, State.protectEnds_of_no_job hjob]
  · change execRecallCompletion s = _
    unfold execRecallCompletion
    simp only [hpre, State.phase_ne_recalling_of_quiet hq, if_false]

/-- In a quiet state every command but POWER_ON and RESTART writes only what is its own to write. -/
theorem exec_writesOnly {c : Instr} {s t : State} (hq : s.quiet = true) (hpower : ∀ p, c ≠ .powerOn p)
    (hrestart : c ≠ .restart) (h : exec c s = .next t) : State.WritesOnly c s t := by
  have hpre := State.Before.prelude.eq_of_quiet hq
  have hraster := State.Before.rasterPrelude.eq_of_quiet hq
  have hload := State.Before.settleLoad.eq_of_quiet hq
  unfold exec at h
  cases c with
  | powerOn p => exact absurd rfl (hpower p)
  | restart => exact absurd rfl hrestart
  | loadCompletion =>
    cases (execLoadCompletion_of_quiet hq).symm.trans h
    exact (State.KeepsFlash.refl s).writesOnly
  | inputFrameStart ready => exact (hraster ▸ execInputFrameStart_keepsStore h).writesOnly
  | controlLine cols =>
    unfold execControlLine at h
    simp only [hraster] at h
    split at h <;> cases h
    · exact (State.KeepsFlash.refl s).writesOnly
    · rename_i f hf
      have hreceived := (s.receiveControl_keepsFlash f cols).trans (State.blankIfInput_keepsFlash _)
      have hcount : s.KeepsSetup (s.countControl f) := ⟨rfl, rfl, rfl, rfl, rfl, rfl, rfl, rfl⟩
      exact (hcount.trans hreceived.toKeepsSetup).writesOnly fun _ => hreceived.flash
  | blankingLine => exact (hraster ▸ execBlankingLine_keepsFlash h).writesOnly
  | activeLine cols flip => exact (hraster ▸ execActiveLine_keepsStore h).writesOnly
  | lossIntervalExpiry ready => exact (hraster ▸ execLossIntervalExpiry_keepsStore h).writesOnly
  | fallbackFrameStart ready => exact (hraster ▸ execFallbackFrameStart_keepsStore h).writesOnly
  | fallbackLineStart flip => exact (hraster ▸ execFallbackLineStart_keepsStore h).writesOnly
  | fallbackBlankingLinePeriod => exact (hraster ▸ execFallbackBlankingLinePeriod_keepsStore h).writesOnly
  | fillGrant => exact (hpre ▸ execFillGrant_keepsFlash h).writesOnly
  | fillCompletion => exact (hpre ▸ execFillCompletion_keepsFlash h).writesOnly
  | tileWrite => exact (hpre ▸ execTileWrite_keepsFlash h).writesOnly
  | stageOpen => exact (hpre ▸ execStageOpen_keepsFlash h).writesOnly
  | tableWrite => exact (hpre ▸ execTableWrite_keepsFlash h).writesOnly
  | flipArm => exact (hpre ▸ execFlipArm_keepsFlash h).writesOnly
  | flipCancel => exact (hpre ▸ execFlipCancel_keepsFlash h).writesOnly
  | stageDiscard => exact (hpre ▸ execStageDiscard_keepsFlash h).writesOnly
  | storeSave => exact (hpre ▸ execStoreSave_keepsFlash h).writesOnly
  | storeRecall => exact (hpre ▸ execStoreRecall_keepsFlash h).writesOnly
  | recallCompletion => exact (hpre ▸ execRecallCompletion_keepsFlash h).writesOnly
  | storeReadCompletion => exact (hpre ▸ execStoreReadCompletion_keepsFlash h).writesOnly
  | configWrite => exact hpre ▸ execConfigWrite_writesOnly h
  | storeProtect => exact hpre ▸ execStoreProtect_writesOnly h
  | seedCompletion =>
    exact (hpre ▸ execSeedCompletion_keepsRaster h).writesOnly fun hc => absurd (by simp) hc
  | saveReadGrant =>
    exact (hpre ▸ execSaveReadGrant_keepsRaster h).writesOnly fun hc => absurd (by simp) hc
  | saveCompletion =>
    exact (hpre ▸ execSaveCompletion_keepsRaster h).writesOnly fun hc => absurd (by simp) hc
  | protectProgramCompletion =>
    cases h
    rw [hpre]
    exact s.protectEnds_keepsRaster.writesOnly fun hc => absurd (by simp) hc
  | storeProgramTimeout =>
    cases h
    rw [hpre]
    exact s.programTimeout_keepsRaster.writesOnly fun hc => absurd (by simp) hc
  | uploadsAheadDrained =>
    cases h
    rw [hload]
    exact s.settleDrained_controlsTo.keepsFlash.writesOnly
  | creditWindowRestart =>
    cases h
    rw [hload]
    exact s.settleCredit_keepsFlash.writesOnly
  | pageHoldExpiry =>
    cases h
    rw [hload]
    exact s.settleHold_keepsFlash.writesOnly
  | leaderWindowEnd =>
    cases h
    rw [hload]
    exact s.settleLeaderWindow_controlsTo.keepsFlash.writesOnly
  | memberWindowEnd =>
    cases h
    rw [hload]
    exact s.settleMemberWindow_controlsTo.keepsFlash.writesOnly
  | pulseEnd =>
    cases h
    rw [hload]
    exact s.settlePulse_controlsTo.keepsFlash.writesOnly

/-- Settles O18: in a quiet state a command acts alone, and `exec_writesOnly` goes through the commands. -/
theorem storeAndSettingsChangeOnlyAtTheirWriters : Obligations.StoreAndSettingsChangeOnlyAtTheirWriters :=
  fun _ _ _ hq hpower hrestart h => exec_writesOnly hq hpower hrestart h

end Sys2Proof.Machine

/-! SUPPORT. The reset values meet every law. -/

namespace Sys2Proof.Machine

/-! ### The reset values are lawful -/

/-- A cleared bank has the sizes of R20 and every field in its range (R42). -/
theorem Bank.cleared_lawful : Bank.cleared.lawful := by
  refine ⟨List.length_replicate, List.length_replicate, List.length_replicate, List.length_replicate,
    fun r hr => ?_, fun it hit => ?_, fun st hst => ?_, fun p hp => ?_⟩
  · rw [List.eq_of_mem_replicate hr]
    exact ⟨by decide, by decide, by decide, by decide, by decide, by decide, by decide, by rintro i ⟨⟩,
      by decide, by decide⟩
  · rw [List.eq_of_mem_replicate hit]
    exact ⟨by decide, by rintro p ⟨⟩, by rintro e ⟨⟩⟩
  · rw [List.eq_of_mem_replicate hst]
    exact ⟨by decide, by decide, by decide, by decide, by decide, by decide⟩
  · rw [List.eq_of_mem_replicate hp]
    exact ⟨by decide, by decide, by decide, by decide, by decide, by decide, by decide⟩

/-- A cleared bank has no valid directory entry and no count (R40, R42). -/
theorem Bank.cleared_countLaw : Bank.cleared.countLaw := by
  refine ⟨List.length_replicate, List.length_replicate, fun p hp => ?_, fun a ha => ?_⟩
  · rw [List.eq_of_mem_replicate hp]
    decide
  · have hcount : (List.replicate 32 0).getD a 0 = 0 := by
      rw [List.getD_eq_getElem?_getD, List.getElem?_replicate, if_pos ha, Option.getD_some]
    refine hcount.trans ?_
    rw [Bank.cleared, List.countP_replicate]
    exact (if_neg (by simp [Photo.cleared])).symm

/-- No line of the cache at reset holds a tile (R118). -/
theorem Cache.atReset_line? (tile : Nat) : Cache.atReset.line? tile = none := by
  have hset : setOf tile < 32 := Nat.mod_lt _ (by decide)
  have hways : Cache.atReset.ways tile = List.replicate 4 .atReset := by
    rw [Cache.ways, Cache.atReset, List.getD_eq_getElem?_getD, List.getElem?_replicate, if_pos hset,
      Option.getD_some]
  rw [Cache.line?, hways, List.find?_eq_none]
  intro l hl
  rw [List.eq_of_mem_replicate hl]
  simp [CacheLine.atReset]

theorem Cache.atReset_valid? (tile sector : Nat) : Cache.atReset.valid? tile sector = none := by
  rw [Cache.valid?, Cache.atReset_line?]

theorem Cache.atReset_inFlight (tile sector : Nat) : Cache.atReset.inFlight tile sector = false := by
  rw [Cache.inFlight, Cache.atReset_line?]

/-- The cache at reset: 32 sets of 4 empty lines, no fill and no read (R118). -/
theorem Cache.atReset_lawful : Cache.atReset.lawful := by
  refine ⟨List.length_replicate, fun i ws hws => ?_, fun t n => ?_, List.nodup_nil, List.nodup_nil,
    by rintro r ⟨⟩⟩
  · have hmem : ws ∈ List.replicate 32 (List.replicate 4 CacheLine.atReset) := List.mem_of_getElem? hws
    rw [List.eq_of_mem_replicate hmem]
    refine ⟨List.length_replicate, by decide, fun l hl => ?_⟩
    rw [List.eq_of_mem_replicate hl]
    exact ⟨List.length_replicate, by decide, by rintro t ⟨⟩⟩
  · rw [Cache.atReset_inFlight]
    simp [Cache.atReset]

theorem reset_rasterLaw : State.reset.rasterLaw := by
  rw [State.rasterLaw_iff]
  refine ⟨⟨?_, rfl, rfl, fun _ => rfl⟩, by decide, by decide, by decide, by decide, by decide, fun _ => ?_⟩
  · unfold Settings.lawful
    decide
  · decide

theorem reset_flipLaw : State.reset.flipLaw :=
  ⟨rfl, rfl, by rintro r ⟨⟩, by rintro n ⟨⟩, rfl, fun _ => ⟨rfl, rfl, rfl, rfl, rfl⟩, by rintro j ⟨⟩⟩

theorem reset_viewLaw : State.reset.viewLaw := by
  rintro v ⟨⟩
  exact ⟨rfl, rfl, rfl, rfl, rfl⟩

/-- The four lines of the ring at reset are empty (R44, R60). -/
theorem reset_builderLaw : State.reset.builderLaw := by
  refine ⟨by rintro w ⟨⟩, by decide, fun e he q hq => ?_⟩
  have hempty : ∀ e ∈ State.reset.builder.ring, e.pixels = [] := by decide
  rw [hempty e he] at hq
  cases hq

theorem reset_cacheLaw : State.reset.cacheLaw := by
  refine ⟨Cache.atReset_lawful, by rintro u ⟨⟩, fun t n bs h => ?_, by rintro r ⟨⟩⟩
  cases (Cache.atReset_valid? t n).symm.trans h

/-- Settles O15, law by law. -/
theorem resetMeetsEveryLaw : Obligations.ResetMeetsEveryLaw := by
  have hqueue : State.reset.queueLaw := by unfold State.queueLaw; decide
  have hpage : State.reset.pageLaw :=
    ⟨by decide, by decide, by decide, by rintro e ⟨⟩, by decide, by rintro r ⟨⟩⟩
  have hcredit : State.reset.creditLaw := ⟨by decide, by decide, by decide, by decide, by rintro w ⟨⟩⟩
  exact ⟨hqueue, ⟨Bank.cleared_lawful, Bank.cleared_lawful⟩, ⟨Bank.cleared_countLaw, Bank.cleared_countLaw⟩,
    hpage, reset_flipLaw, reset_rasterLaw, hcredit, reset_viewLaw, reset_builderLaw, reset_cacheLaw,
    reset_memories_wf⟩

end Sys2Proof.Machine

/-! SUPPORT. The frame-start update inside an output frame start. -/

namespace Sys2Proof.Machine

/-! ### The frame-start update beside the frame opened

An output frame start opens the frame between the pop and the update; the update reads and writes nothing of what the
opening touches, so that it comes out as on the state before. -/

/-- Two states alike in all that the frame-start update and the group sync unit read and write. -/
structure State.UpdatesAlike (s t : State) : Prop where
  tables : t.tables = s.tables
  scene : t.scene = s.scene
  group : t.group = s.group
  flags : t.status.flags = s.status.flags
  refusal : t.status.refusal = s.status.refusal
  watch : t.status.watch = s.status.watch

theorem State.openFrame_updatesAlike (src : Source) (s : State) : s.UpdatesAlike (s.openFrame src) := by
  obtain ⟨k, st, d, h, hflags, hrefusal, hwatch, -⟩ := s.openFrame_cases src
  rw [h]
  exact ⟨rfl, rfl, rfl, hflags, hrefusal, hwatch⟩

namespace State.UpdatesAlike

variable {s t : State} (h : s.UpdatesAlike t)
include h

theorem with_scene (f : Scene → Scene) :
    State.UpdatesAlike { s with scene := f s.scene } { t with scene := f t.scene } :=
  ⟨h.tables, congrArg f h.scene, h.group, h.flags, h.refusal, h.watch⟩

theorem raise (f : Flag) : (s.raise f).UpdatesAlike (t.raise f) :=
  ⟨h.tables, h.scene, h.group, by rw [State.raise_flags, State.raise_flags, h.flags], h.refusal, h.watch⟩

theorem refuse (p : Nat) (why : Reason) (tb i : Nat) :
    (s.refuse p why tb i).UpdatesAlike (t.refuse p why tb i) :=
  ⟨h.tables, h.scene, h.group, congrArg (· ||| Flag.refused.mask) h.flags, rfl, h.watch⟩

theorem flip : s.flip.UpdatesAlike t.flip := by
  unfold State.flip
  simp only [h.tables, h.scene]
  split <;> exact ⟨rfl, rfl, h.group, h.flags, h.refusal, h.watch⟩

theorem flipIfDue : s.flipIfDue.UpdatesAlike t.flipIfDue := by
  unfold State.flipIfDue State.flipDue
  rw [h.scene]
  split
  · exact h.flip
  · exact h

theorem setItemState (item : Nat) (st : ItemState) :
    (s.setItemState item st).UpdatesAlike (t.setItemState item st) := by
  refine ⟨?_, h.scene, h.group, h.flags, h.refusal, h.watch⟩
  unfold State.setItemState
  simp only [h.tables]

theorem popEntry (e : StackEntry) (rest : List StackEntry) :
    (s.popEntry e rest).UpdatesAlike (t.popEntry e rest) :=
  h.with_scene fun c => { c with page := e.page, hold := e.hold, threshold := e.threshold, stack := rest }

theorem pushPage (page duration threshold : Nat) :
    (s.pushPage page duration threshold).UpdatesAlike (t.pushPage page duration threshold) := by
  unfold State.pushPage
  rw [h.scene]
  cases decide (8 ≤ s.scene.stack.length)
  · exact ⟨h.tables, by simp [h.scene], h.group, h.flags, h.refusal, h.watch⟩
  · exact ⟨h.tables, by simp [h.scene], h.group, (h.raise .stackWrap).flags, h.refusal, h.watch⟩

theorem applyHot (c : HotCmd) (touched : Bool) :
    (applyHot c (s, touched)).1.UpdatesAlike (applyHot c (t, touched)).1 ∧
      (Machine.applyHot c (t, touched)).2 = (Machine.applyHot c (s, touched)).2 := by
  cases c with
  | itemState item code =>
    simp only [Machine.applyHot]
    cases itemStateOfCode code with
    | some st => exact ⟨h.setItemState item st, rfl⟩
    | none => exact ⟨h.refuse _ _ _ _, rfl⟩
  | pageSet page =>
    simp only [Machine.applyHot]
    split
    · exact ⟨h.with_scene fun c => { c with page := page, stack := [], hold := none }, rfl⟩
    · exact ⟨h.refuse _ _ _ _, rfl⟩
  | pagePush page duration threshold =>
    simp only [Machine.applyHot]
    split
    · exact ⟨h.pushPage page duration threshold, rfl⟩
    · exact ⟨h.refuse _ _ _ _, rfl⟩
  | pagePop =>
    simp only [Machine.applyHot, h.scene]
    cases s.scene.stack with
    | nil => exact ⟨h.raise _, rfl⟩
    | cons e rest => exact ⟨h.popEntry e rest, rfl⟩
  | thresholdSet n => exact ⟨h.with_scene fun c => { c with threshold := clampThreshold n }, rfl⟩
  | watchSet r => exact ⟨⟨h.tables, h.scene, h.group, h.flags, h.refusal, rfl⟩, rfl⟩
  | eventClear mask =>
    exact ⟨⟨h.tables, h.scene, h.group, congrArg (· &&& ~~~(mask.setWidth 19)) h.flags, h.refusal, h.watch⟩, rfl⟩

end State.UpdatesAlike

theorem State.UpdatesAlike.applyHots (cs : List HotCmd) {s t : State} (h : s.UpdatesAlike t) (touched : Bool) :
    (applyHots cs (s, touched)).1.UpdatesAlike (applyHots cs (t, touched)).1 ∧
      (Machine.applyHots cs (t, touched)).2 = (Machine.applyHots cs (s, touched)).2 := by
  induction cs generalizing s t touched with
  | nil => exact ⟨h, rfl⟩
  | cons c cs ih =>
    obtain ⟨halike, htouched⟩ := h.applyHot c touched
    rw [Machine.applyHots, Machine.applyHots]
    have hrest := ih halike (Machine.applyHot c (s, touched)).2
    rwa [← htouched, Prod.mk.eta, htouched, Prod.mk.eta] at hrest

theorem State.UpdatesAlike.applyHotQueue {s t : State} (h : s.UpdatesAlike t) :
    s.applyHotQueue.1.UpdatesAlike t.applyHotQueue.1 ∧ t.applyHotQueue.2 = s.applyHotQueue.2 := by
  have hqueue : t.scene.hotQ = s.scene.hotQ := by rw [h.scene]
  unfold State.applyHotQueue
  rw [hqueue]
  exact State.UpdatesAlike.applyHots s.scene.hotQ (h.with_scene fun c => { c with hotQ := [] }) false

/-! ### The group sync unit's frame start -/

/-- The group sync unit's frame start touches the phase and its own record alone. -/
theorem State.groupFrameStart_eq (s : State) :
    s.groupFrameStart =
      { s with
        scene := { s.scene with phase := s.groupFrameStart.scene.phase }
        group := s.groupFrameStart.group } := by
  rcases s.groupFrameStart_cases with ⟨-, h⟩ | ⟨-, h | ⟨-, h⟩⟩
  · rw [h]
  · rw [h]
  · rw [h]
    rfl

/-- The group sync unit's frame start reads the phase and its own record alone. -/
theorem State.groupFrameStart_congr {s t : State} (hphase : t.scene.phase = s.scene.phase)
    (hgroup : t.group = s.group) :
    t.groupFrameStart.scene.phase = s.groupFrameStart.scene.phase ∧
      t.groupFrameStart.group = s.groupFrameStart.group := by
  unfold State.groupFrameStart State.readyHigh State.releasesReady
  simp only [hphase, hgroup]
  split
  · split <;> simp [State.commit, State.beginPulse, hphase]
  · exact ⟨hphase, hgroup⟩

/-! ### An output frame start, field by field -/

/-- The update of an output frame start up to its hot queue, on the state itself: the pop that may be due, the flip,
the hot entries (R130). -/
def State.hotUpdate (s : State) : State × Bool := s.popIfDue.flipIfDue.applyHotQueue

/-- The page hold timer as the update leaves it (R136). -/
def State.holdAfter (s : State) : Option Nat :=
  if s.hotUpdate.2 = true then s.hotUpdate.1.scene.hold else s.hotUpdate.1.scene.hold.map (· - 1)

/-- What an output frame start leaves, up to scene settled, of all that its update writes. -/
theorem State.beginFrame_update (src : Source) (s : State) :
    (s.beginFrame src).tables = s.hotUpdate.1.tables ∧
      (s.beginFrame src).scene =
        { s.hotUpdate.1.scene with
          hold := s.holdAfter
          phase := s.hotUpdate.1.groupFrameStart.scene.phase } ∧
      (s.beginFrame src).group = s.hotUpdate.1.groupFrameStart.group ∧
      (s.beginFrame src).status.flags = s.hotUpdate.1.status.flags ∧
      (s.beginFrame src).status.refusal = s.hotUpdate.1.status.refusal ∧
      (s.beginFrame src).status.watch = s.hotUpdate.1.status.watch := by
  obtain ⟨halike, htouched⟩ := (s.popIfDue.openFrame_updatesAlike src).flipIfDue.applyHotQueue
  have hbegin : s.beginFrame src =
      ((s.popIfDue.openFrame src).flipIfDue.applyHotQueue.1.runHoldTimer
        (s.popIfDue.openFrame src).flipIfDue.applyHotQueue.2).groupFrameStart := rfl
  have hhot : s.hotUpdate = s.popIfDue.flipIfDue.applyHotQueue := rfl
  have hafter : s.holdAfter =
      if s.hotUpdate.2 = true then s.hotUpdate.1.scene.hold else s.hotUpdate.1.scene.hold.map (· - 1) := rfl
  rw [← hhot] at halike htouched
  rw [hbegin, State.runHoldTimer_eq, htouched, State.groupFrameStart_eq]
  generalize (s.popIfDue.openFrame src).flipIfDue.applyHotQueue.1 = w at halike ⊢
  generalize hu : ({ w with scene := _ } : State) = u
  have hphase : u.scene.phase = s.hotUpdate.1.scene.phase := by rw [← hu, ← halike.scene]
  have hgroup : u.group = s.hotUpdate.1.group := by rw [← hu, ← halike.group]
  obtain ⟨hphase', hgroup'⟩ := State.groupFrameStart_congr hphase hgroup
  refine ⟨?_, ?_, hgroup', ?_, ?_, ?_⟩
  · rw [← halike.tables, ← hu]
  · rw [hphase', hafter, ← hu, ← halike.scene]
  · rw [← halike.flags, ← hu]
  · rw [← halike.refusal, ← hu]
  · rw [← halike.watch, ← hu]

/-- Scene settled waits exactly where the timer has reached 0 (R130, R136). -/
theorem State.beginFrame_holdDue (src : Source) (s : State) :
    (s.beginFrame src).holdDue = (s.holdAfter == some 0) := by
  obtain ⟨-, hscene, -⟩ := s.beginFrame_update src
  rw [State.holdDue, hscene]

/-- What the update leaves stands behind the whole output frame start; scene settled can set further flags. -/
theorem State.outputFrameStart_update (src : Source) (s : State) :
    (s.outputFrameStart src).tables = s.hotUpdate.1.tables ∧
      (s.outputFrameStart src).scene =
        { s.hotUpdate.1.scene with
          hold := s.holdAfter
          phase := s.hotUpdate.1.groupFrameStart.scene.phase } ∧
      (s.outputFrameStart src).group = s.hotUpdate.1.groupFrameStart.group ∧
      (s.outputFrameStart src).status.refusal = s.hotUpdate.1.status.refusal ∧
      (s.outputFrameStart src).status.watch = s.hotUpdate.1.status.watch ∧
      ∀ g, s.hotUpdate.1.flagged g = true → (s.outputFrameStart src).flagged g = true := by
  obtain ⟨htables, hscene, hgroup, hflags, hrefusal, hwatch⟩ := s.beginFrame_update src
  have hflagged : ∀ g, s.hotUpdate.1.flagged g = true → (s.beginFrame src).flagged g = true := by
    intro g hg
    rw [State.flagged, hflags]
    exact hg
  rcases s.outputFrameStart_cases src with ⟨-, h⟩ | ⟨-, h⟩ <;> rw [h]
  · exact ⟨htables, hscene, hgroup, hrefusal, hwatch, hflagged⟩
  · simp only [State.settleScene_tables, State.settleScene_scene, State.settleScene_group,
      State.settleScene_refusal, State.settleScene_watch]
    exact ⟨htables, hscene, hgroup, hrefusal, hwatch, fun g hg => State.settleScene_flagged _ (hflagged g hg)⟩

/-- The hot entries leave both command queues as they were. -/
theorem applyHots_queues (cs : List HotCmd) (p : State × Bool) :
    (applyHots cs p).1.scene.hotQ = p.1.scene.hotQ ∧ (applyHots cs p).1.scene.tableQ = p.1.scene.tableQ := by
  have hone : ∀ (c : HotCmd) (p : State × Bool),
      (applyHot c p).1.scene.hotQ = p.1.scene.hotQ ∧ (applyHot c p).1.scene.tableQ = p.1.scene.tableQ := by
    intro c p
    cases c with
    | itemState item code =>
      simp only [applyHot]
      cases itemStateOfCode code <;> exact ⟨rfl, rfl⟩
    | pageSet page =>
      simp only [applyHot]
      split <;> exact ⟨rfl, rfl⟩
    | pagePush page duration threshold =>
      simp only [applyHot, State.pushPage]
      split
      · split <;> exact ⟨rfl, rfl⟩
      · exact ⟨rfl, rfl⟩
    | pagePop =>
      simp only [applyHot]
      split <;> exact ⟨rfl, rfl⟩
    | thresholdSet n => exact ⟨rfl, rfl⟩
    | watchSet r => exact ⟨rfl, rfl⟩
    | eventClear mask => exact ⟨rfl, rfl⟩
  induction cs generalizing p with
  | nil => exact ⟨rfl, rfl⟩
  | cons c cs ih =>
    obtain ⟨hhot, htable⟩ := ih (applyHot c p)
    exact ⟨hhot.trans (hone c p).1, htable.trans (hone c p).2⟩

/-- Pop and flip leave the command queues and the flip's status untouched: no queue, no flag that was set is lost. -/
theorem State.popIfDue_flipIfDue_queues (s : State) :
    s.popIfDue.flipIfDue.scene.hotQ = s.scene.hotQ ∧ s.popIfDue.flipIfDue.scene.tableQ = s.scene.tableQ ∧
      ∀ g, s.flagged g = true → s.popIfDue.flipIfDue.flagged g = true := by
  have hpop : s.popIfDue.scene.hotQ = s.scene.hotQ ∧ s.popIfDue.scene.tableQ = s.scene.tableQ ∧
      ∀ g, s.flagged g = true → s.popIfDue.flagged g = true := by
    rcases s.popIfDue_cases with ⟨-, h⟩ | ⟨-, ⟨e, rest, -, h⟩ | ⟨-, h⟩⟩ <;> rw [h]
    · exact ⟨rfl, rfl, fun _ hg => hg⟩
    · exact ⟨rfl, rfl, fun _ hg => hg⟩
    · exact ⟨rfl, rfl, fun g => s.flagged_raise_mono .stackEmpty g⟩
  have hflip : ∀ u : State, u.flipIfDue.scene.hotQ = u.scene.hotQ ∧
      u.flipIfDue.scene.tableQ = u.scene.tableQ ∧ u.flipIfDue.status = u.status := by
    intro u
    rcases u.flipIfDue_cases with ⟨-, h⟩ | ⟨-, h⟩ <;> rw [h]
    · unfold State.flip Scene.enterPage
      simp only
      split
      · exact ⟨rfl, rfl, rfl⟩
      · split <;> exact ⟨rfl, rfl, rfl⟩
    · exact ⟨rfl, rfl, rfl⟩
  obtain ⟨hhot, htable, hflag⟩ := hpop
  obtain ⟨hhot', htable', hstatus⟩ := hflip s.popIfDue
  refine ⟨hhot'.trans hhot, htable'.trans htable, fun g hg => ?_⟩
  rw [State.flagged, hstatus]
  exact hflag g hg

theorem State.hotUpdate_queues (s : State) :
    s.hotUpdate.1.scene.hotQ = [] ∧ s.hotUpdate.1.scene.tableQ = s.scene.tableQ := by
  obtain ⟨-, htable, -⟩ := s.popIfDue_flipIfDue_queues
  obtain ⟨hhot', htable'⟩ := applyHots_queues s.popIfDue.flipIfDue.scene.hotQ
    ({ s.popIfDue.flipIfDue with scene := { s.popIfDue.flipIfDue.scene with hotQ := [] } }, false)
  exact ⟨hhot', htable'.trans htable⟩

/-- With no hot entry waiting, an output frame start loses no flag (R167). -/
theorem State.outputFrameStart_flagged {s : State} {g : Flag} (src : Source) (hhot : s.scene.hotQ = [])
    (hg : s.flagged g = true) : (s.outputFrameStart src).flagged g = true := by
  obtain ⟨hq, -, hflag⟩ := s.popIfDue_flipIfDue_queues
  obtain ⟨-, -, -, -, -, hupdate⟩ := s.outputFrameStart_update src
  refine hupdate g ?_
  rw [State.hotUpdate, State.applyHotQueue, hq, hhot]
  exact hflag g hg

/-- The hot entries one by one in arrival order are a fold over the queue. -/
theorem applyHots_eq_foldl (cs : List HotCmd) (p : State × Bool) :
    applyHots cs p = cs.foldl (fun p c => applyHot c p) p := by
  induction cs generalizing p with
  | nil => rfl
  | cons c cs ih => exact ih (applyHot c p)

end Sys2Proof.Machine

/-! SUPPORT. The three commands that bring an output frame start, and what it leaves. -/

namespace Sys2Proof.Machine

/-! ### The three commands that bring an output frame start -/

/-- What INPUT_FRAME_START answers where nothing stands before it. -/
theorem execInputFrameStart_of_rasterQuiet {s : State} (hq : s.rasterQuiet = true) (ready : Bool) :
    execInputFrameStart ready s =
      .next ((s.seeReady ready).judgeFrame.inputFrameOutput s.raster.lock) := by
  unfold execInputFrameStart
  rw [s.rasterPrelude_of_rasterQuiet hq]
  rfl

/-- What LOSS_INTERVAL_EXPIRY answers where nothing stands before it. -/
theorem execLossIntervalExpiry_of_rasterQuiet {s : State} (hq : s.rasterQuiet = true) (ready : Bool) :
    (s.raster.lossTimer = none → execLossIntervalExpiry ready s = .next (s.seeReady ready)) ∧
      (s.raster.lossTimer ≠ none → execLossIntervalExpiry ready s = .next (s.seeReady ready).loseInput) := by
  unfold execLossIntervalExpiry
  rw [s.rasterPrelude_of_rasterQuiet hq]
  simp only [State.seeReady_raster]
  cases s.raster.lossTimer with
  | none => exact ⟨fun _ => rfl, fun h => absurd rfl h⟩
  | some n => exact ⟨fun h => (nomatch h), fun _ => rfl⟩

/-- What FALLBACK_FRAME_START answers where nothing stands before it: an output frame start exactly out of lock and
behind all H + 45 line periods (R12). -/
theorem execFallbackFrameStart_of_rasterQuiet {s : State} (hq : s.rasterQuiet = true) (ready : Bool) :
    (s.followsInput = false → s.raster.linePeriods = s.raster.record.height + 45 →
      execFallbackFrameStart ready s = .next ((s.seeReady ready).outputFrameStart .fallback)) ∧
    (s.followsInput = true ∨ s.raster.linePeriods ≠ s.raster.record.height + 45 →
      execFallbackFrameStart ready s = .next (s.seeReady ready)) := by
  have hfollows : (s.seeReady ready).followsInput = s.followsInput := rfl
  have hdone : (s.seeReady ready).raster.periodsDone = (s.raster.linePeriods == s.raster.record.height + 45) := rfl
  unfold execFallbackFrameStart
  rw [s.rasterPrelude_of_rasterQuiet hq]
  simp only [hfollows, hdone]
  refine ⟨fun h1 h2 => ?_, fun h => ?_⟩
  · simp [h1, h2]
  · rcases h with h | h <;> simp [h]

/-- In lock before and after, an input frame start brings an output frame start of source INPUT (R11). -/
theorem State.inputFrameOutput_held {before : Lock} {s : State} (hbefore : before.follows = true)
    (hnow : s.raster.lock.follows = true) : s.inputFrameOutput before = s.outputFrameStart .input := by
  simp [State.inputFrameOutput, hbefore, hnow]

/-- A lock gained ends the line in progress first (R14). -/
theorem State.inputFrameOutput_gained {before : Lock} {s : State} (hbefore : before.follows = false)
    (hnow : s.raster.lock.follows = true) :
    s.inputFrameOutput before = s.cutLine.outputFrameStart .input := by
  simp [State.inputFrameOutput, hbefore, hnow]

/-- A lock given up begins a fallback frame (R13). -/
theorem State.inputFrameOutput_lost {before : Lock} {s : State} (hbefore : before.follows = true)
    (hnow : s.raster.lock.follows = false) : s.inputFrameOutput before = s.outputFrameStart .fallback := by
  simp [State.inputFrameOutput, hbefore, hnow]

/-- Out of lock before and after, the fallback raster goes on (R12). -/
theorem State.inputFrameOutput_none {before : Lock} {s : State} (hbefore : before.follows = false)
    (hnow : s.raster.lock.follows = false) : s.inputFrameOutput before = s := by
  simp [State.inputFrameOutput, hbefore, hnow]

/-! ### A flip -/

/-- A due flip of an armed record, field by field (R131). -/
theorem State.flipIfDue_of_armed {s : State} {r : Armed} (hdue : s.flipDue = true)
    (harmed : s.scene.armed = some r) :
    s.flipIfDue =
      { s with
        tables := { s.tables with active := s.tables.active.other }
        scene :=
          { s.scene with
            tag := r.tag
            generation := (s.scene.generation + 1) % 65536
            phase := .settled
            armed := none
            page := r.entryPage.getD s.scene.page
            stack := if r.entryPage.isSome = true then [] else s.scene.stack
            hold := if r.entryPage.isSome = true then none else s.scene.hold } } := by
  unfold State.flipIfDue State.flip Scene.enterPage
  simp only [hdue, if_true, harmed]
  cases r.entryPage <;> simp

/-! ### O26 -/

/-- The loss of a lock up to the frame start it brings: the raster at rest, INPUT_LOST set, the line in progress ended
(R9, R13). -/
def State.lockLost (s : State) : State :=
  (({ s with
      raster :=
        { s.raster with lock := .unlocked, lossTimer := none, measure := none, inFrame := none } } : State).raise
    .inputLost).cutLine

theorem State.loseInput_of_follows {s : State} (h : s.raster.lock.follows = true) :
    s.loseInput = s.lockLost.outputFrameStart .fallback := by
  unfold State.loseInput
  simp only [h, if_true]
  rfl

theorem State.loseInput_of_not_follows {s : State} (h : s.raster.lock.follows = false) :
    s.loseInput =
      { s with
        raster :=
          { s.raster with lock := .unlocked, lossTimer := none, measure := none, inFrame := none } } := by
  unfold State.loseInput
  simp only [h, Bool.false_eq_true, if_false]

/-- An output frame start, field by field: the third part of O26. -/
theorem State.outputFrameStart_fields (src : Source) (s : State) :
    ((s.outputFrameStart src).scene.hotQ = [] ∧ (s.outputFrameStart src).scene.tableQ = s.scene.tableQ) ∧
    (s.holdAfter ≠ some 0 →
      (s.outputFrameStart src).builder.view =
        some ⟨s.hotUpdate.1.tables.active, s.hotUpdate.1.scene.page, s.hotUpdate.1.scene.threshold,
          s.raster.settings.wAct, s.raster.settings.hAct, s.loading⟩) ∧
    (s.holdAfter = some 0 →
      (s.outputFrameStart src).holdDue = true ∧ (s.outputFrameStart src).builder = .atReset ∧
        (s.outputFrameStart src).cache = s.cache) := by
  obtain ⟨htables, hscene, -⟩ := s.beginFrame_update src
  obtain ⟨-, hscene', -⟩ := s.outputFrameStart_update src
  obtain ⟨hhotQ, htableQ⟩ := s.hotUpdate_queues
  have hdue := s.beginFrame_holdDue src
  have hloading : (s.beginFrame src).loading = s.loading := by
    rw [State.loading, State.beginFrame_store]
    rfl
  refine ⟨by rw [hscene']; exact ⟨hhotQ, htableQ⟩, fun hhold => ?_, fun hhold => ?_⟩
  · have hsettles : s.outputFrameStart src = (s.beginFrame src).settleScene := by
      rw [State.outputFrameStart, hdue]
      simp [hhold]
    rw [hsettles, State.settleScene_view, htables, hscene, State.beginFrame_raster, hloading]
    rfl
  · have hwaits : s.outputFrameStart src = s.beginFrame src := by
      rw [State.outputFrameStart, hdue]
      simp [hhold]
    rw [hwaits, hdue, hhold]
    exact ⟨rfl, s.beginFrame_builder src, s.beginFrame_cache src⟩

/-- The update's hot entries are those of the queue as it stood before the frame start, in arrival order (R130,
R132). -/
theorem State.hotUpdate_eq_foldl (s : State) :
    s.hotUpdate =
      s.scene.hotQ.foldl (fun p c => applyHot c p)
        ({ s.popIfDue.flipIfDue with scene := { s.popIfDue.flipIfDue.scene with hotQ := [] } }, false) := by
  obtain ⟨hqueue, -, -⟩ := s.popIfDue_flipIfDue_queues
  rw [State.hotUpdate, State.applyHotQueue, applyHots_eq_foldl, hqueue]

/-- Settles O26: the commands that bring an output frame start, the flip in it, and the frame start itself. -/
theorem fallbackFrameStartFlipsAndSettles : Obligations.FallbackFrameStartFlipsAndSettles := by
  refine ⟨fun s ready hq => ?_, fun s => ⟨fun hdue => ?_, fun r => State.flipIfDue_of_armed⟩, fun s src => ?_⟩
  · obtain ⟨hstart, hnone⟩ := execFallbackFrameStart_of_rasterQuiet hq ready
    have hinput := execInputFrameStart_of_rasterQuiet hq ready
    obtain ⟨-, hloss⟩ := execLossIntervalExpiry_of_rasterQuiet hq ready
    refine ⟨hstart, hnone, fun hbefore hnow => ?_, fun hbefore hnow => ?_, fun hbefore hnow => ?_,
      fun hbefore htimer => ?_⟩
    · rw [State.followsInput_eq] at hbefore hnow
      exact hinput.trans (congrArg _ (State.inputFrameOutput_held hbefore hnow))
    · rw [State.followsInput_eq] at hbefore hnow
      exact hinput.trans (congrArg _ (State.inputFrameOutput_gained hbefore hnow))
    · rw [State.followsInput_eq] at hbefore hnow
      exact hinput.trans (congrArg _ (State.inputFrameOutput_lost hbefore hnow))
    · rw [State.followsInput_eq] at hbefore
      refine ⟨(hloss htimer).trans (congrArg _ (State.loseInput_of_follows hbefore)), ?_⟩
      simp
  · rcases s.flipIfDue_cases with ⟨h, -⟩ | ⟨-, h⟩
    · rw [hdue] at h
      cases h
    · exact h
  · intro f hot hold t
    have hhot : hot = s.hotUpdate := s.hotUpdate_eq_foldl.symm
    have hhold : hold = s.holdAfter := by
      change (if hot.2 = true then hot.1.scene.hold else hot.1.scene.hold.map (· - 1)) = _
      rw [hhot]
      rfl
    rw [hhot, hhold]
    obtain ⟨htables, hscene, hgroup, hrefusal, hwatch, hflagged⟩ := s.outputFrameStart_update src
    obtain ⟨⟨hhotQ, htableQ⟩, hview, hwait⟩ := s.outputFrameStart_fields src
    have hraster : t.raster = s.raster.latch src := s.outputFrameStart_raster src
    refine ⟨?_, ⟨htables, hhotQ, htableQ, ?_⟩, ⟨hwatch, hrefusal, hflagged⟩,
      ⟨s.outputFrameStart_library src, s.outputFrameStart_store src, s.outputFrameStart_straps src⟩,
      ⟨hgroup, ?_⟩, hview, hwait⟩
    · rw [hraster]
      exact ⟨rfl, rfl, rfl, rfl, rfl, rfl, rfl⟩
    · have hscene' : t.scene = _ := hscene
      rw [hscene']
      exact ⟨rfl, rfl, rfl, rfl, rfl, rfl, rfl⟩
    · have hscene' : t.scene = _ := hscene
      rw [hscene']

end Sys2Proof.Machine

/-! SUPPORT. The end of the line in progress at a lock lost, and the watch result with it. -/

namespace Sys2Proof.Machine

/-! ### The watch result and the cut line -/

/-- Two states alike in all that the watch result and a cut of the line read (R170). -/
structure State.WatchesAlike (s t : State) : Prop where
  watch : t.status.watch = s.status.watch
  watchRun : t.status.watchRun = s.status.watchRun
  record : t.raster.record = s.raster.record
  nextLine : t.raster.nextLine = s.raster.nextLine

theorem State.WatchesAlike.watchResult {s t : State} (h : s.WatchesAlike t) :
    t.watchResult = s.watchResult := by
  unfold State.watchResult State.watchClip
  rw [h.watch, h.watchRun, h.record]

theorem State.WatchesAlike.watchCut {s t : State} (h : s.WatchesAlike t) (sent : Nat) :
    (s.watchCut sent).WatchesAlike (t.watchCut sent) := by
  have hclip : t.watchClip = s.watchClip := by
    unfold State.watchClip
    rw [h.watch, h.record]
  unfold State.watchCut
  rw [hclip, h.nextLine]
  split
  · exact h
  · split
    · exact ⟨h.watch, congrArg (fun r => { r with whole := false }) h.watchRun, h.record, h.nextLine⟩
    · exact h

theorem State.ControlsTo.watchResult_of_watch {s t : State} (h : s.ControlsTo t)
    (hwatch : t.status.watch = s.status.watch) : t.watchResult = s.watchResult := by
  refine State.WatchesAlike.watchResult ⟨hwatch, h.watchRun, ?_, ?_⟩ <;> rw [h.raster]

/-- The line ended at once: the panel output, and the watch result with the pixels not yet sent (R79, R170). -/
theorem State.cutLine_panel_watchResult (s : State) :
    (s.panel.inProgress = false → s.cutLine.panel = s.panel ∧ s.cutLine.watchResult = s.watchResult) ∧
    ∀ px, s.panel = ⟨.pixels px, true⟩ →
      (∃ sent, sent < px.length ∧ s.cutLine.panel = ⟨.cut (px.take sent), false⟩ ∧
        s.cutLine.watchResult = (s.watchCut sent).watchResult) ∨
      (s.cutLine.panel = ⟨.pixels px, false⟩ ∧ s.cutLine.watchResult = s.watchResult) := by
  rcases s.cutLine_cases with ⟨hnone, h⟩ | ⟨px, hpx, h⟩
  · rw [h]
    exact ⟨fun _ => ⟨rfl, rfl⟩, fun px hpx => absurd hpx (hnone px)⟩
  · refine ⟨fun hidle => ?_, fun px' hpx' => ?_⟩
    · rw [hpx] at hidle
      cases hidle
    · cases hpx.symm.trans hpx'
      rcases h with h | ⟨sent, hsent, h⟩ <;> rw [h]
      · exact .inr ⟨rfl, rfl⟩
      · exact .inl ⟨sent, hsent, rfl, rfl⟩

/-! ### A lock lost -/

/-- The status unit's packet of a frame carries the watch result that stood before its frame start (R166, R170). -/
theorem State.beginFrame_draft (src : Source) (s : State) :
    ∃ d, (s.beginFrame src).status.draft = some d ∧ d.watch = s.watchResult := by
  obtain ⟨k, st, d, h, -, -, -, hdraft, hwatch⟩ := s.popIfDue.openFrame_cases src
  have hpop : s.popIfDue.status.watch = s.status.watch := by
    rcases s.popIfDue_cases with ⟨-, h⟩ | ⟨-, ⟨e, rest, -, h⟩ | ⟨-, h⟩⟩ <;> rw [h] <;> rfl
  refine ⟨d, ?_, hwatch.trans (s.popIfDue_controlsTo.watchResult_of_watch hpop)⟩
  rw [(s.beginFrame_controlsTo src).draft, h]
  exact hdraft

/-- Settles O25: in lock the expiry is an output frame start on the lock lost, whose raster is latched, whose panel is
that of the cut line, and whose packet carries the watch result of the frame cut. -/
theorem lossIntervalExpiryUnlocks : Obligations.LossIntervalExpiryUnlocks := by
  intro s ready hq seen
  obtain ⟨hstopped, hrunning⟩ := execLossIntervalExpiry_of_rasterQuiet hq ready
  refine ⟨hstopped, ?_⟩
  intro n hn unlocked
  refine ⟨fun hfollows => ?_, ?_⟩
  · refine (hrunning (by simp [hn])).trans (congrArg _ ?_)
    exact State.loseInput_of_not_follows (s := s.seeReady ready) hfollows
  · intro hfollows lost
    have hexec : exec (.lossIntervalExpiry ready) s = .next (lost.outputFrameStart .fallback) :=
      (hrunning (by simp [hn])).trans
        (congrArg _ (State.loseInput_of_follows (s := s.seeReady ready) hfollows))
    have hraised : s.WatchesAlike (unlocked.raise .inputLost) := ⟨rfl, rfl, rfl, rfl⟩
    have hraster : (lost.outputFrameStart .fallback).raster = unlocked.raster.latch .fallback := by
      rw [State.outputFrameStart_raster, State.cutLine_raster]
      rfl
    have hpanel := lost.outputFrameStart_panel .fallback
    obtain ⟨hidle, hsent⟩ := (unlocked.raise .inputLost).cutLine_panel_watchResult
    refine ⟨_, hexec, rfl, ?_⟩
    rw [hraster]
    refine ⟨rfl, rfl, rfl, rfl, rfl, rfl, rfl, rfl, ?_, ?_, lost.beginFrame_draft .fallback, ?_, ?_, ?_, ?_⟩
    · intro hprogress
      obtain ⟨hpanel', hwatch⟩ := hidle hprogress
      refine ⟨?_, hwatch.trans hraised.watchResult⟩
      rw [hpanel, hpanel', ← hprogress]
      rfl
    · intro px hpx
      rcases hsent px hpx with ⟨sent, hlt, hpanel', hwatch⟩ | ⟨hpanel', hwatch⟩
      · refine .inl ⟨sent, hlt, ?_, hwatch.trans (hraised.watchCut sent).watchResult⟩
        rw [hpanel, hpanel']
      · refine .inr ⟨?_, hwatch.trans hraised.watchResult⟩
        rw [hpanel, hpanel']
    · intro hhot
      refine State.outputFrameStart_flagged .fallback ((congrArg Scene.hotQ (State.cutLine_scene _)).trans hhot) ?_
      rw [State.flagged, State.cutLine_flags]
      exact State.flagged_raise .inputLost unlocked
    · rw [State.outputFrameStart_library, State.cutLine_library]
      rfl
    · rw [State.outputFrameStart_store, State.cutLine_store]
      rfl
    · rw [State.outputFrameStart_straps, State.cutLine_straps]
      rfl

end Sys2Proof.Machine

/-! SUPPORT. The judgement of an input frame and the output frame start it brings. -/

namespace Sys2Proof.Machine

/-! ### The judgement of an input frame (R6 to R8) -/

theorem Raster.judge_matching {r : Raster} {m : Measure} (hm : r.measure = some m) (hcomplete : m.complete = true)
    (hwidths : m.widthsOk = true) (hlines : m.lines = r.settings.hAct) : r.judge = some true := by
  simp [Raster.judge, hm, hcomplete, hwidths, hlines]

theorem Raster.judge_mismatching {r : Raster} {m : Measure} (hm : r.measure = some m)
    (hcomplete : m.complete = true) (hnot : ¬(m.widthsOk = true ∧ m.lines = r.settings.hAct)) :
    r.judge = some false := by
  simp only [Raster.judge, hm, hcomplete, if_true, Option.some.injEq, Bool.and_eq_false_iff,
    decide_eq_false_iff_not]
  by_cases hwidths : m.widthsOk = true
  · exact .inr fun hlines => hnot ⟨hwidths, hlines⟩
  · exact .inl (by simpa using hwidths)

theorem Raster.judge_incomplete {r : Raster}
    (h : r.measure = none ∨ ∃ m, r.measure = some m ∧ m.complete = false) : r.judge = none := by
  rcases h with h | ⟨m, hm, hcomplete⟩
  · simp [Raster.judge, h]
  · simp [Raster.judge, hm, hcomplete]

theorem State.judgeFrame_flagged_mismatch {s : State} (h : s.raster.judge = some false) :
    s.judgeFrame.flagged .geometryMismatch = true := by
  have hraised := State.flagged_raise .geometryMismatch s
  unfold State.judgeFrame
  simp only [h, if_true]
  split
  · exact State.flagged_raise_mono .inputLost .geometryMismatch _ hraised
  · exact hraised

theorem State.judgeFrame_flagged_lost {s : State} (hbefore : s.raster.lock.follows = true)
    (hnow : (s.raster.lock.judged s.raster.judge).follows = false) :
    s.judgeFrame.flagged .inputLost = true := by
  unfold State.judgeFrame
  simp only [hbefore, hnow, Bool.not_false, Bool.and_self, if_true]
  exact State.flagged_raise .inputLost _

theorem State.judgeFrame_status_of_none {s : State} (h : s.raster.judge = none) :
    s.judgeFrame.status = s.status := by
  have hlock : (s.raster.lock.judged none).follows = s.raster.lock.follows := rfl
  unfold State.judgeFrame
  simp [h, hlock]

/-! ### The output frame start behind it -/

/-- The output frame start that an input frame start brings leaves lock monitor, receiver and settings as they are. -/
theorem State.inputFrameOutput_receiver (before : Lock) (s : State) :
    (s.inputFrameOutput before).raster.settings = s.raster.settings ∧
      (s.inputFrameOutput before).raster.lossTimer = s.raster.lossTimer ∧
      (s.inputFrameOutput before).raster.measure = s.raster.measure ∧
      (s.inputFrameOutput before).raster.inFrame = s.raster.inFrame ∧
      (s.inputFrameOutput before).raster.lock = s.raster.lock := by
  cases hbefore : before.follows <;> cases hnow : s.raster.lock.follows
  · rw [State.inputFrameOutput_none hbefore hnow]
    exact ⟨rfl, rfl, rfl, rfl, rfl⟩
  · rw [State.inputFrameOutput_gained hbefore hnow, State.outputFrameStart_raster, State.cutLine_raster]
    exact ⟨rfl, rfl, rfl, rfl, rfl⟩
  · rw [State.inputFrameOutput_lost hbefore hnow, State.outputFrameStart_raster]
    exact ⟨rfl, rfl, rfl, rfl, rfl⟩
  · rw [State.inputFrameOutput_held hbefore hnow, State.outputFrameStart_raster]
    exact ⟨rfl, rfl, rfl, rfl, rfl⟩

theorem State.inputFrameOutput_library (before : Lock) (s : State) :
    (s.inputFrameOutput before).library = s.library := by
  unfold State.inputFrameOutput
  split
  · split <;> simp
  · split <;> simp

/-- In lock, the frame latched is one of the input (R10, R11). -/
theorem State.inputFrameOutput_raster_of_follows {before : Lock} {s : State}
    (hnow : s.raster.lock.follows = true) :
    (s.inputFrameOutput before).raster = s.raster.latch .input := by
  cases hbefore : before.follows
  · rw [State.inputFrameOutput_gained hbefore hnow, State.outputFrameStart_raster, State.cutLine_raster]
  · rw [State.inputFrameOutput_held hbefore hnow, State.outputFrameStart_raster]

/-- A flag that is set stays set where no EVENT_CLEAR can come with the frame start (R167). -/
theorem State.inputFrameOutput_flagged {before : Lock} {s : State} {g : Flag}
    (h : s.scene.hotQ = [] ∨ (before.follows = false ∧ s.raster.lock.follows = false))
    (hg : s.flagged g = true) : (s.inputFrameOutput before).flagged g = true := by
  rcases h with hhot | ⟨hbefore, hnow⟩
  · have hcut : s.cutLine.flagged g = true := by
      rw [State.flagged, State.cutLine_flags]
      exact hg
    unfold State.inputFrameOutput
    split
    · split
      · exact State.outputFrameStart_flagged _ hhot hg
      · exact State.outputFrameStart_flagged _ (by rw [State.cutLine_scene, hhot]) hcut
    · split
      · exact State.outputFrameStart_flagged _ hhot hg
      · exact hg
  · rwa [State.inputFrameOutput_none hbefore hnow]

/-- Settles O22: the judgement fixes the lock, and lock before and after fix the output frame start. -/
theorem inputFrameStartJudgesAndMovesTheLock : Obligations.InputFrameStartJudgesAndMovesTheLock := by
  intro s ready hq
  refine ⟨_, execInputFrameStart_of_rasterQuiet hq ready, ?_⟩
  obtain ⟨v, hjudged⟩ := (s.seeReady ready).judgeFrame_eq
  have hmismatch := State.judgeFrame_flagged_mismatch (s := s.seeReady ready)
  have hlost := State.judgeFrame_flagged_lost (s := s.seeReady ready)
  have hstatus := State.judgeFrame_status_of_none (s := s.seeReady ready)
  simp only [State.seeReady_raster] at hjudged hmismatch hlost hstatus
  generalize (s.seeReady ready).judgeFrame = j at hjudged hmismatch hlost hstatus ⊢
  have hlockj : j.raster.lock = s.raster.lock.judged s.raster.judge := by rw [hjudged]
  obtain ⟨hset, htimer, hmeasure, hframe, hlock⟩ := j.inputFrameOutput_receiver s.raster.lock
  obtain ⟨hkeeps, hstore⟩ := j.inputFrameOutput_keepsStore s.raster.lock
  have hflagged := fun g => State.inputFrameOutput_flagged (before := s.raster.lock) (s := j) (g := g)
  rw [hlock, hlockj]
  refine ⟨?_, ?_, ?_, ?_, fun m hm hcomplete hwidths hlines => ?_, fun m hm hcomplete hnot => ⟨?_, ?_⟩,
    fun hnone => ⟨?_, fun hbefore => ?_⟩, fun hnow => ?_, fun hnow hbefore => ?_, fun hnow hbefore => ?_, ?_, ?_, ?_⟩
  · rw [hset, hjudged]
  · rw [htimer, hjudged]
  · rw [hmeasure, hjudged]
  · rw [hframe, hjudged]
  · rw [Raster.judge_matching hm hcomplete hwidths hlines]
    cases s.raster.lock <;> rfl
  · rw [Raster.judge_mismatching hm hcomplete hnot]
    cases s.raster.lock <;> rfl
  · have hjudge := Raster.judge_mismatching hm hcomplete hnot
    intro hclear
    have hclear' : j.scene.hotQ = [] ∨ (s.raster.lock.follows = false ∧ j.raster.lock.follows = false) := by
      rw [hlockj, hjudged]
      exact hclear
    refine ⟨hflagged _ hclear' (hmismatch hjudge), fun hslip => hflagged _ hclear' (hlost ?_ ?_)⟩
    · rw [hslip]
      rfl
    · rw [hjudge, hslip]
      rfl
  · rw [Raster.judge_incomplete hnone]
    rfl
  · have hjudge := Raster.judge_incomplete hnone
    have hnow : j.raster.lock.follows = false := by
      rw [hlockj, hjudge]
      exact hbefore
    rw [State.inputFrameOutput_none hbefore hnow, hstatus hjudge]
    rfl
  · rw [← hlockj] at hnow
    rw [State.inputFrameOutput_raster_of_follows hnow, hjudged]
    exact ⟨rfl, rfl⟩
  · rw [← hlockj] at hnow
    rw [State.inputFrameOutput_lost hbefore hnow, State.outputFrameStart_raster, hjudged]
    exact ⟨rfl, rfl, rfl⟩
  · rw [← hlockj] at hnow
    rw [State.inputFrameOutput_none hbefore hnow, hjudged]
    exact ⟨rfl, rfl, rfl, rfl, rfl, rfl, rfl⟩
  · rw [State.inputFrameOutput_library, hjudged]
    rfl
  · rw [hstore, hjudged]
    rfl
  · rw [hkeeps.straps, hjudged]
    rfl

end Sys2Proof.Machine

/-! SUPPORT. The receiver: control lines, and lines sent as blanking. -/

namespace Sys2Proof.Machine

/-! ### The byte stream of a control line (R2) -/

theorem columnBytes_eq_flatMap (cols : List Rgb) :
    columnBytes cols = cols.flatMap fun c => [c.r, c.g, c.b] := by
  induction cols with
  | nil => rfl
  | cons c cols ih => rw [columnBytes, ih, List.flatMap_cons]; rfl

theorem columnBytes_length (cols : List Rgb) : (columnBytes cols).length = 3 * cols.length := by
  induction cols with
  | nil => rfl
  | cons c cols ih =>
    simp only [columnBytes, List.length_cons, ih]
    omega

theorem lineStream_length_le (w : Nat) (cols : List Rgb) : (lineStream w cols).length ≤ 3 * w := by
  rw [lineStream, columnBytes_length, List.length_take]
  omega

/-! ### The receiver -/

/-- A control line of an input frame in progress, where nothing stands before it. -/
theorem execControlLine_of_frame {s : State} {f : InFrame} (hpre : s.rasterPrelude = s)
    (hin : s.raster.inFrame = some f) (cols : List Rgb) :
    execControlLine cols s = .next (s.receiveControl f cols).blankIfInput := by
  unfold execControlLine
  simp only [hpre, hin]

/-- A control line behind an active line, or behind the first eight, is ignored with PACKET_BAD (R2). -/
theorem State.receiveControl_of_misplaced {f : InFrame} (h : f.activeSeen = true ∨ 8 ≤ f.controls)
    (cols : List Rgb) (s : State) : s.receiveControl f cols = (s.countControl f).raise .packetBad := by
  have hbad : (f.activeSeen || decide (8 ≤ f.controls)) = true := by simpa using h
  unfold State.receiveControl
  rw [hbad]
  rfl

/-- During the start-up load no byte of a control line is passed (R2). -/
theorem State.receiveControl_of_loading {f : InFrame} {s : State} (hactive : f.activeSeen = false)
    (hcount : f.controls < 8) (hload : s.loading = true) (cols : List Rgb) :
    s.receiveControl f cols = s.countControl f := by
  have hgood : (f.activeSeen || decide (8 ≤ f.controls)) = false := by
    simpa using ⟨hactive, hcount⟩
  have hload' : (s.countControl f).loading = true := hload
  unfold State.receiveControl
  rw [hgood]
  exact if_pos hload'

/-- Otherwise the line is passed to the parser (R2). -/
theorem State.receiveControl_of_passed {f : InFrame} {s : State} (hactive : f.activeSeen = false)
    (hcount : f.controls < 8) (hload : s.loading = false) (cols : List Rgb) :
    s.receiveControl f cols =
      parseLine (lineStream s.raster.settings.wAct cols) (s.countControl f) := by
  have hgood : (f.activeSeen || decide (8 ≤ f.controls)) = false := by
    simpa using ⟨hactive, hcount⟩
  have hload' : (s.countControl f).loading = false := hload
  unfold State.receiveControl
  rw [hgood]
  exact if_neg (Bool.eq_false_iff.1 hload')

/-- A part that is quiet for the raster is not loading. -/
theorem State.loading_of_rasterQuiet {s : State} (hq : s.rasterQuiet = true) : s.loading = false := by
  unfold State.rasterQuiet State.storeQuiet at hq
  simp only [Bool.and_eq_true, Bool.not_eq_true'] at hq
  exact hq.2.1.1

/-- A line sent as blanking touches the panel alone (R17). -/
theorem State.blankIfInput_eq (s : State) : ∃ p, s.blankIfInput = { s with panel := p } := by
  unfold State.blankIfInput
  split
  · exact ⟨_, rfl⟩
  · exact ⟨s.panel, rfl⟩

/-! ### Beside the start-up load -/

/-- What the loader's work leaves as it was: the receiver, the scene controller, the waiting uploads, the status unit
and the store's state (R174). -/
structure State.LoadsTo (s t : State) : Prop where
  inFrame : t.raster.inFrame = s.raster.inFrame
  scene : t.scene = s.scene
  uploads : t.library.uploads = s.library.uploads
  status : t.status = s.status
  state : t.store.state = s.store.state

theorem loadAct_loadsTo {s t : State} (h : s.LoadsTo t) (a : ImageAct) : s.LoadsTo (loadAct a t) := by
  obtain ⟨hin, hscene, hup, hstatus, hstate⟩ := h
  cases a with
  | config f => exact ⟨hin, hscene, hup, hstatus, hstate⟩
  | entry table i bs =>
    simp only [loadAct]
    split <;> exact ⟨hin, hscene, hup, hstatus, hstate⟩
  | sector t n bs => exact ⟨hin, hscene, hup, hstatus, hstate⟩

theorem State.applyImage_loadsTo (n : Nat) (s : State) : s.LoadsTo (s.applyImage loadAct n) :=
  s.applyImage_keeps (P := s.LoadsTo) n (fun a _ _ hu => loadAct_loadsTo hu a)
    (fun _ _ ⟨hin, hscene, hup, hstatus, hstate⟩ => ⟨hin, hscene, hup, hstatus, hstate⟩) ⟨rfl, rfl, rfl, rfl, rfl⟩

/-- With nothing due while the load runs, only the loader's own work stands before a line of the raster. -/
theorem State.rasterPrelude_loadsTo {s : State} (hdue : s.nothingDue = true) (hload : s.loading = true) :
    s.LoadsTo s.rasterPrelude := by
  have hbut : s.nothingButHoldDue = true := by
    unfold State.nothingDue at hdue
    exact (Bool.and_eq_true _ _ ▸ hdue : _ ∧ _).1
  rw [s.rasterPrelude_of_nothingButHoldDue hbut, State.background, if_pos hload]
  obtain ⟨hin, hscene, hup, hstatus, hstate⟩ := s.applyImage_loadsTo (Config.loaderPace s.tick)
  exact ⟨hin, hscene, hup, hstatus, hstate⟩

/-- A control line while the load runs is counted, and refused where it is misplaced; nothing reaches a queue. -/
theorem execControlLine_of_loading {s : State} {f : InFrame} (hdue : s.nothingDue = true)
    (hload : s.loading = true) (hin : s.raster.inFrame = some f) (cols : List Rgb) :
    ∃ t, execControlLine cols s = .next t ∧
      t.raster.inFrame = some { f with controls := f.controls + 1 } ∧
      t.scene = s.scene ∧ t.library.uploads = s.library.uploads ∧ t.status.readQ = s.status.readQ ∧
      (f.activeSeen = true ∨ 8 ≤ f.controls → t.flagged .packetBad = true) ∧
      (f.activeSeen = false → f.controls < 8 → t.status = s.status) := by
  obtain ⟨hin', hscene, hup, hstatus, hstate⟩ := State.rasterPrelude_loadsTo hdue hload
  unfold execControlLine
  generalize s.rasterPrelude = u at hin' hscene hup hstatus hstate ⊢
  have hload' : u.loading = true := by
    rw [State.loading, hstate]
    exact hload
  have hreadQ : u.status.readQ = s.status.readQ := by rw [hstatus]
  simp only [hin', hin]
  obtain ⟨p, hblank⟩ := (u.receiveControl f cols).blankIfInput_eq
  refine ⟨_, rfl, ?_⟩
  rw [hblank]
  by_cases hbad : f.activeSeen = true ∨ 8 ≤ f.controls
  · rw [State.receiveControl_of_misplaced hbad]
    refine ⟨rfl, hscene, hup, hreadQ, fun _ => State.flagged_raise .packetBad _, ?_⟩
    intro hactive hcount
    rcases hbad with h | h
    · rw [hactive] at h
      cases h
    · omega
  · have hactive : f.activeSeen = false := by simpa using fun h => hbad (.inl h)
    have hcount : f.controls < 8 := by
      by_contra h
      exact hbad (.inr (by omega))
    rw [State.receiveControl_of_loading hactive hcount hload']
    exact ⟨rfl, hscene, hup, hreadQ, fun h => absurd h hbad, fun _ _ => hstatus⟩

/-! ### Lines sent as blanking -/

/-- A blanking line of the input goes to the panel while the output follows the input (R17). -/
theorem execBlankingLine_of_frame {s : State} {f : InFrame} (hpre : s.rasterPrelude = s)
    (hin : s.raster.inFrame = some f) : execBlankingLine s = .next s.blankIfInput := by
  unfold execBlankingLine
  simp only [hpre, hin]

/-- A blanking line period of a fallback frame: sent for the first 45, and otherwise nothing (R12; log 3). -/
theorem execFallbackBlankingLinePeriod_of_rasterQuiet {s : State} (hpre : s.rasterPrelude = s) :
    (s.followsInput = false → s.raster.linePeriods < 45 →
      execFallbackBlankingLinePeriod s =
        .next
          { s with
            panel := ⟨.blanking, false⟩
            raster := { s.raster with linePeriods := s.raster.linePeriods + 1 } }) ∧
    (s.followsInput = true ∨ 45 ≤ s.raster.linePeriods → execFallbackBlankingLinePeriod s = .next s) := by
  unfold execFallbackBlankingLinePeriod
  simp only [hpre]
  refine ⟨fun hfollows hperiod => ?_, fun h => ?_⟩
  · rw [if_neg (by simp [hfollows, hperiod])]
    rfl
  · rw [if_pos (by simpa using h)]

/-- Settles O23: which control lines are passed, which are ignored, and which lines are sent as blanking. -/
theorem controlAndBlankingLinesAreReceived : Obligations.ControlAndBlankingLinesAreReceived := by
  refine ⟨⟨fun w cols => ⟨columnBytes_eq_flatMap _, lineStream_length_le w cols⟩, ?_, ?_⟩, ?_⟩
  · intro s f cols hq hin s1
    have hexec := execControlLine_of_frame (s.rasterPrelude_of_rasterQuiet hq) hin cols
    refine ⟨fun hactive hcount => hexec.trans ?_, fun hbad => hexec.trans ?_⟩
    · rw [State.receiveControl_of_passed hactive hcount (State.loading_of_rasterQuiet hq)]
      rfl
    · rw [State.receiveControl_of_misplaced hbad]
      rfl
  · intro s f cols hdue hload hin
    exact execControlLine_of_loading hdue hload hin cols
  · intro s hq
    have hpre := s.rasterPrelude_of_rasterQuiet hq
    obtain ⟨hsent, hnone⟩ := execFallbackBlankingLinePeriod_of_rasterQuiet hpre
    refine ⟨fun hin => ⟨execControlLine_of_no_frame hq hin, execBlankingLine_of_no_frame hq hin⟩,
      fun f hin => ⟨fun hfollows => ?_, fun hfollows => ?_⟩, hsent, fun _ h => hnone (.inr h),
      fun h => hnone (.inl h)⟩
    · refine (execBlankingLine_of_frame hpre hin).trans (congrArg _ ?_)
      rw [State.blankIfInput, if_pos hfollows]
      rfl
    · refine (execBlankingLine_of_frame hpre hin).trans (congrArg _ ?_)
      rw [State.blankIfInput, hfollows]
      rfl

end Sys2Proof.Machine

/-! SUPPORT. The composed line: the mixer's pixels, the filter's sample, and the commands that start a line. -/

namespace Sys2Proof.Machine

/-! ### The mixer's line -/

theorem mixLine_length (px : List (Nat × Pixel)) (width x : Nat) (background : List Rgb) :
    (mixLine px width x background).length = background.length := by
  induction background generalizing x with
  | nil => rfl
  | cons u us ih => simp [mixLine, ih]

/-- Column by column, a canvas column is blended over its own and any other passes through (R75, R78). -/
theorem mixLine_getElem? (px : List (Nat × Pixel)) (width x i : Nat) (background : List Rgb) :
    (mixLine px width x background)[i]? =
      (background[i]?).map fun u =>
        if x + i < width then blendSlots (pixelAt px (x + i)).slots u else u := by
  induction background generalizing x i with
  | nil => rfl
  | cons u us ih =>
    cases i with
    | zero => rfl
    | succ i =>
      simp only [mixLine, List.getElem?_cons_succ, ih]
      rw [show x + 1 + i = x + (i + 1) by omega]

section Mixed
variable (y : Nat) (background : List Rgb) (s : State)

theorem State.mixed_length : (s.mixed y background).length = background.length := by
  unfold State.mixed
  split
  · exact mixLine_length ..
  · rfl

/-- Columns and lines outside the canvas pass through (R61, R78). -/
theorem State.mixed_outside (x : Nat) (h : s.raster.record.height ≤ y ∨ s.raster.record.width ≤ x) :
    (s.mixed y background)[x]? = background[x]? := by
  unfold State.mixed
  split
  · have hx : ¬(0 + x < s.raster.record.width) := by omega
    simp only [mixLine_getElem?, if_neg hx, Option.map_id']
  · rfl

/-- A canvas column is its slots in the ring blended over its own column (R61, R75). -/
theorem State.mixed_canvas (x : Nat) (hy : y < s.raster.record.height) (hx : x < s.raster.record.width) :
    (s.mixed y background)[x]? =
      (background[x]?).map (blendSlots (pixelAt (ringPixels s.builder.ring y) x).slots) := by
  unfold State.mixed
  rw [if_pos hy, mixLine_getElem?]
  simp only [Nat.zero_add, if_pos hx]

end Mixed

/-! ### The line filter's sample -/

/-- Two states in which a member's sample of GRP_FLIP has the same outcome: the same scene and group come of it, and
the same flags are set (R146, R147). -/
def State.SamplesAlike (s t s' t' : State) : Prop :=
  t'.scene = s'.scene ∧ t'.group = s'.group ∧
    ∃ v, s'.status.flags = s.status.flags ||| v ∧ t'.status.flags = t.status.flags ||| v

/-- A recognized pulse reads and writes scene and group alone, and sets flags (R147). -/
theorem State.pulseRecognized_samplesAlike {s t : State} (hscene : t.scene = s.scene) (hgroup : t.group = s.group) :
    State.SamplesAlike s t s.pulseRecognized t.pulseRecognized := by
  have hstays : State.SamplesAlike s t s t := ⟨hscene, hgroup, 0, by simp, by simp⟩
  have hmissed : State.SamplesAlike s t (s.raise .missedFlip) (t.raise .missedFlip) :=
    ⟨hscene, hgroup, Flag.missedFlip.mask, rfl, rfl⟩
  unfold State.pulseRecognized
  rw [hscene]
  cases s.scene.phase with
  | armedGroup =>
    refine ⟨?_, ?_, 0, by simp [State.commit], by simp [State.commit]⟩
    · simp [State.commit, hscene]
    · simp [State.commit, hgroup]
  | seeding | editing | draining => exact hmissed
  | settled | armedLocal | committed | saving | recalling => exact hstays

/-- A sample reads and writes scene and group alone, and sets flags (R146). -/
theorem State.sampleFlip_samplesAlike {s t : State} (hscene : t.scene = s.scene) (hgroup : t.group = s.group) :
    State.SamplesAlike s t s.sampleFlip t.sampleFlip := by
  have hlevel : t.flipHigh = s.flipHigh := by
    unfold State.flipHigh State.releasesFlip State.pulsing
    rw [hgroup]
  have hfilter : ∀ g, State.SamplesAlike s t { s with group := g } { t with group := g } :=
    fun g => ⟨hscene, rfl, 0, by simp, by simp⟩
  unfold State.sampleFlip
  rw [hgroup, hlevel]
  simp only
  split
  · split
    · exact hfilter _
    · split
      · exact hfilter _
      · split
        · exact State.pulseRecognized_samplesAlike hscene rfl
        · exact hfilter _
  · exact ⟨hscene, hgroup, 0, by simp, by simp⟩

/-- A sample sets flags in the status unit and touches nothing else of it (R147). -/
theorem State.sampleFlip_status (s : State) :
    s.sampleFlip.status = { s.status with flags := s.sampleFlip.status.flags } := by
  have hpulse : ∀ u : State, u.pulseRecognized.status = { u.status with flags := u.pulseRecognized.status.flags } := by
    intro u
    unfold State.pulseRecognized
    cases u.scene.phase <;> rfl
  unfold State.sampleFlip
  simp only
  split
  · split
    · rfl
    · split
      · rfl
      · split
        · exact hpulse _
        · rfl
  · rfl

theorem State.sampleFlip_tables (s : State) : s.sampleFlip.tables = s.tables := by
  have hpulse : ∀ u : State, u.pulseRecognized.tables = u.tables := by
    intro u
    unfold State.pulseRecognized
    cases u.scene.phase <;> rfl
  unfold State.sampleFlip
  simp only
  split
  · split
    · rfl
    · split
      · rfl
      · split
        · exact hpulse _
        · rfl
  · rfl

/-! ### An output line start -/

theorem State.flagged_of_or {s t : State} {v : BitVec 19} (h : t.status.flags = s.status.flags ||| v) {g : Flag}
    (hg : s.flagged g = true) : t.flagged g = true := by
  unfold State.flagged at hg ⊢
  rw [h, BitVec.getLsbD_or, hg, Bool.true_or]

/-- What an output line start makes of a state is what `State.lineStarted` says, clause by clause. -/
theorem State.outputLineStart_lineStarted (background : List Rgb) (s : State) :
    s.lineStarted background (s.outputLineStart background) := by
  obtain ⟨b, c, v, hcompose, hflag⟩ := s.composeLine_cases background
  have hrecord : (s.deadline s.raster.nextLine).raster.record = s.raster.record := by
    rw [(s.deadline_buildsTo s.raster.nextLine).raster]
  have hbuilt : s.composeLine background =
      (((s.deadline s.raster.nextLine).mix s.raster.nextLine background).freeLineBefore s.raster.nextLine).build := rfl
  have hstart : s.outputLineStart background = State.sampleFlip
      { s.composeLine background with
        raster := { s.raster with nextLine := s.raster.nextLine + 1 }
        library := { s.library with window := s.library.window.map fun w => { w with lines := w.lines + 1 } }
        group := { s.group with pulse := s.group.pulse.map (· - 1) } } := by
    rw [State.outputLineStart_eq, State.clockLine_eq]
    simp
  generalize hu : ({ s.composeLine background with raster := _, library := _, group := _ } : State) = u at hstart
  have hcontrols := u.sampleFlip_controlsTo
  have hpx := (s.deadline s.raster.nextLine).mixed_length s.raster.nextLine background
  obtain ⟨hscene, hgroup, w, hflags, hflags'⟩ := State.sampleFlip_samplesAlike
    (s := { s with group := { s.group with pulse := s.group.pulse.map (· - 1) } }) (t := u)
    (by rw [← hu]; simp) (by rw [← hu])
  have hbuiltFlags : ∀ g, (s.composeLine background).flagged g = true → u.sampleFlip.flagged g = true := by
    intro g hg
    refine State.flagged_of_or hflags' ?_
    rw [← hu]
    exact hg
  rw [hstart]
  refine ⟨⟨(s.deadline s.raster.nextLine).mixed s.raster.nextLine background, ?_, hpx, ?_, ?_, ?_⟩,
    ⟨?_, ?_, ?_, ?_, ?_⟩, ?_, ?_, hgroup, hscene, ?_, ?_, ?_⟩
  · rw [hcontrols.panel, ← hu, hcompose]
  · intro x hx
    exact State.mixed_outside _ _ _ x (by rwa [hrecord])
  · intro x hy hx
    exact State.mixed_canvas _ _ _ x (by rwa [hrecord]) (by rwa [hrecord])
  · rw [hcontrols.watchRun, ← hu, hcompose]
  · rw [hcontrols.builder, ← hu, hbuilt]
  · rw [hcontrols.cache, ← hu, hbuilt]
  · rw [u.sampleFlip_status, ← hu, hbuilt]
  · rw [← hbuilt]
    exact hbuiltFlags
  · intro hmissed
    unfold State.flagged at hmissed ⊢
    rw [hflags, BitVec.getLsbD_or, Bool.or_eq_true] at hmissed
    rcases hmissed with hbefore | hset
    · exact hbuiltFlags _ (hflag _ hbefore)
    · rw [hflags', BitVec.getLsbD_or, hset, Bool.or_true]
  · rw [hcontrols.raster, ← hu]
  · rw [hcontrols.library, ← hu]
  · rw [u.sampleFlip_tables, ← hu]
    simp
  · rw [hcontrols.store, ← hu]
    simp
  · rw [hcontrols.straps, ← hu]
    simp

/-! ### The two commands that bring one -/

/-- An active line is measured where it belongs to an input frame, and is an output line start in lock (R3, R11). -/
theorem execActiveLine_of_rasterQuiet {s : State} (hq : s.rasterQuiet = true) (cols : List Rgb) (flip : Bool) :
    (s.raster.inFrame = none → execActiveLine cols flip s = .next (s.seeFlip flip)) ∧
    ∀ f, s.raster.inFrame = some f →
      (s.followsInput = false →
        execActiveLine cols flip s = .next ((s.seeFlip flip).measureLine f cols.length)) ∧
      (s.followsInput = true →
        execActiveLine cols flip s =
          .next (((s.seeFlip flip).measureLine f cols.length).outputLineStart cols)) := by
  have hfollows : ∀ f, ((s.seeFlip flip).measureLine f cols.length).followsInput = s.followsInput := fun _ => rfl
  unfold execActiveLine
  simp only [s.rasterPrelude_of_rasterQuiet hq, State.seeFlip_raster]
  refine ⟨fun hin => by rw [hin], fun f hin => ⟨fun h => ?_, fun h => ?_⟩⟩
  · rw [hin]
    simp only [hfollows, h, Bool.false_eq_true, if_false]
  · rw [hin]
    simp only [hfollows, h, if_true]

/-- A fallback line at its own line period is an output line start over the record's colour; at another moment only
the level on GRP_FLIP is seen (R12; log 3). -/
theorem execFallbackLineStart_of_rasterQuiet {s : State} (hq : s.rasterQuiet = true) (flip : Bool) :
    (s.followsInput = true ∨ s.raster.linePeriods ≠ 45 + s.raster.nextLine ∨
        s.raster.record.height ≤ s.raster.nextLine →
      execFallbackLineStart flip s = .next (s.seeFlip flip)) ∧
    (s.followsInput = false → s.raster.linePeriods = 45 + s.raster.nextLine →
      s.raster.nextLine < s.raster.record.height →
      execFallbackLineStart flip s =
        .next
          (State.outputLineStart (List.replicate s.raster.record.width s.raster.record.colour)
            { s.seeFlip flip with raster := { s.raster with linePeriods := s.raster.linePeriods + 1 } })) := by
  have hfollows : (s.seeFlip flip).followsInput = s.followsInput := rfl
  unfold execFallbackLineStart
  simp only [s.rasterPrelude_of_rasterQuiet hq, hfollows, State.seeFlip_raster, Raster.lineDue]
  refine ⟨fun h => if_pos ?_, fun hlock hperiod hline => if_neg ?_⟩
  · rw [Bool.or_eq_true, Bool.not_eq_true', Bool.and_eq_false_iff, beq_eq_false_iff_ne,
      decide_eq_false_iff_not, not_lt]
    exact h
  · simp [hlock, hperiod, hline]

/-- The ring entry of the line before is freed, and no other (R60). -/
theorem State.freeLineBefore_eq (y : Nat) (s : State) :
    s.freeLineBefore y =
      { s with
        builder := { s.builder with ring := s.builder.ring.filter fun e => decide (e.line + 1 ≠ y) } } := by
  have hne : (fun e : RingEntry => e.line + 1 != y) = fun e => decide (e.line + 1 ≠ y) := by
    funext e
    by_cases h : e.line + 1 = y <;> simp [h]
  rw [State.freeLineBefore, hne]

/-- Settles O24: both commands end in an output line start, which `outputLineStart_lineStarted` describes. -/
theorem outputLinesAreComposedOverTheirBackground : Obligations.OutputLinesAreComposedOverTheirBackground := by
  refine ⟨fun s cols flip hq => ?_, fun s flip hq => ?_, fun s y => s.freeLineBefore_eq y⟩
  · obtain ⟨hnone, hsome⟩ := execActiveLine_of_rasterQuiet hq cols flip
    refine ⟨hnone, ?_⟩
    intro f hin measured
    obtain ⟨hout, hlock⟩ := hsome f hin
    exact ⟨hout, fun h => ⟨_, hlock h, measured.outputLineStart_lineStarted cols⟩⟩
  · obtain ⟨hnone, hsome⟩ := execFallbackLineStart_of_rasterQuiet hq flip
    refine ⟨hnone, ?_⟩
    intro hout hperiod hline begun
    exact ⟨_, hsome hout hperiod hline, begun.outputLineStart_lineStarted _⟩

end Sys2Proof.Machine

/-! SUPPORT. The writers of the scene table memory (R22), and the laws of a bank that each of their writes keeps. -/

namespace Sys2Proof.Machine

/-! ### One write of the scene table memory -/

/-- One write that leaves the selector where it is: a bank cleared (R42), one entry of a bank written with masked
fields (R123, R174), the seed copy (R122), the state of an item in both banks (R32). -/
inductive Tables.Write (t : Tables) : Tables → Prop where
  | clear (i : BankId) : t.Write (t.setBank i .cleared)
  | entry {i : BankId} {table mask n : Nat} {bs : List Byte} {k : Bank} (hn : n < tableSize table)
      (h : (t.bank i).writeEntry table mask n bs = some k) : t.Write (t.setBank i k)
  | seed : t.Write (t.setBank t.active.other (t.bank t.active))
  | itemState (item : Nat) (st : ItemState) :
      t.Write { t with a := t.a.setItemState item st, b := t.b.setItemState item st }

/-- Any number of such writes. -/
abbrev Tables.Writes : Tables → Tables → Prop := Relation.ReflTransGen Tables.Write

@[simp] theorem Tables.setBank_active (t : Tables) (i : BankId) (k : Bank) : (t.setBank i k).active = t.active := by
  cases i <;> rfl

@[simp] theorem Tables.bank_setBank (t : Tables) (i : BankId) (k : Bank) : (t.setBank i k).bank i = k := by
  cases i <;> rfl

@[simp] theorem Tables.setBank_bank (t : Tables) (i : BankId) : t.setBank i (t.bank i) = t := by
  cases i <;> rfl

@[simp] theorem Tables.setBank_setBank (t : Tables) (i : BankId) (k k' : Bank) :
    (t.setBank i k).setBank i k' = t.setBank i k' := by
  cases i <;> rfl

/-- No write moves the bank selector (R21). -/
theorem Tables.Write.active {t u : Tables} (h : t.Write u) : u.active = t.active := by
  cases h with
  | clear i => exact t.setBank_active i _
  | entry _ _ => exact t.setBank_active _ _
  | seed => exact t.setBank_active _ _
  | itemState item st => rfl

theorem Tables.Writes.active {t u : Tables} (h : t.Writes u) : u.active = t.active := by
  induction h with
  | refl => rfl
  | tail _ hlast ih => exact hlast.active.trans ih

/-! ### A law of a bank that every write keeps -/

/-- A law of one bank that a clear establishes, and that the write of an entry of its tables, and of an item's state,
keeps. -/
structure Bank.KeptByWrites (P : Bank → Prop) : Prop where
  cleared : P .cleared
  entry : ∀ {table mask n : Nat} {bs : List Byte} {k k' : Bank}, n < tableSize table → P k →
    k.writeEntry table mask n bs = some k' → P k'
  itemState : ∀ {k : Bank} (item : Nat) (st : ItemState), P k → P (k.setItemState item st)

/-- A law held by both banks. -/
def Tables.BothBanks (P : Bank → Prop) (t : Tables) : Prop := P t.a ∧ P t.b

theorem Tables.BothBanks.bank {P : Bank → Prop} {t : Tables} (h : t.BothBanks P) (i : BankId) : P (t.bank i) := by
  cases i
  · exact h.1
  · exact h.2

theorem Tables.BothBanks.setBank {P : Bank → Prop} {t : Tables} (h : t.BothBanks P) (i : BankId) {k : Bank}
    (hk : P k) : (t.setBank i k).BothBanks P := by
  cases i
  · exact ⟨hk, h.2⟩
  · exact ⟨h.1, hk⟩

/-- What every write of a bank keeps, the writes of the table memory keep in both banks. -/
theorem Tables.Writes.bothBanks {P : Bank → Prop} (hP : Bank.KeptByWrites P) {t u : Tables} (h : t.Writes u)
    (ht : t.BothBanks P) : u.BothBanks P := by
  induction h with
  | refl => exact ht
  | tail _ hlast ih =>
    cases hlast with
    | clear i => exact ih.setBank i hP.cleared
    | entry hn hk => exact ih.setBank _ (hP.entry hn (ih.bank _) hk)
    | seed => exact ih.setBank _ (ih.bank _)
    | itemState item st => exact ⟨hP.itemState item st ih.1, hP.itemState item st ih.2⟩

/-! ### Masked fields -/

/-- What the write of each field keeps, a masked write keeps. -/
theorem writeMasked_keeps {α : Type} {P : α → Prop} {f : Nat → List Byte → α → Option α}
    (hf : ∀ bit bs e e', P e → f bit bs e = some e' → P e') (mask : Nat) (sizes : List Nat) {bit : Nat}
    {bs : List Byte} {e e' : α} (he : P e) (h : writeMasked f mask sizes bit bs e = some e') : P e' := by
  induction sizes generalizing bit bs e with
  | nil => exact Option.some.inj h ▸ he
  | cons n ns ih =>
    rw [writeMasked] at h
    split at h
    · split at h
      · cases h
      · rename_i e1 hfield
        exact ih (hf _ _ _ _ he hfield) h
    · exact ih he h

/-- A value that `inRange` lets through lies in the range. -/
theorem inRange_eq_some {lo hi v n : Nat} (h : inRange lo hi v = some n) : lo ≤ n ∧ n ≤ hi := by
  unfold inRange at h
  split at h
  · cases h
    assumption
  · cases h

/-- The write of one field keeps a region in its ranges (R24, R163). -/
theorem regionField_lawful (bit : Nat) (bs : List Byte) (r r' : Region) (hr : r.lawful)
    (h : regionField bit bs r = some r') : r'.lawful := by
  obtain ⟨hx, hy, hw, hw', hh, hh', hlevel, hitem, hstyle, hphoto⟩ := hr
  unfold regionField at h
  simp only at h
  split at h
  case h_8 =>
    split at h
    · cases h
      exact ⟨hx, hy, hw, hw', hh, hh', hlevel, by rintro i ⟨⟩, hstyle, hphoto⟩
    · obtain ⟨n, hn, rfl⟩ := Option.map_eq_some_iff.1 h
      obtain ⟨-, hn⟩ := inRange_eq_some hn
      exact ⟨hx, hy, hw, hw', hh, hh', hlevel, by rintro i ⟨⟩; exact hn, hstyle, hphoto⟩
  case h_7 =>
    cases h
    exact ⟨hx, hy, hw, hw', hh, hh', hlevel, hitem, hstyle, hphoto⟩
  case h_14 => cases h
  all_goals
    obtain ⟨n, hn, rfl⟩ := Option.map_eq_some_iff.1 h
  case h_2 => exact ⟨(inRange_eq_some hn).2, hy, hw, hw', hh, hh', hlevel, hitem, hstyle, hphoto⟩
  case h_3 => exact ⟨hx, (inRange_eq_some hn).2, hw, hw', hh, hh', hlevel, hitem, hstyle, hphoto⟩
  case h_4 =>
    exact ⟨hx, hy, (inRange_eq_some hn).1, (inRange_eq_some hn).2, hh, hh', hlevel, hitem, hstyle, hphoto⟩
  case h_5 =>
    exact ⟨hx, hy, hw, hw', (inRange_eq_some hn).1, (inRange_eq_some hn).2, hlevel, hitem, hstyle, hphoto⟩
  case h_6 => exact ⟨hx, hy, hw, hw', hh, hh', (inRange_eq_some hn).2, hitem, hstyle, hphoto⟩
  case h_10 => exact ⟨hx, hy, hw, hw', hh, hh', hlevel, hitem, (inRange_eq_some hn).2, hphoto⟩
  case h_11 => exact ⟨hx, hy, hw, hw', hh, hh', hlevel, hitem, hstyle, (inRange_eq_some hn).2⟩
  all_goals exact ⟨hx, hy, hw, hw', hh, hh', hlevel, hitem, hstyle, hphoto⟩

/-- A price list that is let through holds at most four values, each of a price's range (R31). -/
theorem priceList_eq_some {bs : List Byte} {ps : List Nat} (h : priceList bs = some ps) :
    ps.length ≤ 4 ∧ ∀ p ∈ ps, p ≤ 999999 := by
  unfold priceList at h
  simp only at h
  split at h
  · rename_i hok
    obtain ⟨hlen, hall⟩ := hok
    cases h
    exact ⟨by simpa using hlen, fun p hp => of_decide_eq_true (List.all_eq_true.1 hall p hp)⟩
  · cases h

/-- The write of one field keeps an item in its ranges (R31, R163). -/
theorem itemField_lawful (bit : Nat) (bs : List Byte) (it it' : Item) (hit : it.lawful)
    (h : itemField bit bs it = some it') : it'.lawful := by
  obtain ⟨hlen, hprice, henergy⟩ := hit
  unfold itemField at h
  simp only at h
  split at h
  · obtain ⟨n, -, rfl⟩ := Option.map_eq_some_iff.1 h
    exact ⟨hlen, hprice, henergy⟩
  · obtain ⟨ps, hps, rfl⟩ := Option.map_eq_some_iff.1 h
    obtain ⟨hlen', hprice'⟩ := priceList_eq_some hps
    exact ⟨hlen', hprice', henergy⟩
  · split at h
    · cases h
      exact ⟨hlen, hprice, by rintro e ⟨⟩⟩
    · obtain ⟨n, hn, rfl⟩ := Option.map_eq_some_iff.1 h
      exact ⟨hlen, hprice, by rintro e ⟨⟩; exact (inRange_eq_some hn).2⟩
  · cases h

/-- The write of one field keeps a style in its ranges (R34, R163). -/
theorem styleField_lawful (bit : Nat) (bs : List Byte) (st st' : Style) (hst : st.lawful)
    (h : styleField bit bs st = some st') : st'.lawful := by
  obtain ⟨hglyph, hw, hw', hh, hh', hminor⟩ := hst
  unfold styleField at h
  simp only at h
  split at h
  case h_9 =>
    split at h
    · rename_i hv
      cases h
      exact ⟨hglyph, hw, hw', hh, hh', hv⟩
    · cases h
  case h_5 =>
    obtain ⟨n, hn, rfl⟩ := Option.map_eq_some_iff.1 h
    exact ⟨(inRange_eq_some hn).2, hw, hw', hh, hh', hminor⟩
  case h_6 =>
    obtain ⟨n, hn, rfl⟩ := Option.map_eq_some_iff.1 h
    exact ⟨hglyph, (inRange_eq_some hn).1, (inRange_eq_some hn).2, hh, hh', hminor⟩
  case h_7 =>
    obtain ⟨n, hn, rfl⟩ := Option.map_eq_some_iff.1 h
    exact ⟨hglyph, hw, hw', (inRange_eq_some hn).1, (inRange_eq_some hn).2, hminor⟩
  case h_8 | h_10 | h_11 =>
    obtain ⟨n, -, rfl⟩ := Option.map_eq_some_iff.1 h
    exact ⟨hglyph, hw, hw', hh, hh', hminor⟩
  all_goals
    cases h
  all_goals exact ⟨hglyph, hw, hw', hh, hh', hminor⟩

/-- The ranges of a directory entry's fields, each on its own (R37). -/
def Photo.inRanges (p : Photo) : Prop :=
  p.area ≤ 31 ∧ p.offset ≤ 1023 ∧ 1 ≤ p.width ∧ p.width ≤ 64 ∧ 1 ≤ p.height ∧ p.height ≤ 64

theorem Photo.lawful_iff (p : Photo) : p.lawful ↔ p.inRanges ∧ p.extentOk = true := by
  simp only [Photo.lawful, Photo.inRanges, Photo.extentOk, decide_eq_true_eq, and_assoc]

/-- The write of one field keeps a directory entry's ranges (R37, R163). -/
theorem photoField_inRanges (bit : Nat) (bs : List Byte) (p p' : Photo) (hp : p.inRanges)
    (h : photoField bit bs p = some p') : p'.inRanges := by
  obtain ⟨harea, hoffset, hw, hw', hh, hh'⟩ := hp
  unfold photoField at h
  simp only at h
  split at h
  case h_6 => cases h
  all_goals obtain ⟨n, hn, rfl⟩ := Option.map_eq_some_iff.1 h
  case h_1 => exact ⟨harea, hoffset, hw, hw', hh, hh'⟩
  case h_2 => exact ⟨(inRange_eq_some hn).2, hoffset, hw, hw', hh, hh'⟩
  case h_3 => exact ⟨harea, (inRange_eq_some hn).2, hw, hw', hh, hh'⟩
  case h_4 => exact ⟨harea, hoffset, (inRange_eq_some hn).1, (inRange_eq_some hn).2, hh, hh'⟩
  case h_5 => exact ⟨harea, hoffset, hw, hw', (inRange_eq_some hn).1, (inRange_eq_some hn).2⟩

/-- The write of one field keeps the area of a directory entry below 32 (R37). -/
theorem photoField_area (bit : Nat) (bs : List Byte) (p p' : Photo) (hp : p.area < 32)
    (h : photoField bit bs p = some p') : p'.area < 32 := by
  unfold photoField at h
  simp only at h
  split at h
  case h_6 => cases h
  all_goals obtain ⟨n, hn, rfl⟩ := Option.map_eq_some_iff.1 h
  case h_2 => exact Nat.lt_succ_of_le (inRange_eq_some hn).2
  all_goals exact hp

/-- What `photoWritten` lets through is a masked write that meets the extent condition (R37, R123). -/
theorem photoWritten_eq_some {mask : Nat} {bs : List Byte} {p p' : Photo} (h : photoWritten mask bs p = some p') :
    writeMasked photoField mask (fieldSizes 4) 0 bs p = some p' ∧ p'.extentOk = true := by
  unfold photoWritten at h
  split at h
  · cases h
  · rename_i q hq
    split at h
    · rename_i hext
      cases h
      exact ⟨hq, hext⟩
    · cases h

/-- An accepted write of an entry, table by table (R123). -/
theorem Bank.writeEntry_cases {table mask n : Nat} {bs : List Byte} {k k' : Bank}
    (h : k.writeEntry table mask n bs = some k') :
    (∃ r, writeMasked regionField mask (fieldSizes 1) 0 bs (k.region n) = some r ∧ k' = k.setRegion n r) ∨
    (∃ it, writeMasked itemField mask (fieldSizes 2) 0 bs (k.item n) = some it ∧ k' = k.setItem n it) ∨
    (∃ st, writeMasked styleField mask (fieldSizes 3) 0 bs (k.style n) = some st ∧ k' = k.setStyle n st) ∨
    ∃ p, table = 4 ∧ photoWritten mask bs (k.photo n) = some p ∧ k' = k.setPhoto n p := by
  unfold Bank.writeEntry at h
  split at h
  case h_5 => cases h
  all_goals
    obtain ⟨e, he, rfl⟩ := Option.map_eq_some_iff.1 h
  · exact .inl ⟨e, he, rfl⟩
  · exact .inr (.inl ⟨e, he, rfl⟩)
  · exact .inr (.inr (.inl ⟨e, he, rfl⟩))
  · exact .inr (.inr (.inr ⟨e, rfl, he, rfl⟩))

/-! ### The ranges of a bank's tables -/

/-- An entry read from a table, or the default where the index names none, has what every entry and the default
have. -/
theorem getD_of_forall_mem {α : Type} {P : α → Prop} {l : List α} {d : α} (hl : ∀ x ∈ l, P x) (hd : P d) (n : Nat) :
    P (l.getD n d) := by
  rw [List.getD_eq_getElem?_getD]
  cases h : l[n]? with
  | none => exact hd
  | some x => exact hl x (List.mem_of_getElem? h)

/-- What every entry of a table has, and the entry written has, every entry has behind the write. -/
theorem forall_mem_set {α : Type} {P : α → Prop} {l : List α} {x : α} (hl : ∀ y ∈ l, P y) (hx : P x) (n : Nat) :
    ∀ y ∈ l.set n x, P y := by
  intro y hy
  rcases List.mem_or_eq_of_mem_set hy with h | rfl
  · exact hl y h
  · exact hx

/-- The clears of R42 are in range, table by table. -/
theorem cleared_entries_lawful :
    Region.cleared.lawful ∧ Item.cleared.lawful ∧ Style.cleared.lawful ∧ Photo.cleared.lawful := by
  obtain ⟨-, -, -, -, hr, hi, hs, hp⟩ := Bank.cleared_lawful
  exact ⟨hr _ (List.mem_replicate.2 ⟨by decide, rfl⟩), hi _ (List.mem_replicate.2 ⟨by decide, rfl⟩),
    hs _ (List.mem_replicate.2 ⟨by decide, rfl⟩), hp _ (List.mem_replicate.2 ⟨by decide, rfl⟩)⟩

/-- The write of an item keeps the bank in its ranges where the item is. -/
theorem Bank.setItem_lawful {k : Bank} (hk : k.lawful) (n : Nat) {it : Item} (hit : it.lawful) :
    (k.setItem n it).lawful := by
  obtain ⟨hlr, hli, hls, hlp, hr, hi, hs, hp⟩ := hk
  exact ⟨hlr, List.length_set.trans hli, hls, hlp, hr, forall_mem_set hi hit n, hs, hp⟩

/-- Every write keeps the sizes and ranges of a bank: a masked write checks the ranges of the fields it writes, and
a directory entry's extent (R20, R24, R31, R34, R37, R123). -/
theorem Bank.lawful_keptByWrites : Bank.KeptByWrites Bank.lawful where
  cleared := Bank.cleared_lawful
  entry := by
    intro table mask n bs k k' _ hk h
    obtain ⟨hr0, hi0, hs0, hp0⟩ := cleared_entries_lawful
    obtain ⟨hlr, hli, hls, hlp, hr, hi, hs, hp⟩ := id hk
    rcases Bank.writeEntry_cases h with ⟨r, hw, rfl⟩ | ⟨it, hw, rfl⟩ | ⟨st, hw, rfl⟩ | ⟨p, -, hw, rfl⟩
    · have hnew := writeMasked_keeps regionField_lawful mask _ (getD_of_forall_mem hr hr0 n) hw
      exact ⟨List.length_set.trans hlr, hli, hls, hlp, forall_mem_set hr hnew n, hi, hs, hp⟩
    · exact Bank.setItem_lawful hk n
        (writeMasked_keeps itemField_lawful mask _ (getD_of_forall_mem hi hi0 n) hw)
    · have hnew := writeMasked_keeps styleField_lawful mask _ (getD_of_forall_mem hs hs0 n) hw
      exact ⟨hlr, hli, List.length_set.trans hls, hlp, hr, hi, forall_mem_set hs hnew n, hp⟩
    · obtain ⟨hmasked, hext⟩ := photoWritten_eq_some hw
      have hold := ((k.photo n).lawful_iff.1 (getD_of_forall_mem hp hp0 n)).1
      have hnew := p.lawful_iff.2 ⟨writeMasked_keeps photoField_inRanges mask _ hold hmasked, hext⟩
      exact ⟨hlr, hli, hls, List.length_set.trans hlp, hr, hi, hs, forall_mem_set hp hnew n⟩
  itemState := by
    intro k item st hk
    obtain ⟨-, hi0, -, -⟩ := cleared_entries_lawful
    obtain ⟨-, -, -, -, -, hi, -, -⟩ := id hk
    obtain ⟨hlen, hprice, henergy⟩ : (k.item item).lawful := getD_of_forall_mem hi hi0 item
    exact Bank.setItem_lawful hk item ⟨hlen, hprice, henergy⟩

/-! ### The area reference counts -/

/-- What a directory entry adds to the count of an area (R40). -/
def Photo.counted (p : Photo) (area : Nat) : Bool := p.valid && p.area == area

/-- The first step of R40, area by area. -/
theorem countOut_getD (p : Photo) (counts : List Nat) (a : Nat) :
    (countOut p counts).getD a 0 = counts.getD a 0 - if p.counted a = true then 1 else 0 := by
  unfold countOut Photo.counted
  by_cases ha : p.area = a
  · subst ha
    cases p.valid
    · simp
    · by_cases hin : p.area < counts.length <;> simp [List.getD_eq_getElem?_getD, hin]
  · cases p.valid <;> simp [List.getD_eq_getElem?_getD, ha]

/-- The second step of R40, area by area. -/
theorem countIn_getD (p : Photo) (counts : List Nat) (a : Nat) (harea : p.area < counts.length) :
    (countIn p counts).getD a 0 = counts.getD a 0 + if p.counted a = true then 1 else 0 := by
  unfold countIn Photo.counted
  by_cases ha : p.area = a
  · subst ha
    cases p.valid <;> simp [List.getD_eq_getElem?_getD, harea]
  · cases p.valid <;> simp [List.getD_eq_getElem?_getD, ha]

theorem countOut_length (p : Photo) (counts : List Nat) : (countOut p counts).length = counts.length := by
  unfold countOut
  split <;> simp

theorem countIn_length (p : Photo) (counts : List Nat) : (countIn p counts).length = counts.length := by
  unfold countIn
  split <;> simp

/-- The two steps of R40 keep every count at the number of valid entries in its area. -/
theorem Bank.setPhoto_countLaw {k : Bank} (hk : k.countLaw) {n : Nat} (hn : n < 512) {p : Photo}
    (hp : p.area < 32) : (k.setPhoto n p).countLaw := by
  obtain ⟨hlp, hlc, hareas, hcounts⟩ := hk
  have hin : n < k.photos.length := hlp ▸ hn
  have hold : k.photo n = k.photos[n] := by
    rw [Bank.photo, List.getD_eq_getElem?_getD, List.getElem?_eq_getElem hin, Option.getD_some]
  refine ⟨List.length_set.trans hlp, ?_, forall_mem_set hareas hp n, fun a ha => ?_⟩
  · exact (countIn_length _ _).trans ((countOut_length _ _).trans hlc)
  · have hcount : k.counts.getD a 0 = k.photos.countP (Photo.counted · a) := hcounts a ha
    change (countIn p (countOut (k.photo n) k.counts)).getD a 0 =
      (k.photos.set n p).countP (Photo.counted · a)
    rw [countIn_getD _ _ _ (by rw [countOut_length, hlc]; exact hp), countOut_getD, hcount, hold,
      List.countP_set hin]

/-- Every write keeps the law of R40: of all the writes, that of a directory entry alone touches directory and
counts. -/
theorem Bank.countLaw_keptByWrites : Bank.KeptByWrites Bank.countLaw where
  cleared := Bank.cleared_countLaw
  entry := by
    intro table mask n bs k k' hn hk h
    rcases Bank.writeEntry_cases h with ⟨r, -, rfl⟩ | ⟨it, -, rfl⟩ | ⟨st, -, rfl⟩ | ⟨p, rfl, hw, rfl⟩
    · exact hk
    · exact hk
    · exact hk
    · obtain ⟨-, -, hareas, -⟩ := id hk
      obtain ⟨hmasked, -⟩ := photoWritten_eq_some hw
      have hold : (k.photo n).area < 32 := getD_of_forall_mem (P := fun q : Photo => q.area < 32) hareas (by decide) n
      exact Bank.setPhoto_countLaw hk hn
        (writeMasked_keeps (P := fun q : Photo => q.area < 32) photoField_area mask _ hold hmasked)
  itemState := fun _ _ hk => hk

end Sys2Proof.Machine

/-! SUPPORT. What each part of the machine leaves of the scene table memory and of the generation. -/

namespace Sys2Proof.Machine

/-! ### Tables and generation between two states -/

/-- Scene table memory and generation stand as they were. -/
structure State.KeepsTables (s t : State) : Prop where
  tables : t.tables = s.tables
  generation : t.scene.generation = s.scene.generation

/-- Scene table memory has been written, selector and generation stand as they were. -/
structure State.WritesTables (s t : State) : Prop where
  writes : s.tables.Writes t.tables
  generation : t.scene.generation = s.scene.generation

namespace State.KeepsTables

theorem refl (s : State) : s.KeepsTables s := ⟨rfl, rfl⟩

theorem trans {s t u : State} (h : s.KeepsTables t) (k : t.KeepsTables u) : s.KeepsTables u :=
  ⟨k.tables.trans h.tables, k.generation.trans h.generation⟩

theorem writesTables {s t : State} (h : s.KeepsTables t) : s.WritesTables t :=
  ⟨h.tables ▸ .refl, h.generation⟩

end State.KeepsTables

namespace State.WritesTables

theorem refl (s : State) : s.WritesTables s := ⟨.refl, rfl⟩

theorem trans {s t u : State} (h : s.WritesTables t) (k : t.WritesTables u) : s.WritesTables u :=
  ⟨h.writes.trans k.writes, k.generation.trans h.generation⟩

/-- One write of the tables, the scene controller as it was. -/
theorem of_write {s t : State} (h : s.tables.Write t.tables) (hscene : t.scene = s.scene) : s.WritesTables t :=
  ⟨.single h, by rw [hscene]⟩

end State.WritesTables

theorem State.BuildsTo.keepsTables {s t : State} (h : s.BuildsTo t) : s.KeepsTables t :=
  ⟨h.tables, by rw [h.scene]⟩

/-! ### The scene controller and the group sync unit -/

theorem State.holdPop_keepsTables (s : State) : s.KeepsTables s.holdPop := by
  unfold State.holdPop
  split <;> exact ⟨rfl, rfl⟩

theorem State.popIfDue_keepsTables (s : State) : s.KeepsTables s.popIfDue := by
  unfold State.popIfDue
  split
  · exact s.holdPop_keepsTables
  · exact .refl s

theorem State.settleScene_keepsTables (s : State) : s.KeepsTables s.settleScene := ⟨by simp, by simp⟩

theorem State.settleHold_keepsTables (s : State) : s.KeepsTables s.settleHold := by
  unfold State.settleHold
  split
  · exact s.holdPop_keepsTables.trans (State.settleScene_keepsTables _)
  · exact .refl s

theorem State.enterArmed_keepsTables (s : State) : s.KeepsTables s.enterArmed := by
  unfold State.enterArmed
  split <;> exact ⟨rfl, rfl⟩

theorem State.settleDrained_keepsTables (s : State) : s.KeepsTables s.settleDrained := by
  unfold State.settleDrained
  split
  · exact s.enterArmed_keepsTables
  · exact .refl s

theorem State.settleCredit_keepsTables (s : State) : s.KeepsTables s.settleCredit := by
  unfold State.settleCredit
  split <;> exact ⟨rfl, rfl⟩

theorem State.settlePulse_keepsTables (s : State) : s.KeepsTables s.settlePulse := by
  unfold State.settlePulse
  split <;> exact ⟨rfl, rfl⟩

theorem State.settleLeaderWindow_keepsTables (s : State) : s.KeepsTables s.settleLeaderWindow := by
  unfold State.settleLeaderWindow
  split
  · unfold State.leaderWindowEnds
    simp only
    split
    · split <;> exact ⟨rfl, rfl⟩
    · exact ⟨rfl, rfl⟩
  · exact .refl s

theorem State.settleMemberWindow_keepsTables (s : State) : s.KeepsTables s.settleMemberWindow := by
  unfold State.settleMemberWindow
  split <;> exact ⟨rfl, rfl⟩

theorem State.settleCounters_keepsTables (s : State) : s.KeepsTables s.settleCounters :=
  (s.settleDrained_keepsTables.trans (State.settleCredit_keepsTables _)).trans
    (((State.settlePulse_keepsTables _).trans (State.settleLeaderWindow_keepsTables _)).trans
      (State.settleMemberWindow_keepsTables _))

theorem State.sampleFlip_keepsTables (s : State) : s.KeepsTables s.sampleFlip := by
  have hpulse : ∀ u : State, u.pulseRecognized.scene.generation = u.scene.generation := by
    intro u
    unfold State.pulseRecognized
    cases u.scene.phase <;> rfl
  refine ⟨s.sampleFlip_tables, ?_⟩
  unfold State.sampleFlip
  simp only
  split
  · split
    · rfl
    · split
      · rfl
      · split
        · exact hpulse _
        · rfl
  · rfl

/-- An output line start leaves tables and generation as they were (R15). -/
theorem State.outputLineStart_keepsTables (background : List Rgb) (s : State) :
    s.KeepsTables (s.outputLineStart background) := by
  rw [State.outputLineStart_eq, State.clockLine_eq]
  exact State.KeepsTables.trans ⟨by simp, by simp⟩ (State.sampleFlip_keepsTables _)

/-! ### The receiver -/

theorem dispatch_keepsTables (k : Packet) (s : State) : s.KeepsTables (dispatch k s) := by
  rcases dispatch_cases k s with ⟨c, -, -, h⟩ | ⟨c, -, -, h⟩ | ⟨u, -, -, h⟩ | ⟨r, -, -, h⟩ | ⟨f, h⟩ <;>
    rw [h] <;> exact ⟨rfl, rfl⟩

/-- What a raised flag and a dispatched packet keep, the packet parser keeps (R153, R154). -/
theorem parseFrom_keeps {P : State → Prop} (hraise : ∀ f s, P s → P (s.raise f))
    (hdispatch : ∀ k s, P s → P (dispatch k s)) (n : Nat) (bs : List Byte) {s : State} (hs : P s) :
    P (parseFrom n bs s) := by
  have hcheck : ∀ type target p s, P s → P (checkPacket type target p s) := by
    intro type target p s hs
    rcases checkPacket_cases type target p s with h | h | ⟨k, -, h⟩ <;> rw [h]
    · exact hs
    · exact hraise _ s hs
    · exact hdispatch k s hs
  induction n generalizing bs s with
  | zero => exact hs
  | succ n ih =>
    cases bs with
    | nil => exact hs
    | cons b bs =>
      have hbad := hraise .packetBad s hs
      simp only [parseFrom]
      split
      · exact hs
      · split
        · exact hbad
        · split
          · exact hbad
          · split
            · exact hbad
            · split
              · exact hbad
              · exact ih _ (hcheck _ _ _ s hs)

theorem State.receiveControl_keepsTables (f : InFrame) (cols : List Rgb) (s : State) :
    s.KeepsTables (s.receiveControl f cols) := by
  unfold State.receiveControl
  simp only
  split
  · exact ⟨rfl, rfl⟩
  · split
    · exact ⟨rfl, rfl⟩
    · exact parseFrom_keeps (P := s.KeepsTables) (fun _ _ hu => hu.trans ⟨rfl, rfl⟩)
        (fun k u hu => hu.trans (dispatch_keepsTables k u)) _ _ ⟨rfl, rfl⟩

theorem State.blankIfInput_keepsTables (s : State) : s.KeepsTables s.blankIfInput := by
  obtain ⟨p, h⟩ := s.blankIfInput_eq
  rw [h]
  exact ⟨rfl, rfl⟩

/-! ### The image -/

/-- What holds of every application of every section's payload holds of all that the image still has to apply. -/
theorem State.imageRest_forall {P : ImageAct → Prop}
    (h : ∀ kind payload, ∀ a ∈ (sectionActs kind payload).1, P a) (s : State) : ∀ a ∈ s.imageRest, P a := by
  have hsections : ∀ (m : List Host.Cell) (len n start : Nat), ∀ a ∈ (imageSections m len n start).1, P a := by
    intro m len n
    induction n with
    | zero => simp [imageSections]
    | succ n ih =>
      intro start a ha
      simp only [imageSections] at ha
      split at ha
      · simp at ha
      · split at ha
        · exact h _ _ a ha
        · rcases List.mem_append.1 ha with ha | ha
          · exact h _ _ a ha
          · exact ih _ a ha
  intro a ha
  have ha := List.mem_of_mem_drop ha
  unfold readImage at ha
  split at ha
  · simp at ha
  · split at ha
    · simp at ha
    · simp only at ha
      split at ha
      · simp at ha
      · exact hsections _ _ _ _ a ha

/-- An application that writes an entry names an entry of its table (R20). -/
def ImageAct.indexed : ImageAct → Prop
  | .entry table i _ => i < tableSize table
  | .config _ | .sector _ _ _ => True

theorem entryActs_indexed (table n i : Nat) (bs : List Byte) : ∀ a ∈ (entryActs table n i bs).1, a.indexed := by
  induction n generalizing i bs with
  | zero => simp [entryActs]
  | succ n ih =>
    intro a ha
    simp only [entryActs] at ha
    split at ha
    · rename_i hok
      rcases List.mem_cons.1 ha with rfl | ha
      · exact hok.1
      · exact ih _ _ a ha
    · simp at ha

theorem sectionActs_indexed (kind : Nat) (payload : List Byte) : ∀ a ∈ (sectionActs kind payload).1, a.indexed := by
  intro a ha
  unfold sectionActs at ha
  simp only at ha
  split at ha
  · split at ha
    · rw [List.mem_singleton.1 ha]
      trivial
    · simp at ha
  iterate 4
    split at ha
    · exact entryActs_indexed _ _ _ _ a ha
    · simp at ha
  · split at ha
    · obtain ⟨t, m, b, rfl⟩ := sectorActs_sector _ _ _ _ a ha
      trivial
    · simp at ha
  · simp at ha

theorem State.imageRest_indexed (s : State) : ∀ a ∈ s.imageRest, a.indexed := s.imageRest_forall sectionActs_indexed

/-- One application by the start-up loader writes at most an entry of the active bank (R174). -/
theorem loadAct_writesTables (a : ImageAct) (ha : a.indexed) (s : State) : s.WritesTables (loadAct a s) := by
  cases a with
  | config f => exact ⟨.refl, rfl⟩
  | sector t n bs => exact ⟨.refl, rfl⟩
  | entry table i bs =>
    simp only [loadAct]
    split
    · rename_i k hk
      exact .of_write (.entry ha hk) rfl
    · exact .refl s

/-- One application by a RECALL writes at most an entry of staging (R175). -/
theorem recallAct_writesTables (a : ImageAct) (ha : a.indexed) (s : State) : s.WritesTables (recallAct a s) := by
  cases a with
  | config f => exact .refl s
  | sector t n bs => exact .refl s
  | entry table i bs =>
    simp only [recallAct]
    split
    · rename_i k hk
      exact .of_write (.entry ha hk) rfl
    · exact .refl s

/-- The work on the image writes the tables as its applications do. -/
theorem State.applyImage_writesTables {f : ImageAct → State → State}
    (hf : ∀ a, a.indexed → ∀ s : State, s.WritesTables (f a s)) (n : Nat) (s : State) :
    s.WritesTables (s.applyImage f n) :=
  s.applyImage_keeps (P := s.WritesTables) n (fun a ha u hu => hu.trans (hf a (s.imageRest_indexed a ha) u))
    (fun _ _ hu => hu.trans ⟨.refl, rfl⟩) (.refl s)

/-- The end of the start-up load applies what is left, and clears the active bank where the image fails (R43,
R174). -/
theorem State.loadEnds_writesTables (s : State) : s.WritesTables s.loadEnds := by
  have himage : s.WritesTables (s.applyImageRest loadAct) := s.applyImage_writesTables loadAct_writesTables _
  unfold State.loadEnds
  generalize s.applyImageRest loadAct = u at himage ⊢
  cases s.imageOutcome with
  | noStore => exact himage.trans ⟨.refl, rfl⟩
  | unprogrammed => exact himage.trans ⟨.refl, rfl⟩
  | failed => exact himage.trans (.of_write (.clear u.tables.active) rfl)
  | loaded tag => exact himage.trans ⟨.refl, rfl⟩

/-- The end of a RECALL applies what is left (R175). -/
theorem State.recallEnds_writesTables (s : State) : s.WritesTables s.recallEnds := by
  have himage : s.WritesTables (s.applyImageRest recallAct) := s.applyImage_writesTables recallAct_writesTables _
  unfold State.recallEnds
  generalize s.applyImageRest recallAct = u at himage ⊢
  cases s.imageOutcome <;> exact himage.trans ⟨.refl, rfl⟩

/-! ### What stands before a command -/

theorem State.settleLoad_writesTables (s : State) : s.WritesTables s.settleLoad := by
  unfold State.settleLoad
  split
  · exact s.loadEnds_writesTables
  · exact .refl s

theorem State.background_writesTables (s : State) : s.WritesTables s.background := by
  unfold State.background
  split
  · exact (s.applyImage_writesTables loadAct_writesTables _).trans ⟨.refl, rfl⟩
  · split
    · exact (s.applyImage_writesTables recallAct_writesTables _).trans ⟨.refl, rfl⟩
    · rcases s.saveGoesOn_cases with ⟨-, h⟩ | ⟨j, -, -, -, h⟩ <;> rw [h]
      · exact .refl s
      · exact ⟨.refl, rfl⟩

/-- What stands before a command writes the tables as a load or a RECALL does, and moves neither selector nor
generation (log 4, log 13). -/
theorem State.Before.writesTables {s u : State} (h : s.Before u) : s.WritesTables u := by
  have hload := s.settleLoad_writesTables
  cases h with
  | settleLoad => exact hload
  | prelude =>
    have hdue := (State.settleHold_keepsTables s.settleLoad).trans (State.settleCounters_keepsTables _)
    exact (hload.trans hdue.writesTables).trans (State.background_writesTables _)
  | rasterPrelude =>
    exact (hload.trans (State.settleCounters_keepsTables _).writesTables).trans (State.background_writesTables _)

/-! ### The table commands -/

theorem State.openStage_keepsTables (s : State) : s.KeepsTables s.openStage := by
  unfold State.openStage
  split <;> exact ⟨rfl, rfl⟩

theorem State.armFlip_keepsTables (f : FlipArmCmd) (s : State) : s.KeepsTables (s.armFlip f) := by
  have harmed : s.KeepsTables { s with scene := { s.scene with armed := some f.record } } := ⟨rfl, rfl⟩
  unfold State.armFlip
  split
  · exact ⟨rfl, rfl⟩
  · split
    · exact ⟨rfl, rfl⟩
    · split
      · exact ⟨rfl, rfl⟩
      · simp only
        split
        · exact harmed.trans (State.enterArmed_keepsTables _)
        · exact ⟨rfl, rfl⟩

theorem State.cancelFlip_keepsTables (s : State) : s.KeepsTables s.cancelFlip := by
  unfold State.cancelFlip
  cases s.scene.phase <;> exact ⟨rfl, rfl⟩

theorem State.discardStage_keepsTables (s : State) : s.KeepsTables s.discardStage := by
  unfold State.discardStage
  cases s.scene.phase <;> exact ⟨rfl, rfl⟩

theorem State.writeConfig_keepsTables (mask : Nat) (data : List Byte) (s : State) :
    s.KeepsTables (s.writeConfig mask data) := by
  unfold State.writeConfig
  split <;> exact ⟨rfl, rfl⟩

theorem State.startSave_keepsTables (s : State) : s.KeepsTables s.startSave := by
  unfold State.startSave
  split
  · exact ⟨rfl, rfl⟩
  · split
    · exact ⟨rfl, rfl⟩
    · split
      · exact ⟨rfl, rfl⟩
      · split <;> exact ⟨rfl, rfl⟩

theorem State.startProtect_keepsTables (named : BitVec 16) (s : State) : s.KeepsTables (s.startProtect named) := by
  unfold State.startProtect
  split
  · exact ⟨rfl, rfl⟩
  · split <;> exact ⟨rfl, rfl⟩

/-! ### The library and the store -/

theorem State.grantUpload_keepsTables (u : Upload) (rest : List Upload) (s : State) :
    s.KeepsTables (s.grantUpload u rest) := by
  unfold State.grantUpload
  simp only
  split <;> exact ⟨rfl, rfl⟩

theorem State.saveSector_keepsTables (j : SaveJob) (area : Nat) (rest : List Nat) (s : State) :
    s.KeepsTables (s.saveSector j area rest) := by
  unfold State.saveSector
  simp only
  split <;> exact ⟨rfl, rfl⟩

theorem State.protectEnds_keepsTables (s : State) : s.KeepsTables s.protectEnds := by
  unfold State.protectEnds
  split <;> exact ⟨rfl, rfl⟩

theorem State.programTimeout_keepsTables (s : State) : s.KeepsTables s.programTimeout := by
  unfold State.programTimeout
  split
  · split
    · obtain ⟨k, m, h⟩ := s.saveStops_cases
      rw [h]
      exact ⟨rfl, rfl⟩
    · exact .refl s
  · obtain ⟨k, m, h⟩ := s.protectStops_cases
    rw [h]
    exact ⟨rfl, rfl⟩
  · exact .refl s

/-! ### Staging -/

/-- Staging alone has been written. -/
structure State.StagesTables (s t : State) : Prop extends s.WritesTables t where
  staging : ∃ k, t.tables = s.tables.setBank s.tables.active.other k

theorem State.KeepsTables.stagesTables {s t : State} (h : s.KeepsTables t) : s.StagesTables t :=
  ⟨h.writesTables, _, h.tables.trans (s.tables.setBank_bank _).symm⟩

/-- Staging written leaves selector and active bank as they were. -/
theorem State.StagesTables.activeBank {s t : State} (h : s.StagesTables t) :
    t.tables.active = s.tables.active ∧ t.activeBank = s.activeBank := by
  obtain ⟨k, hk⟩ := h.staging
  unfold State.activeBank
  rw [hk]
  cases ha : s.tables.active <;> simp [ha, BankId.other, Tables.setBank, Tables.bank]

/-- An entry that an accepted TABLE_WRITE names is one of its table (check 3 of R123). -/
theorem writeIndices_lt {w : TableWriteCmd} {is : List Nat} (h : writeIndices w = some is) :
    ∀ i ∈ is, i < tableSize w.table := by
  unfold writeIndices at h
  split at h
  · cases h
  · split at h
    · split at h
      · cases h
        intro i hi
        obtain ⟨k, hk, rfl⟩ := List.mem_map.1 hi
        have := List.mem_range.1 hk
        omega
      · cases h
    · split at h
      · split at h
        · cases h
          intro i hi
          obtain ⟨k, -, rfl⟩ := List.mem_map.1 hi
          omega
        · cases h
      · cases h

/-- The entries of a TABLE_WRITE are writes of one bank, one behind the other (R124). -/
theorem writeEntries_writes {table mask : Nat} {is : List Nat} {bs : List Byte} {t : Tables} {i : BankId}
    {k k' : Bank} (his : ∀ n ∈ is, n < tableSize table) (hk : t.bank i = k)
    (h : writeEntries table mask is bs k = .ok k') : t.Writes (t.setBank i k') := by
  induction is generalizing bs t k with
  | nil =>
    cases h
    rw [← hk, t.setBank_bank]
  | cons n is ih =>
    simp only [writeEntries] at h
    split at h
    · cases h
    · rename_i k1 hentry
      have hfirst : t.Write (t.setBank i k1) := .entry (his n (List.mem_cons_self ..)) (hk ▸ hentry)
      have hrest := ih (t := t.setBank i k1) (fun m hm => his m (List.mem_cons_of_mem n hm))
        (t.bank_setBank i k1) h
      rw [t.setBank_setBank] at hrest
      exact .head hfirst hrest

/-- A TABLE_WRITE taken is refused, or writes its entries into staging (R123, R124). -/
theorem State.writeTable_stagesTables (w : TableWriteCmd) (s : State) : s.StagesTables (s.writeTable w) := by
  have hrefuse : ∀ why tb i, s.StagesTables (s.refuse 0x11 why tb i) :=
    fun _ _ _ => State.KeepsTables.stagesTables ⟨rfl, rfl⟩
  unfold State.writeTable
  split
  · exact hrefuse ..
  · split
    · exact hrefuse ..
    · split
      · exact hrefuse ..
      · rename_i is his
        split
        · exact hrefuse ..
        · split
          · exact hrefuse ..
          · rename_i k hk
            exact ⟨⟨writeEntries_writes (writeIndices_lt his) rfl hk, rfl⟩, k, rfl⟩

/-- A STORE_RECALL taken is refused, or clears staging (R175). -/
theorem State.startRecall_stagesTables (s : State) : s.StagesTables s.startRecall := by
  unfold State.startRecall
  split
  · exact State.KeepsTables.stagesTables ⟨rfl, rfl⟩
  · split
    · exact State.KeepsTables.stagesTables ⟨rfl, rfl⟩
    · exact ⟨⟨.single (.clear _), rfl⟩, .cleared, rfl⟩

/-- The seed copy writes the active bank over staging (R122). -/
theorem State.seedCopy_stagesTables (s : State) : s.StagesTables s.seedCopy :=
  ⟨⟨.single .seed, rfl⟩, s.activeBank, rfl⟩

end Sys2Proof.Machine

/-! SUPPORT. What each command leaves of the scene table memory, the selector and the generation, and from it the laws
of Section 2. -/

namespace Sys2Proof.Machine

/-! ### An output frame start -/

/-- A hot change writes the state of an item in both banks, or nothing of the tables (R32, R133). -/
theorem applyHot_writesTables (c : HotCmd) (p : State × Bool) : p.1.WritesTables (applyHot c p).1 := by
  cases c with
  | itemState item code =>
    simp only [applyHot]
    split
    · exact .of_write (.itemState item _) rfl
    · exact ⟨.refl, rfl⟩
  | pageSet page =>
    simp only [applyHot]
    split <;> exact ⟨.refl, rfl⟩
  | pagePush page duration threshold =>
    simp only [applyHot, State.pushPage]
    split
    · split <;> exact ⟨.refl, rfl⟩
    · exact ⟨.refl, rfl⟩
  | pagePop =>
    simp only [applyHot]
    split <;> exact ⟨.refl, rfl⟩
  | thresholdSet t => exact ⟨.refl, rfl⟩
  | watchSet r => exact ⟨.refl, rfl⟩
  | eventClear mask => exact ⟨.refl, rfl⟩

theorem applyHots_writesTables (cs : List HotCmd) (p : State × Bool) : p.1.WritesTables (applyHots cs p).1 := by
  induction cs generalizing p with
  | nil => exact .refl _
  | cons c cs ih => exact (applyHot_writesTables c p).trans (ih _)

/-- Behind its flip, an output frame start writes the tables as its hot changes do, and with none waiting not at all
(R130, R132). -/
theorem State.outputFrameStart_writesTables (src : Source) (s : State) :
    s.popIfDue.flipIfDue.WritesTables (s.outputFrameStart src) ∧
      (s.scene.hotQ = [] → s.popIfDue.flipIfDue.KeepsTables (s.outputFrameStart src)) := by
  obtain ⟨htables, hscene, -⟩ := s.outputFrameStart_update src
  have hupdate : s.hotUpdate.1.KeepsTables (s.outputFrameStart src) := ⟨htables, by rw [hscene]⟩
  obtain ⟨hqueue, -, -⟩ := s.popIfDue_flipIfDue_queues
  rw [State.hotUpdate, State.applyHotQueue, hqueue] at hupdate
  generalize s.popIfDue.flipIfDue = u at hupdate ⊢
  have hempty : u.KeepsTables { u with scene := { u.scene with hotQ := [] } } := ⟨rfl, rfl⟩
  have hhots := applyHots_writesTables s.scene.hotQ ({ u with scene := { u.scene with hotQ := [] } }, false)
  refine ⟨(hempty.writesTables.trans hhots).trans hupdate.writesTables, fun hnone => ?_⟩
  rw [hnone] at hupdate
  exact hempty.trans hupdate

/-- The selector changed over and the generation raised by one, the banks as they were (R131, R137). -/
structure State.FlipsTables (s t : State) : Prop where
  tables : t.tables = { s.tables with active := s.tables.active.other }
  generation : t.scene.generation = (s.scene.generation + 1) % 65536

theorem State.flip_flipsTables (s : State) : s.FlipsTables s.flip := by
  unfold State.flip Scene.enterPage
  simp only
  split
  · exact ⟨rfl, rfl⟩
  · split <;> exact ⟨rfl, rfl⟩

/-- The pop that may be due moves the flip no nearer and no further (R131, R136). -/
theorem State.popIfDue_flipDue (s : State) : s.popIfDue.flipDue = s.flipDue := by
  rcases s.popIfDue_cases with ⟨-, h⟩ | ⟨-, ⟨e, rest, -, h⟩ | ⟨-, h⟩⟩ <;> rw [h] <;> rfl

/-- In front of its hot changes, an output frame start makes the flip where it is due and leaves the tables alone
where it is not. -/
theorem State.popIfDue_flipIfDue_cases (s : State) :
    (s.flipDue = true ∧ s.FlipsTables s.popIfDue.flipIfDue) ∨
      (s.flipDue = false ∧ s.KeepsTables s.popIfDue.flipIfDue) := by
  obtain ⟨htables, hgeneration⟩ := s.popIfDue_keepsTables
  rw [← s.popIfDue_flipDue]
  rcases s.popIfDue.flipIfDue_cases with ⟨hdue, h⟩ | ⟨hdue, h⟩ <;> rw [h]
  · obtain ⟨hflip, hnext⟩ := s.popIfDue.flip_flipsTables
    exact .inl ⟨hdue, by rw [hflip, htables], by rw [hnext, hgeneration]⟩
  · exact .inr ⟨hdue, htables, hgeneration⟩

/-- A flip moves no contents: each law of both banks stands behind it. -/
theorem State.FlipsTables.bothBanks {P : Bank → Prop} {s t : State} (h : s.FlipsTables t)
    (hs : s.tables.BothBanks P) : t.tables.BothBanks P := by
  rw [h.tables]
  exact hs

/-- What every write of a bank keeps, an output frame start keeps in both banks. -/
theorem State.outputFrameStart_bothBanks {P : Bank → Prop} (hP : Bank.KeptByWrites P) (src : Source) {s : State}
    (hs : s.tables.BothBanks P) : (s.outputFrameStart src).tables.BothBanks P := by
  refine (s.outputFrameStart_writesTables src).1.writes.bothBanks hP ?_
  rcases s.popIfDue_flipIfDue_cases with ⟨-, h⟩ | ⟨-, h⟩
  · exact h.bothBanks hs
  · exact h.writesTables.writes.bothBanks hP hs

/-! ### The commands that leave the tables as they were -/

theorem execFillGrant_keepsTables {s t : State} (h : execFillGrant s = .next t) : s.prelude.KeepsTables t := by
  unfold execFillGrant at h
  generalize s.prelude = u at h ⊢
  simp only at h
  split at h <;> cases h <;> exact ⟨rfl, rfl⟩

theorem execFillCompletion_keepsTables {s t : State} (h : execFillCompletion s = .next t) :
    s.prelude.KeepsTables t := by
  unfold execFillCompletion at h
  generalize s.prelude = u at h ⊢
  simp only at h
  split at h <;> cases h
  · exact .refl _
  · exact (State.completeFill_buildsTo ..).keepsTables

theorem execTileWrite_keepsTables {s t : State} (h : execTileWrite s = .next t) : s.prelude.KeepsTables t := by
  unfold execTileWrite at h
  generalize s.prelude = u at h ⊢
  simp only at h
  split at h
  · split at h <;> cases h
    · exact State.grantUpload_keepsTables ..
    · exact .refl _
  · cases h
    exact .refl _

theorem execSaveReadGrant_keepsTables {s t : State} (h : execSaveReadGrant s = .next t) :
    s.prelude.KeepsTables t := by
  unfold execSaveReadGrant at h
  generalize s.prelude = u at h ⊢
  simp only at h
  split at h
  · split at h
    · cases h
      exact .refl _
    · split at h <;> cases h
      · exact State.saveSector_keepsTables ..
      · exact .refl _
  · cases h
    exact .refl _

theorem execSaveCompletion_keepsTables {s t : State} (h : execSaveCompletion s = .next t) :
    s.prelude.KeepsTables t := by
  unfold execSaveCompletion at h
  generalize s.prelude = u at h ⊢
  simp only at h
  split at h
  · split at h <;> cases h <;> exact ⟨rfl, rfl⟩
  · cases h
    exact .refl _

theorem execStoreReadCompletion_keepsTables {s t : State} (h : execStoreReadCompletion s = .next t) :
    s.prelude.KeepsTables t := by
  unfold execStoreReadCompletion at h
  generalize s.prelude = u at h ⊢
  simp only at h
  split at h <;> cases h <;> exact ⟨rfl, rfl⟩

/-- The head of the table queue taken moves neither tables nor generation. -/
theorem State.takeHead_keepsTables (s : State) : s.KeepsTables s.takeHead := ⟨rfl, rfl⟩

theorem execStageOpen_keepsTables {s t : State} (h : execStageOpen s = .next t) : s.prelude.KeepsTables t := by
  unfold execStageOpen at h
  generalize s.prelude = u at h ⊢
  simp only at h
  split at h <;> cases h
  · exact (State.takeHead_keepsTables _).trans (State.openStage_keepsTables _)
  · exact .refl _

theorem execFlipArm_keepsTables {s t : State} (h : execFlipArm s = .next t) : s.prelude.KeepsTables t := by
  unfold execFlipArm at h
  generalize s.prelude = u at h ⊢
  simp only at h
  split at h <;> cases h
  · exact (State.takeHead_keepsTables _).trans (State.armFlip_keepsTables _ _)
  · exact .refl _

theorem execFlipCancel_keepsTables {s t : State} (h : execFlipCancel s = .next t) : s.prelude.KeepsTables t := by
  unfold execFlipCancel at h
  generalize s.prelude = u at h ⊢
  simp only at h
  split at h <;> cases h
  · exact (State.takeHead_keepsTables _).trans (State.cancelFlip_keepsTables _)
  · exact .refl _

theorem execStageDiscard_keepsTables {s t : State} (h : execStageDiscard s = .next t) :
    s.prelude.KeepsTables t := by
  unfold execStageDiscard at h
  generalize s.prelude = u at h ⊢
  simp only at h
  split at h <;> cases h
  · exact (State.takeHead_keepsTables _).trans (State.discardStage_keepsTables _)
  · exact .refl _

theorem execConfigWrite_keepsTables {s t : State} (h : execConfigWrite s = .next t) : s.prelude.KeepsTables t := by
  unfold execConfigWrite at h
  generalize s.prelude = u at h ⊢
  simp only at h
  split at h <;> cases h
  · exact (State.takeHead_keepsTables _).trans (State.writeConfig_keepsTables _ _ _)
  · exact .refl _

theorem execStoreSave_keepsTables {s t : State} (h : execStoreSave s = .next t) : s.prelude.KeepsTables t := by
  unfold execStoreSave at h
  generalize s.prelude = u at h ⊢
  simp only at h
  split at h <;> cases h
  · exact (State.takeHead_keepsTables _).trans (State.startSave_keepsTables _)
  · exact .refl _

theorem execStoreProtect_keepsTables {s t : State} (h : execStoreProtect s = .next t) :
    s.prelude.KeepsTables t := by
  unfold execStoreProtect at h
  generalize s.prelude = u at h ⊢
  simp only at h
  split at h <;> cases h
  · exact (State.takeHead_keepsTables _).trans (State.startProtect_keepsTables _ _)
  · exact .refl _

theorem execControlLine_keepsTables {cols : List Rgb} {s t : State} (h : execControlLine cols s = .next t) :
    s.rasterPrelude.KeepsTables t := by
  unfold execControlLine at h
  generalize s.rasterPrelude = u at h ⊢
  simp only at h
  split at h <;> cases h
  · exact .refl _
  · exact (State.receiveControl_keepsTables _ _ _).trans (State.blankIfInput_keepsTables _)

theorem execBlankingLine_keepsTables {s t : State} (h : execBlankingLine s = .next t) :
    s.rasterPrelude.KeepsTables t := by
  unfold execBlankingLine at h
  generalize s.rasterPrelude = u at h ⊢
  simp only at h
  split at h <;> cases h
  · exact .refl _
  · exact State.blankIfInput_keepsTables _

theorem execActiveLine_keepsTables {cols : List Rgb} {flip : Bool} {s t : State}
    (h : execActiveLine cols flip s = .next t) : s.rasterPrelude.KeepsTables t := by
  unfold execActiveLine at h
  generalize s.rasterPrelude = u at h ⊢
  simp only at h
  split at h
  · cases h
    exact ⟨rfl, rfl⟩
  · rename_i f _
    have hmeas : u.KeepsTables ((u.seeFlip flip).measureLine f cols.length) := ⟨rfl, rfl⟩
    split at h <;> cases h
    · exact hmeas.trans (State.outputLineStart_keepsTables _ _)
    · exact hmeas

theorem execFallbackLineStart_keepsTables {flip : Bool} {s t : State}
    (h : execFallbackLineStart flip s = .next t) : s.rasterPrelude.KeepsTables t := by
  unfold execFallbackLineStart at h
  generalize s.rasterPrelude = u at h ⊢
  simp only at h
  split at h <;> cases h
  · exact ⟨rfl, rfl⟩
  · refine State.KeepsTables.trans ?_ (State.outputLineStart_keepsTables _ _)
    exact ⟨rfl, rfl⟩

theorem execFallbackBlankingLinePeriod_keepsTables {s t : State}
    (h : execFallbackBlankingLinePeriod s = .next t) : s.rasterPrelude.KeepsTables t := by
  unfold execFallbackBlankingLinePeriod at h
  generalize s.rasterPrelude = u at h ⊢
  simp only at h
  split at h <;> cases h <;> exact ⟨rfl, rfl⟩

/-! ### The commands that write staging -/

theorem State.StagesTables.of_takeHead {s t : State} (h : s.takeHead.StagesTables t) : s.StagesTables t :=
  ⟨⟨h.writes, h.generation⟩, h.staging⟩

theorem execTableWrite_stagesTables {s t : State} (h : execTableWrite s = .next t) : s.prelude.StagesTables t := by
  unfold execTableWrite at h
  generalize s.prelude = u at h ⊢
  simp only at h
  split at h <;> cases h
  · exact .of_takeHead (State.writeTable_stagesTables _ _)
  · exact (State.KeepsTables.refl _).stagesTables

theorem execStoreRecall_stagesTables {s t : State} (h : execStoreRecall s = .next t) :
    s.prelude.StagesTables t := by
  unfold execStoreRecall at h
  generalize s.prelude = u at h ⊢
  simp only at h
  split at h <;> cases h
  · exact .of_takeHead (State.startRecall_stagesTables _)
  · exact (State.KeepsTables.refl _).stagesTables

theorem execSeedCompletion_stagesTables {s t : State} (h : execSeedCompletion s = .next t) :
    s.prelude.StagesTables t := by
  unfold execSeedCompletion at h
  generalize s.prelude = u at h ⊢
  have hseed := u.seedCopy_stagesTables
  simp only at h
  split at h
  · cases h
    exact ⟨⟨hseed.writes, hseed.generation⟩, hseed.staging⟩
  · split at h <;> cases h
    · exact (State.KeepsTables.refl _).stagesTables
    · exact ⟨⟨hseed.writes, hseed.generation⟩, hseed.staging⟩
  · cases h
    exact (State.KeepsTables.refl _).stagesTables

/-! ### The commands that bring an output frame start -/

/-- A command of the raster leaves tables and scene controller as they were, or ends in an output frame start on a
state whose tables and scene controller are those before it (R15). -/
def State.BringsFrame (s t : State) : Prop :=
  s.KeepsTables t ∨ ∃ (u : State) (src : Source), u.tables = s.tables ∧ u.scene = s.scene ∧ t = u.outputFrameStart src

theorem execFallbackFrameStart_bringsFrame {ready : Bool} {s t : State}
    (h : execFallbackFrameStart ready s = .next t) : s.rasterPrelude.BringsFrame t := by
  unfold execFallbackFrameStart at h
  generalize s.rasterPrelude = u at h ⊢
  simp only at h
  split at h <;> cases h
  · exact .inl ⟨rfl, rfl⟩
  · exact .inr ⟨u.seeReady ready, .fallback, rfl, rfl, rfl⟩

theorem execLossIntervalExpiry_bringsFrame {ready : Bool} {s t : State}
    (h : execLossIntervalExpiry ready s = .next t) : s.rasterPrelude.BringsFrame t := by
  unfold execLossIntervalExpiry at h
  generalize s.rasterPrelude = u at h ⊢
  simp only at h
  split at h <;> cases h
  · exact .inl ⟨rfl, rfl⟩
  · cases hlock : (u.seeReady ready).raster.lock.follows
    · rw [State.loseInput_of_not_follows hlock]
      exact .inl ⟨rfl, rfl⟩
    · rw [State.loseInput_of_follows hlock]
      exact .inr ⟨_, _, by simp [State.lockLost], by simp [State.lockLost], rfl⟩

theorem execInputFrameStart_bringsFrame {ready : Bool} {s t : State}
    (h : execInputFrameStart ready s = .next t) : s.rasterPrelude.BringsFrame t := by
  unfold execInputFrameStart at h
  generalize s.rasterPrelude = u at h ⊢
  cases h
  obtain ⟨v, hjudged⟩ := (u.seeReady ready).judgeFrame_eq
  have htables : (u.seeReady ready).judgeFrame.tables = u.tables := by rw [hjudged]; rfl
  have hscene : (u.seeReady ready).judgeFrame.scene = u.scene := by rw [hjudged]; rfl
  unfold State.inputFrameOutput
  split
  · refine .inr ⟨_, _, ?_, ?_, rfl⟩ <;> split <;> simp [htables, hscene]
  · split
    · exact .inr ⟨_, _, htables, hscene, rfl⟩
    · exact .inl ⟨htables, by rw [hscene]⟩

/-! ### POWER_ON and RESTART -/

/-- The first frame behind a reset of every block finds no flip due and no hot change: both banks are cleared, A is
active and the generation is 0 (R42, R138). -/
theorem State.resetBlocks_outputFrameStart_tables (src : Source) (s : State) :
    (s.resetBlocks.outputFrameStart src).tables = ⟨.cleared, .cleared, .a⟩ ∧
      (s.resetBlocks.outputFrameStart src).scene.generation = 0 := by
  obtain ⟨htables, hgeneration⟩ := (s.resetBlocks.outputFrameStart_writesTables src).2 rfl
  rw [htables, hgeneration]
  exact ⟨rfl, rfl⟩

/-- A POWER_ON that is taken leaves both banks cleared, A active and generation 0 (R173). -/
theorem execPowerOn_tables {p : Straps} {s t : State} (h : execPowerOn p s = .next t) :
    t.tables = ⟨.cleared, .cleared, .a⟩ ∧ t.scene.generation = 0 := by
  obtain ⟨u, rfl⟩ := execPowerOn_resets h
  exact u.resetBlocks_outputFrameStart_tables _

/-- RESTART resets the tables where it is taken, and leaves what stands before it where it is not (R179, log 3). -/
theorem execRestart_tables {s t : State} (h : execRestart s = .next t) :
    (t.tables = ⟨.cleared, .cleared, .a⟩ ∧ t.scene.generation = 0) ∨ t = s.rasterPrelude := by
  unfold execRestart at h
  generalize s.rasterPrelude = u at h ⊢
  simp only at h
  split at h <;> cases h
  · exact .inl (State.resetBlocks_outputFrameStart_tables _ _)
  · exact .inr rfl

/-! ### Every other command -/

/-- The commands that can bring an output frame start (R15). -/
def mayStartFrame (c : Instr) : Prop :=
  ∃ r, c = .inputFrameStart r ∨ c = .lossIntervalExpiry r ∨ c = .fallbackFrameStart r

/-- What a command but POWER_ON and RESTART does with the tables, behind the steps that stand before it: nothing; a
write of staging, at three commands (R22); the image read, at the end of a load or a RECALL; an output frame start. -/
inductive State.TableEffect (c : Instr) (s t : State) : Prop where
  | keeps {u : State} (hbefore : s.Before u) (h : u.KeepsTables t)
  | stages {u : State} (hbefore : s.Before u) (hc : c ∈ [.seedCompletion, .tableWrite, .storeRecall])
      (h : u.StagesTables t)
  | reads {u : State} (hbefore : s.Before u) (hbusy : u.loading = true ∨ u.scene.phase = .recalling)
      (h : u.WritesTables t)
  | frame (hc : mayStartFrame c) (h : s.rasterPrelude.BringsFrame t)

theorem execLoadCompletion_tableEffect {s t : State} (h : execLoadCompletion s = .next t) :
    State.TableEffect .loadCompletion s t := by
  have hbefore : s.Before s.prelude := .prelude
  unfold execLoadCompletion at h
  generalize s.prelude = u at h hbefore
  split at h
  · cases h
    exact .keeps .settleLoad (.refl _)
  · simp only at h
    split at h <;> cases h
    · rename_i hload
      exact .reads hbefore (.inl hload) (State.loadEnds_writesTables _)
    · exact .keeps hbefore (.refl _)

theorem execRecallCompletion_tableEffect {s t : State} (h : execRecallCompletion s = .next t) :
    State.TableEffect .recallCompletion s t := by
  have hbefore : s.Before s.prelude := .prelude
  unfold execRecallCompletion at h
  generalize s.prelude = u at h hbefore
  simp only at h
  split at h <;> cases h
  · rename_i hphase
    exact .reads hbefore (.inr hphase) (State.recallEnds_writesTables _)
  · exact .keeps hbefore (.refl _)

/-- Every command but POWER_ON and RESTART has one of these effects. -/
theorem exec_tableEffect {c : Instr} {s t : State} (hpower : ∀ p, c ≠ .powerOn p) (hrestart : c ≠ .restart)
    (h : exec c s = .next t) : State.TableEffect c s t := by
  unfold exec at h
  cases c with
  | powerOn p => exact absurd rfl (hpower p)
  | restart => exact absurd rfl hrestart
  | loadCompletion => exact execLoadCompletion_tableEffect h
  | recallCompletion => exact execRecallCompletion_tableEffect h
  | inputFrameStart ready => exact .frame ⟨ready, .inl rfl⟩ (execInputFrameStart_bringsFrame h)
  | lossIntervalExpiry ready => exact .frame ⟨ready, .inr (.inl rfl)⟩ (execLossIntervalExpiry_bringsFrame h)
  | fallbackFrameStart ready => exact .frame ⟨ready, .inr (.inr rfl)⟩ (execFallbackFrameStart_bringsFrame h)
  | controlLine cols => exact .keeps .rasterPrelude (execControlLine_keepsTables h)
  | blankingLine => exact .keeps .rasterPrelude (execBlankingLine_keepsTables h)
  | activeLine cols flip => exact .keeps .rasterPrelude (execActiveLine_keepsTables h)
  | fallbackLineStart flip => exact .keeps .rasterPrelude (execFallbackLineStart_keepsTables h)
  | fallbackBlankingLinePeriod => exact .keeps .rasterPrelude (execFallbackBlankingLinePeriod_keepsTables h)
  | seedCompletion => exact .stages .prelude (by simp) (execSeedCompletion_stagesTables h)
  | tableWrite => exact .stages .prelude (by simp) (execTableWrite_stagesTables h)
  | storeRecall => exact .stages .prelude (by simp) (execStoreRecall_stagesTables h)
  | fillGrant => exact .keeps .prelude (execFillGrant_keepsTables h)
  | fillCompletion => exact .keeps .prelude (execFillCompletion_keepsTables h)
  | tileWrite => exact .keeps .prelude (execTileWrite_keepsTables h)
  | saveReadGrant => exact .keeps .prelude (execSaveReadGrant_keepsTables h)
  | stageOpen => exact .keeps .prelude (execStageOpen_keepsTables h)
  | flipArm => exact .keeps .prelude (execFlipArm_keepsTables h)
  | flipCancel => exact .keeps .prelude (execFlipCancel_keepsTables h)
  | stageDiscard => exact .keeps .prelude (execStageDiscard_keepsTables h)
  | configWrite => exact .keeps .prelude (execConfigWrite_keepsTables h)
  | storeSave => exact .keeps .prelude (execStoreSave_keepsTables h)
  | saveCompletion => exact .keeps .prelude (execSaveCompletion_keepsTables h)
  | storeProtect => exact .keeps .prelude (execStoreProtect_keepsTables h)
  | storeReadCompletion => exact .keeps .prelude (execStoreReadCompletion_keepsTables h)
  | protectProgramCompletion =>
    cases h
    exact .keeps .prelude (State.protectEnds_keepsTables _)
  | storeProgramTimeout =>
    cases h
    exact .keeps .prelude (State.programTimeout_keepsTables _)
  | uploadsAheadDrained =>
    cases h
    exact .keeps .settleLoad (State.settleDrained_keepsTables _)
  | creditWindowRestart =>
    cases h
    exact .keeps .settleLoad (State.settleCredit_keepsTables _)
  | pageHoldExpiry =>
    cases h
    exact .keeps .settleLoad (State.settleHold_keepsTables _)
  | leaderWindowEnd =>
    cases h
    exact .keeps .settleLoad (State.settleLeaderWindow_keepsTables _)
  | memberWindowEnd =>
    cases h
    exact .keeps .settleLoad (State.settleMemberWindow_keepsTables _)
  | pulseEnd =>
    cases h
    exact .keeps .settleLoad (State.settlePulse_keepsTables _)

/-! ### O5 and O6: a law that every write keeps, every step keeps -/

theorem State.TableEffect.bothBanks {P : Bank → Prop} (hP : Bank.KeptByWrites P) {c : Instr} {s t : State}
    (h : State.TableEffect c s t) (hs : s.tables.BothBanks P) : t.tables.BothBanks P := by
  have hbefore : ∀ {u : State}, s.Before u → u.tables.BothBanks P :=
    fun hu => hu.writesTables.writes.bothBanks hP hs
  cases h with
  | keeps hu h => exact h.writesTables.writes.bothBanks hP (hbefore hu)
  | stages hu _ h => exact h.writes.bothBanks hP (hbefore hu)
  | reads hu _ h => exact h.writes.bothBanks hP (hbefore hu)
  | frame _ h =>
    have hraster := hbefore .rasterPrelude
    rcases h with h | ⟨u, src, htables, -, rfl⟩
    · exact h.writesTables.writes.bothBanks hP hraster
    · exact State.outputFrameStart_bothBanks hP src (htables ▸ hraster)

/-- A law that every write of a bank keeps, every command keeps in both banks: POWER_ON and RESTART clear them, and
every other command writes them only as `State.TableEffect` says. -/
theorem exec_bothBanks {P : Bank → Prop} (hP : Bank.KeptByWrites P) {c : Instr} {s t : State}
    (hs : s.tables.BothBanks P) (h : exec c s = .next t) : t.tables.BothBanks P := by
  have hcleared : t.tables = ⟨.cleared, .cleared, .a⟩ → t.tables.BothBanks P :=
    fun ht => ht ▸ ⟨hP.cleared, hP.cleared⟩
  by_cases hpower : ∃ p, c = .powerOn p
  · obtain ⟨p, rfl⟩ := hpower
    exact hcleared (execPowerOn_tables h).1
  · by_cases hrestart : c = .restart
    · subst hrestart
      rcases execRestart_tables h with ⟨htables, -⟩ | rfl
      · exact hcleared htables
      · exact State.Before.rasterPrelude.writesTables.writes.bothBanks hP hs
    · exact (exec_tableEffect (fun p hp => hpower ⟨p, hp⟩) hrestart h).bothBanks hP hs

theorem step_bothBanks {P : Bank → Prop} (hP : Bank.KeptByWrites P) {s t : State} (hs : s.tables.BothBanks P)
    (h : step s = .next t) : t.tables.BothBanks P := by
  rcases step_cases s t h with ⟨-, rfl⟩ | ⟨c, rest, -, hexec⟩
  · exact hs
  · exact exec_bothBanks (s := { s with pending := rest }) hP hs hexec

/-- Settles O5: every write of a bank keeps its sizes and ranges, so every step does. -/
theorem tableEntriesStayInRange : Obligations.TableEntriesStayInRange :=
  fun _ _ hs h => step_bothBanks Bank.lawful_keptByWrites hs h

/-- Settles O6: every write of a bank keeps its counts at the valid entries of its directory, so every step does. -/
theorem areaCountsFollowTheDirectory : Obligations.AreaCountsFollowTheDirectory :=
  fun _ _ hs h => step_bothBanks Bank.countLaw_keptByWrites hs h

/-! ### O17: selector and generation -/

/-- Writes move neither selector nor generation. -/
theorem State.WritesTables.selector {s t : State} (h : s.WritesTables t) :
    t.tables.active = s.tables.active ∧ t.scene.generation = s.scene.generation :=
  ⟨h.writes.active, h.generation⟩

/-- An output frame start moves selector and generation at a due flip alone (R21, R137). -/
theorem State.outputFrameStart_selector (src : Source) (s : State) :
    (s.flipDue = true ∧ (s.outputFrameStart src).tables.active = s.tables.active.other ∧
        (s.outputFrameStart src).scene.generation = (s.scene.generation + 1) % 65536) ∨
      ((s.outputFrameStart src).tables.active = s.tables.active ∧
        (s.outputFrameStart src).scene.generation = s.scene.generation) := by
  obtain ⟨hactive, hgeneration⟩ := (s.outputFrameStart_writesTables src).1.selector
  rw [hactive, hgeneration]
  rcases s.popIfDue_flipIfDue_cases with ⟨hdue, htables, hnext⟩ | ⟨-, h⟩
  · exact .inl ⟨hdue, by rw [htables], hnext⟩
  · exact .inr h.writesTables.selector

/-- Settles O17: behind what stands before it, a command either writes the tables without moving selector and
generation, or brings an output frame start, which flips where a flip is due; the resets set both. -/
theorem selectorAndGenerationChangeOnlyAtAFlip : Obligations.SelectorAndGenerationChangeOnlyAtAFlip := by
  refine ⟨fun c s t hpower hrestart h => ?_, fun p s t h => ?_, fun s t h => ?_⟩
  · cases exec_tableEffect hpower hrestart h with
    | keeps hu h => exact .inl (hu.writesTables.trans h.writesTables).selector
    | stages hu _ h => exact .inl (hu.writesTables.trans h.toWritesTables).selector
    | reads hu _ h => exact .inl (hu.writesTables.trans h).selector
    | frame hc h =>
      have hraster : s.WritesTables s.rasterPrelude := State.Before.rasterPrelude.writesTables
      obtain ⟨hactive, hgeneration⟩ := hraster.selector
      rcases h with h | ⟨u, src, htables, hscene, rfl⟩
      · exact .inl (hraster.trans h.writesTables).selector
      · have hdue : u.flipDue = s.rasterPrelude.flipDue := by rw [State.flipDue, State.flipDue, hscene]
        have hselector := u.outputFrameStart_selector src
        rw [hdue, htables, hscene, hactive, hgeneration] at hselector
        rcases hselector with hflip | hkept
        · exact .inr ⟨hc, hflip⟩
        · exact .inl hkept
  · obtain ⟨htables, hgeneration⟩ := execPowerOn_tables h
    exact ⟨by rw [htables], hgeneration⟩
  · rcases execRestart_tables h with ⟨htables, hgeneration⟩ | rfl
    · exact .inl ⟨by rw [htables], hgeneration⟩
    · exact .inr State.Before.rasterPrelude.writesTables.selector

/-! ### O19: the writers of the banks -/

/-- With no hot change waiting, an output frame start changes the contents of neither bank (R22, R32). -/
theorem State.outputFrameStart_banks (src : Source) {s : State} (hhot : s.scene.hotQ = []) :
    (s.outputFrameStart src).tables.a = s.tables.a ∧ (s.outputFrameStart src).tables.b = s.tables.b := by
  rw [((s.outputFrameStart_writesTables src).2 hhot).tables]
  rcases s.popIfDue_flipIfDue_cases with ⟨-, h⟩ | ⟨-, h⟩ <;> rw [h.tables] <;> exact ⟨rfl, rfl⟩

/-- Settles O19: in a quiet state nothing stands before the command and no image is being read, so that of the effects
a command can have on the tables there remain none, a write of staging, and an output frame start. -/
theorem banksChangeOnlyAtTheirWriters : Obligations.BanksChangeOnlyAtTheirWriters := by
  intro c s t hq hpower hrestart h
  cases exec_tableEffect hpower hrestart h with
  | keeps hu h =>
    cases hu.eq_of_quiet hq
    have htables := h.tables
    exact ⟨fun _ => ⟨by rw [htables], by rw [State.activeBank, htables]; rfl, fun _ => htables⟩,
      fun _ _ => ⟨by rw [htables], by rw [htables]⟩⟩
  | stages hu hc h =>
    cases hu.eq_of_quiet hq
    obtain ⟨hactive, hbank⟩ := h.activeBank
    exact ⟨fun _ => ⟨hactive, hbank, fun hnot => absurd hc hnot⟩, fun _ hnot => absurd hc hnot⟩
  | reads hu hbusy h =>
    cases hu.eq_of_quiet hq
    rcases hbusy with hload | hphase
    · rw [s.loading_of_quiet hq] at hload
      cases hload
    · exact absurd hphase (State.phase_ne_recalling_of_quiet hq)
  | frame hc h =>
    rw [State.Before.rasterPrelude.eq_of_quiet hq] at h
    refine ⟨fun hnot => ?_, fun hhot _ => ?_⟩
    · obtain ⟨r, hc⟩ := hc
      obtain ⟨hinput, hloss, hfallback⟩ := hnot r
      rcases hc with hc | hc | hc
      · exact absurd hc hinput
      · exact absurd hc hloss
      · exact absurd hc hfallback
    · rcases h with h | ⟨u, src, htables, hscene, rfl⟩
      · rw [h.tables]
        exact ⟨rfl, rfl⟩
      · rw [← htables]
        exact u.outputFrameStart_banks src (hscene ▸ hhot)

end Sys2Proof.Machine

/-! SUPPORT. What a step is made of for the overlay builder, and from it the law of the frame view. -/

namespace Sys2Proof.Machine

/-! ### What leaves builder and frame view alone -/

/-- The builder stands as it was, and with it all that its frame view holds: the canvas of the frame raster record, the
bank selector, page and threshold (R46). -/
structure State.KeepsFrame (s t : State) : Prop where
  builder : t.builder = s.builder
  record : t.raster.record = s.raster.record
  active : t.tables.active = s.tables.active
  page : t.scene.page = s.scene.page
  threshold : t.scene.threshold = s.scene.threshold

namespace State.KeepsFrame

theorem refl (s : State) : s.KeepsFrame s := ⟨rfl, rfl, rfl, rfl, rfl⟩

theorem trans {s t u : State} (h : s.KeepsFrame t) (k : t.KeepsFrame u) : s.KeepsFrame u :=
  ⟨k.builder.trans h.builder, k.record.trans h.record, k.active.trans h.active, k.page.trans h.page,
    k.threshold.trans h.threshold⟩

theorem raise (f : Flag) (s : State) : s.KeepsFrame (s.raise f) := ⟨rfl, rfl, rfl, rfl, rfl⟩

theorem refuse (p : Nat) (why : Reason) (tb i : Nat) (s : State) : s.KeepsFrame (s.refuse p why tb i) :=
  ⟨rfl, rfl, rfl, rfl, rfl⟩

theorem setActive (k : Bank) (s : State) : s.KeepsFrame (s.setActive k) :=
  ⟨rfl, rfl, s.setActive_active k, rfl, rfl⟩

theorem setStaging (k : Bank) (s : State) : s.KeepsFrame (s.setStaging k) :=
  ⟨rfl, rfl, s.setStaging_active k, rfl, rfl⟩

theorem enter (p : Phase) (s : State) : s.KeepsFrame (s.enter p) := ⟨rfl, rfl, rfl, rfl, rfl⟩

theorem takeHead (s : State) : s.KeepsFrame s.takeHead := ⟨rfl, rfl, rfl, rfl, rfl⟩

theorem disarm (p : Phase) (s : State) : s.KeepsFrame (s.disarm p) := ⟨rfl, rfl, rfl, rfl, rfl⟩

end State.KeepsFrame

/-! ### The group sync unit and the counters -/

theorem State.enterArmed_keepsFrame (s : State) : s.KeepsFrame s.enterArmed := by
  unfold State.enterArmed
  split <;> exact ⟨rfl, rfl, rfl, rfl, rfl⟩

theorem State.settleDrained_keepsFrame (s : State) : s.KeepsFrame s.settleDrained := by
  unfold State.settleDrained
  split
  · exact s.enterArmed_keepsFrame
  · exact .refl s

theorem State.settleCredit_keepsFrame (s : State) : s.KeepsFrame s.settleCredit := by
  unfold State.settleCredit
  split <;> exact ⟨rfl, rfl, rfl, rfl, rfl⟩

theorem State.settlePulse_keepsFrame (s : State) : s.KeepsFrame s.settlePulse := by
  unfold State.settlePulse
  split <;> exact ⟨rfl, rfl, rfl, rfl, rfl⟩

theorem State.settleLeaderWindow_keepsFrame (s : State) : s.KeepsFrame s.settleLeaderWindow := by
  unfold State.settleLeaderWindow
  split
  · unfold State.leaderWindowEnds
    simp only
    split
    · split <;> exact ⟨rfl, rfl, rfl, rfl, rfl⟩
    · exact ⟨rfl, rfl, rfl, rfl, rfl⟩
  · exact .refl s

theorem State.settleMemberWindow_keepsFrame (s : State) : s.KeepsFrame s.settleMemberWindow := by
  unfold State.settleMemberWindow
  split
  · exact ⟨rfl, rfl, rfl, rfl, rfl⟩
  · exact .refl s

theorem State.settleCounters_keepsFrame (s : State) : s.KeepsFrame s.settleCounters :=
  (s.settleDrained_keepsFrame.trans (State.settleCredit_keepsFrame _)).trans
    (((State.settlePulse_keepsFrame _).trans (State.settleLeaderWindow_keepsFrame _)).trans
      (State.settleMemberWindow_keepsFrame _))

/-- A sample of GRP_FLIP moves the scene state at most (R146, R147). -/
theorem State.sampleFlip_scene (s : State) :
    s.sampleFlip.scene = { s.scene with phase := s.sampleFlip.scene.phase } := by
  have hpulse : ∀ u : State,
      u.pulseRecognized.scene = { u.scene with phase := u.pulseRecognized.scene.phase } := by
    intro u
    unfold State.pulseRecognized
    cases u.scene.phase <;> rfl
  unfold State.sampleFlip
  simp only
  split
  · split
    · rfl
    · split
      · rfl
      · split
        · exact hpulse _
        · rfl
  · rfl

theorem State.sampleFlip_keepsFrame (s : State) : s.KeepsFrame s.sampleFlip :=
  ⟨s.sampleFlip_controlsTo.builder, by rw [s.sampleFlip_controlsTo.raster], by rw [s.sampleFlip_tables],
    by rw [s.sampleFlip_scene], by rw [s.sampleFlip_scene]⟩

/-- The clocked counters of a line start leave the frame view what it names (R113, R144, R146). -/
theorem State.clockLine_keepsFrame (s : State) : s.KeepsFrame s.clockLine := by
  rw [State.clockLine_eq]
  refine State.KeepsFrame.trans ?_ (State.sampleFlip_keepsFrame _)
  exact ⟨rfl, rfl, rfl, rfl, rfl⟩

/-! ### The image and the store controller -/

theorem loadAct_keepsFrame (a : ImageAct) (s : State) : s.KeepsFrame (loadAct a s) := by
  cases a with
  | config f => exact ⟨rfl, rfl, rfl, rfl, rfl⟩
  | entry table i bs =>
    simp only [loadAct]
    split
    · exact .setActive _ s
    · exact .refl s
  | sector t n bs => exact ⟨rfl, rfl, rfl, rfl, rfl⟩

theorem recallAct_keepsFrame (a : ImageAct) (s : State) : s.KeepsFrame (recallAct a s) := by
  cases a with
  | config f => exact .refl s
  | entry table i bs =>
    simp only [recallAct]
    split
    · exact .setStaging _ s
    · exact .refl s
  | sector t n bs => exact .refl s

theorem State.applyImage_keepsFrame {f : ImageAct → State → State}
    (hf : ∀ (a : ImageAct) (s : State), s.KeepsFrame (f a s)) (n : Nat) (s : State) : s.KeepsFrame (s.applyImage f n) :=
  s.applyImage_keeps (P := s.KeepsFrame) n (fun a _ u hu => hu.trans (hf a u))
    (fun _ _ hu => hu.trans ⟨rfl, rfl, rfl, rfl, rfl⟩) (.refl s)

theorem State.loadEnds_keepsFrame (s : State) : s.KeepsFrame s.loadEnds := by
  have himage : s.KeepsFrame (s.applyImageRest loadAct) := s.applyImage_keepsFrame loadAct_keepsFrame _
  unfold State.loadEnds
  generalize s.applyImageRest loadAct = u at himage ⊢
  cases s.imageOutcome with
  | noStore => exact himage.trans ⟨rfl, rfl, rfl, rfl, rfl⟩
  | unprogrammed => exact himage.trans ⟨rfl, rfl, rfl, rfl, rfl⟩
  | failed => exact (himage.trans (.setActive _ u)).trans ⟨rfl, rfl, rfl, rfl, rfl⟩
  | loaded tag => exact himage.trans ⟨rfl, rfl, rfl, rfl, rfl⟩

theorem State.recallEnds_keepsFrame (s : State) : s.KeepsFrame s.recallEnds := by
  have himage : s.KeepsFrame (s.applyImageRest recallAct) := s.applyImage_keepsFrame recallAct_keepsFrame _
  unfold State.recallEnds
  generalize s.applyImageRest recallAct = u at himage ⊢
  cases s.imageOutcome <;> exact himage.trans ⟨rfl, rfl, rfl, rfl, rfl⟩

theorem State.settleLoad_keepsFrame (s : State) : s.KeepsFrame s.settleLoad := by
  unfold State.settleLoad
  split
  · exact s.loadEnds_keepsFrame
  · exact .refl s

theorem State.background_keepsFrame (s : State) : s.KeepsFrame s.background := by
  unfold State.background
  split
  · exact (s.applyImage_keepsFrame loadAct_keepsFrame _).trans ⟨rfl, rfl, rfl, rfl, rfl⟩
  · split
    · exact (s.applyImage_keepsFrame recallAct_keepsFrame _).trans ⟨rfl, rfl, rfl, rfl, rfl⟩
    · rcases s.saveGoesOn_cases with ⟨-, h⟩ | ⟨j, -, -, -, h⟩ <;> rw [h]
      · exact .refl s
      · exact ⟨rfl, rfl, rfl, rfl, rfl⟩

theorem State.programTimeout_keepsFrame (s : State) : s.KeepsFrame s.programTimeout := by
  unfold State.programTimeout
  split
  · split
    · obtain ⟨k, m, h⟩ := s.saveStops_cases
      rw [h]
      exact ⟨rfl, rfl, rfl, rfl, rfl⟩
    · exact .refl s
  · obtain ⟨k, m, h⟩ := s.protectStops_cases
    rw [h]
    exact ⟨rfl, rfl, rfl, rfl, rfl⟩
  · exact .refl s

theorem State.protectEnds_keepsFrame (s : State) : s.KeepsFrame s.protectEnds := by
  unfold State.protectEnds
  split <;> exact ⟨rfl, rfl, rfl, rfl, rfl⟩

theorem State.saveSector_keepsFrame (j : SaveJob) (area : Nat) (rest : List Nat) (s : State) :
    s.KeepsFrame (s.saveSector j area rest) := by
  unfold State.saveSector
  simp only
  split <;> exact ⟨rfl, rfl, rfl, rfl, rfl⟩

theorem State.grantUpload_keepsFrame (u : Upload) (rest : List Upload) (s : State) :
    s.KeepsFrame (s.grantUpload u rest) := by
  unfold State.grantUpload
  simp only
  split <;> exact ⟨rfl, rfl, rfl, rfl, rfl⟩

/-! ### The table commands -/

theorem State.openStage_keepsFrame (s : State) : s.KeepsFrame s.openStage := by
  unfold State.openStage
  split
  · exact .enter _ s
  · exact .refuse _ _ _ _ s

theorem State.writeTable_keepsFrame (w : TableWriteCmd) (s : State) : s.KeepsFrame (s.writeTable w) := by
  have hrefuse : ∀ why tb i, s.KeepsFrame (s.refuse 0x11 why tb i) := fun why tb i => .refuse _ why tb i s
  unfold State.writeTable
  split
  · exact hrefuse ..
  · split
    · exact hrefuse ..
    · split
      · exact hrefuse ..
      · split
        · exact hrefuse ..
        · split
          · exact hrefuse ..
          · exact .setStaging _ s

theorem State.armFlip_keepsFrame (f : FlipArmCmd) (s : State) : s.KeepsFrame (s.armFlip f) := by
  have hrefuse : ∀ why, s.KeepsFrame (s.refuse 0x12 why 0 0) := fun why => .refuse _ why 0 0 s
  have harmed : s.KeepsFrame { s with scene := { s.scene with armed := some f.record } } :=
    ⟨rfl, rfl, rfl, rfl, rfl⟩
  unfold State.armFlip
  split
  · exact hrefuse _
  · split
    · exact hrefuse _
    · split
      · exact hrefuse _
      · simp only
        split
        · exact harmed.trans (State.enterArmed_keepsFrame _)
        · exact harmed.trans (.enter _ _)

theorem State.cancelFlip_keepsFrame (s : State) : s.KeepsFrame s.cancelFlip := by
  unfold State.cancelFlip
  cases s.scene.phase with
  | draining | armedLocal | armedGroup => exact .disarm _ s
  | committed => exact .refuse _ _ _ _ s
  | editing | settled | seeding | saving | recalling => exact .refl s

theorem State.discardStage_keepsFrame (s : State) : s.KeepsFrame s.discardStage := by
  unfold State.discardStage
  cases s.scene.phase with
  | draining | armedLocal | armedGroup | editing => exact .disarm _ s
  | committed | settled | seeding | saving | recalling => exact .refl s

theorem State.writeConfig_keepsFrame (mask : Nat) (data : List Byte) (s : State) :
    s.KeepsFrame (s.writeConfig mask data) := by
  unfold State.writeConfig
  split <;> exact ⟨rfl, rfl, rfl, rfl, rfl⟩

theorem State.startSave_keepsFrame (s : State) : s.KeepsFrame s.startSave := by
  unfold State.startSave
  split
  · exact .refuse _ _ _ _ s
  · split
    · exact .refuse _ _ _ _ s
    · split
      · exact .refuse _ _ _ _ s
      · split
        · exact .refuse _ _ _ _ s
        · exact ⟨rfl, rfl, rfl, rfl, rfl⟩

theorem State.startRecall_keepsFrame (s : State) : s.KeepsFrame s.startRecall := by
  unfold State.startRecall
  split
  · exact .refuse _ _ _ _ s
  · split
    · exact .refuse _ _ _ _ s
    · exact (State.KeepsFrame.setStaging _ s).trans ⟨rfl, rfl, rfl, rfl, rfl⟩

theorem State.startProtect_keepsFrame (named : BitVec 16) (s : State) : s.KeepsFrame (s.startProtect named) := by
  unfold State.startProtect
  split
  · exact .refuse _ _ _ _ s
  · split <;> exact ⟨rfl, rfl, rfl, rfl, rfl⟩

/-! ### The receiver and the raster -/

theorem dispatch_keepsFrame (k : Packet) (s : State) : s.KeepsFrame (dispatch k s) := by
  rcases dispatch_cases k s with ⟨c, -, -, h⟩ | ⟨c, -, -, h⟩ | ⟨u, -, -, h⟩ | ⟨r, -, -, h⟩ | ⟨f, h⟩ <;>
    rw [h] <;> exact ⟨rfl, rfl, rfl, rfl, rfl⟩

theorem State.receiveControl_keepsFrame (f : InFrame) (cols : List Rgb) (s : State) :
    s.KeepsFrame (s.receiveControl f cols) := by
  unfold State.receiveControl
  simp only
  split
  · exact ⟨rfl, rfl, rfl, rfl, rfl⟩
  · split
    · exact ⟨rfl, rfl, rfl, rfl, rfl⟩
    · exact parseFrom_keeps (P := s.KeepsFrame) (fun f u hu => hu.trans (.raise f u))
        (fun k u hu => hu.trans (dispatch_keepsFrame k u)) _ _ ⟨rfl, rfl, rfl, rfl, rfl⟩

theorem State.blankIfInput_keepsFrame (s : State) : s.KeepsFrame s.blankIfInput := by
  obtain ⟨p, h⟩ := s.blankIfInput_eq
  rw [h]
  exact ⟨rfl, rfl, rfl, rfl, rfl⟩

theorem State.mix_keepsFrame (y : Nat) (background : List Rgb) (s : State) :
    s.KeepsFrame (s.mix y background) := by
  rw [State.mix_eq]
  exact ⟨rfl, rfl, rfl, rfl, rfl⟩

theorem State.judgeFrame_keepsFrame (s : State) : s.KeepsFrame s.judgeFrame := by
  obtain ⟨v, h⟩ := s.judgeFrame_eq
  rw [h]
  exact ⟨rfl, rfl, rfl, rfl, rfl⟩

/-! ### The steps of the builder -/

/-- All that can befall the builder and its frame view: what leaves both alone, the frame closed (R45), the view frozen
at scene settled (R46), the builder's work (R48), a line deadline (R62 to R64), a ring entry freed (R60), and a fill
completion that the builder waits for (R102). -/
inductive State.OverlayStep (s : State) : State → Prop where
  | keeps {t : State} (h : s.KeepsFrame t) : s.OverlayStep t
  | close {t : State} (h : t.builder = .atReset) : s.OverlayStep t
  | freeze {u : State} (h : u.builder = s.builder) : s.OverlayStep u.freezeView
  | build : s.OverlayStep s.build
  | deadline (y : Nat) : s.OverlayStep (s.deadline y)
  | free (y : Nat) : s.OverlayStep (s.freeLineBefore y)
  | wake (tile sector : Nat) : s.OverlayStep (s.wake tile sector)

/-- Any number of such steps. -/
abbrev State.OverlaySteps : State → State → Prop := Relation.ReflTransGen State.OverlayStep

theorem State.KeepsFrame.overlaySteps {s t : State} (h : s.KeepsFrame t) : s.OverlaySteps t := .single (.keeps h)

/-- A law that each of these steps keeps, any number of them keeps. -/
theorem State.OverlaySteps.invariant {P : State → Prop} (hP : ∀ {s t : State}, s.OverlayStep t → P s → P t)
    {s t : State} (h : s.OverlaySteps t) (hs : P s) : P t := by
  induction h with
  | refl => exact hs
  | tail _ hlast ih => exact hP hlast ih

/-- Scene settled on a state with the builder of the one before freezes the view and goes on building (R46). -/
theorem State.settleScene_overlaySteps {s u : State} (h : u.builder = s.builder) :
    s.OverlaySteps u.settleScene := by
  have hpacket : u.completeStatus.builder = s.builder := by
    unfold State.completeStatus
    split <;> exact h
  exact (Relation.ReflTransGen.single (.freeze hpacket)).tail .build

/-- An output frame start closes the frame before, whatever it held, and may freeze the next frame's view. -/
theorem State.outputFrameStart_overlaySteps (src : Source) (s u : State) :
    s.OverlaySteps (u.outputFrameStart src) := by
  have hclosed : s.OverlayStep (u.beginFrame src) := .close (u.beginFrame_builder src)
  rcases u.outputFrameStart_cases src with ⟨-, h⟩ | ⟨-, h⟩ <;> rw [h]
  · exact .single hclosed
  · exact (State.settleScene_overlaySteps rfl).head hclosed

/-- The hold timer's pop moves page and threshold, and scene settled freezes them anew (R136). -/
theorem State.settleHold_overlaySteps (s : State) : s.OverlaySteps s.settleHold := by
  unfold State.settleHold
  split
  · exact State.settleScene_overlaySteps s.holdPop_controlsTo.builder
  · exact .refl

/-- An output line start: the line's deadline, its mixing, a ring entry freed, the builder's work, the clocks (R15). -/
theorem State.outputLineStart_overlaySteps (background : List Rgb) (s : State) :
    s.OverlaySteps (s.outputLineStart background) := by
  have hcompose : s.OverlaySteps (s.composeLine background) :=
    (((Relation.ReflTransGen.single (.deadline s.raster.nextLine)).tail
      (.keeps (State.mix_keepsFrame s.raster.nextLine background _))).tail
        (.free s.raster.nextLine)).tail .build
  rw [State.outputLineStart_eq]
  refine hcompose.tail (.keeps (State.KeepsFrame.trans ?_ (State.clockLine_keepsFrame _)))
  exact ⟨rfl, rfl, rfl, rfl, rfl⟩

theorem State.completeFill_overlaySteps (r : GrantedRead) (rest : List GrantedRead) (s : State) :
    s.OverlaySteps (s.completeFill r rest) := by
  have hcache : s.KeepsFrame { s with cache := s.cache.complete r rest } := ⟨rfl, rfl, rfl, rfl, rfl⟩
  exact (hcache.overlaySteps.tail (.wake r.tile r.sector)).tail .build

/-- What stands before a command, in these steps (log 4). -/
theorem State.Before.overlaySteps {s u : State} (h : s.Before u) : s.OverlaySteps u := by
  have hload := s.settleLoad_keepsFrame
  cases h with
  | settleLoad => exact hload.overlaySteps
  | prelude =>
    have hhold := hload.overlaySteps.trans (State.settleHold_overlaySteps _)
    exact hhold.tail (.keeps ((State.settleCounters_keepsFrame _).trans (State.background_keepsFrame _)))
  | rasterPrelude =>
    exact ((hload.trans (State.settleCounters_keepsFrame _)).trans (State.background_keepsFrame _)).overlaySteps

end Sys2Proof.Machine

/-! SUPPORT. Every command, as steps of the overlay builder behind what stands before it; the law of the frame view. -/

namespace Sys2Proof.Machine

/-! ### The commands of the table queue -/

theorem execStageOpen_keepsFrame {s t : State} (h : execStageOpen s = .next t) : s.prelude.KeepsFrame t := by
  unfold execStageOpen at h
  generalize s.prelude = u at h ⊢
  simp only at h
  split at h <;> cases h
  · exact (State.KeepsFrame.takeHead u).trans (State.openStage_keepsFrame _)
  · exact .refl _

theorem execTableWrite_keepsFrame {s t : State} (h : execTableWrite s = .next t) : s.prelude.KeepsFrame t := by
  unfold execTableWrite at h
  generalize s.prelude = u at h ⊢
  simp only at h
  split at h <;> cases h
  · exact (State.KeepsFrame.takeHead u).trans (State.writeTable_keepsFrame _ _)
  · exact .refl _

theorem execFlipArm_keepsFrame {s t : State} (h : execFlipArm s = .next t) : s.prelude.KeepsFrame t := by
  unfold execFlipArm at h
  generalize s.prelude = u at h ⊢
  simp only at h
  split at h <;> cases h
  · exact (State.KeepsFrame.takeHead u).trans (State.armFlip_keepsFrame _ _)
  · exact .refl _

theorem execFlipCancel_keepsFrame {s t : State} (h : execFlipCancel s = .next t) : s.prelude.KeepsFrame t := by
  unfold execFlipCancel at h
  generalize s.prelude = u at h ⊢
  simp only at h
  split at h <;> cases h
  · exact (State.KeepsFrame.takeHead u).trans (State.cancelFlip_keepsFrame _)
  · exact .refl _

theorem execStageDiscard_keepsFrame {s t : State} (h : execStageDiscard s = .next t) :
    s.prelude.KeepsFrame t := by
  unfold execStageDiscard at h
  generalize s.prelude = u at h ⊢
  simp only at h
  split at h <;> cases h
  · exact (State.KeepsFrame.takeHead u).trans (State.discardStage_keepsFrame _)
  · exact .refl _

theorem execConfigWrite_keepsFrame {s t : State} (h : execConfigWrite s = .next t) : s.prelude.KeepsFrame t := by
  unfold execConfigWrite at h
  generalize s.prelude = u at h ⊢
  simp only at h
  split at h <;> cases h
  · exact (State.KeepsFrame.takeHead u).trans (State.writeConfig_keepsFrame _ _ _)
  · exact .refl _

theorem execStoreSave_keepsFrame {s t : State} (h : execStoreSave s = .next t) : s.prelude.KeepsFrame t := by
  unfold execStoreSave at h
  generalize s.prelude = u at h ⊢
  simp only at h
  split at h <;> cases h
  · exact (State.KeepsFrame.takeHead u).trans (State.startSave_keepsFrame _)
  · exact .refl _

theorem execStoreRecall_keepsFrame {s t : State} (h : execStoreRecall s = .next t) : s.prelude.KeepsFrame t := by
  unfold execStoreRecall at h
  generalize s.prelude = u at h ⊢
  simp only at h
  split at h <;> cases h
  · exact (State.KeepsFrame.takeHead u).trans (State.startRecall_keepsFrame _)
  · exact .refl _

theorem execStoreProtect_keepsFrame {s t : State} (h : execStoreProtect s = .next t) :
    s.prelude.KeepsFrame t := by
  unfold execStoreProtect at h
  generalize s.prelude = u at h ⊢
  simp only at h
  split at h <;> cases h
  · exact (State.KeepsFrame.takeHead u).trans (State.startProtect_keepsFrame _ _)
  · exact .refl _

/-! ### The library and the ends of the store controller's operations -/

theorem execFillGrant_keepsFrame {s t : State} (h : execFillGrant s = .next t) : s.prelude.KeepsFrame t := by
  unfold execFillGrant at h
  generalize s.prelude = u at h ⊢
  simp only at h
  split at h <;> cases h <;> exact ⟨rfl, rfl, rfl, rfl, rfl⟩

theorem execTileWrite_keepsFrame {s t : State} (h : execTileWrite s = .next t) : s.prelude.KeepsFrame t := by
  unfold execTileWrite at h
  generalize s.prelude = u at h ⊢
  simp only at h
  split at h
  · split at h <;> cases h
    · exact State.grantUpload_keepsFrame ..
    · exact .refl _
  · cases h
    exact .refl _

theorem execSaveReadGrant_keepsFrame {s t : State} (h : execSaveReadGrant s = .next t) :
    s.prelude.KeepsFrame t := by
  unfold execSaveReadGrant at h
  generalize s.prelude = u at h ⊢
  simp only at h
  split at h
  · split at h
    · cases h
      exact .refl _
    · split at h <;> cases h
      · exact State.saveSector_keepsFrame ..
      · exact .refl _
  · cases h
    exact .refl _

/-- The seed copy writes staging, and the save or the editing that begins with it moves phase and store (R122, R176). -/
theorem execSeedCompletion_keepsFrame {s t : State} (h : execSeedCompletion s = .next t) :
    s.prelude.KeepsFrame t := by
  unfold execSeedCompletion at h
  generalize s.prelude = u at h ⊢
  have hseed : u.KeepsFrame u.seedCopy := .setStaging _ u
  simp only at h
  split at h
  · cases h
    exact hseed.trans (.enter _ _)
  · split at h <;> cases h
    · exact .refl _
    · exact hseed.trans ⟨rfl, rfl, rfl, rfl, rfl⟩
  · cases h
    exact .refl _

theorem execSaveCompletion_keepsFrame {s t : State} (h : execSaveCompletion s = .next t) :
    s.prelude.KeepsFrame t := by
  unfold execSaveCompletion at h
  generalize s.prelude = u at h ⊢
  simp only at h
  split at h
  · split at h <;> cases h <;> exact ⟨rfl, rfl, rfl, rfl, rfl⟩
  · cases h
    exact .refl _

theorem execRecallCompletion_keepsFrame {s t : State} (h : execRecallCompletion s = .next t) :
    s.prelude.KeepsFrame t := by
  unfold execRecallCompletion at h
  generalize s.prelude = u at h ⊢
  simp only at h
  split at h <;> cases h
  · exact u.recallEnds_keepsFrame
  · exact .refl _

theorem execStoreReadCompletion_keepsFrame {s t : State} (h : execStoreReadCompletion s = .next t) :
    s.prelude.KeepsFrame t := by
  unfold execStoreReadCompletion at h
  generalize s.prelude = u at h ⊢
  simp only at h
  split at h <;> cases h <;> exact ⟨rfl, rfl, rfl, rfl, rfl⟩

/-! ### The raster's lines that start no output line -/

theorem execControlLine_keepsFrame {cols : List Rgb} {s t : State} (h : execControlLine cols s = .next t) :
    s.rasterPrelude.KeepsFrame t := by
  unfold execControlLine at h
  generalize s.rasterPrelude = u at h ⊢
  simp only at h
  split at h <;> cases h
  · exact .refl _
  · exact (State.receiveControl_keepsFrame _ _ _).trans (State.blankIfInput_keepsFrame _)

theorem execBlankingLine_keepsFrame {s t : State} (h : execBlankingLine s = .next t) :
    s.rasterPrelude.KeepsFrame t := by
  unfold execBlankingLine at h
  generalize s.rasterPrelude = u at h ⊢
  simp only at h
  split at h <;> cases h
  · exact .refl _
  · exact State.blankIfInput_keepsFrame _

theorem execFallbackBlankingLinePeriod_keepsFrame {s t : State}
    (h : execFallbackBlankingLinePeriod s = .next t) : s.rasterPrelude.KeepsFrame t := by
  unfold execFallbackBlankingLinePeriod at h
  generalize s.rasterPrelude = u at h ⊢
  simp only at h
  split at h <;> cases h <;> exact ⟨rfl, rfl, rfl, rfl, rfl⟩

/-! ### The commands at which the builder works or its frame changes -/

theorem execFillCompletion_overlaySteps {s t : State} (h : execFillCompletion s = .next t) :
    s.prelude.OverlaySteps t := by
  unfold execFillCompletion at h
  generalize s.prelude = u at h ⊢
  simp only at h
  split at h <;> cases h
  · exact .refl
  · exact State.completeFill_overlaySteps _ _ _

theorem execActiveLine_overlaySteps {cols : List Rgb} {flip : Bool} {s t : State}
    (h : execActiveLine cols flip s = .next t) : s.rasterPrelude.OverlaySteps t := by
  unfold execActiveLine at h
  generalize s.rasterPrelude = u at h ⊢
  simp only at h
  split at h
  · cases h
    exact State.KeepsFrame.overlaySteps ⟨rfl, rfl, rfl, rfl, rfl⟩
  · rename_i f _
    have hmeas : u.KeepsFrame ((u.seeFlip flip).measureLine f cols.length) := ⟨rfl, rfl, rfl, rfl, rfl⟩
    split at h <;> cases h
    · exact hmeas.overlaySteps.trans (State.outputLineStart_overlaySteps _ _)
    · exact hmeas.overlaySteps

theorem execFallbackLineStart_overlaySteps {flip : Bool} {s t : State}
    (h : execFallbackLineStart flip s = .next t) : s.rasterPrelude.OverlaySteps t := by
  unfold execFallbackLineStart at h
  generalize s.rasterPrelude = u at h ⊢
  simp only at h
  split at h <;> cases h
  · exact State.KeepsFrame.overlaySteps ⟨rfl, rfl, rfl, rfl, rfl⟩
  · refine Relation.ReflTransGen.trans (State.KeepsFrame.overlaySteps ?_) (State.outputLineStart_overlaySteps _ _)
    exact ⟨rfl, rfl, rfl, rfl, rfl⟩

theorem execFallbackFrameStart_overlaySteps {ready : Bool} {s t : State}
    (h : execFallbackFrameStart ready s = .next t) : s.rasterPrelude.OverlaySteps t := by
  unfold execFallbackFrameStart at h
  generalize s.rasterPrelude = u at h ⊢
  simp only at h
  split at h <;> cases h
  · exact State.KeepsFrame.overlaySteps ⟨rfl, rfl, rfl, rfl, rfl⟩
  · exact State.outputFrameStart_overlaySteps _ _ _

theorem execLossIntervalExpiry_overlaySteps {ready : Bool} {s t : State}
    (h : execLossIntervalExpiry ready s = .next t) : s.rasterPrelude.OverlaySteps t := by
  unfold execLossIntervalExpiry at h
  generalize s.rasterPrelude = u at h ⊢
  simp only at h
  split at h <;> cases h
  · exact State.KeepsFrame.overlaySteps ⟨rfl, rfl, rfl, rfl, rfl⟩
  · cases hlock : (u.seeReady ready).raster.lock.follows
    · rw [State.loseInput_of_not_follows hlock]
      exact State.KeepsFrame.overlaySteps ⟨rfl, rfl, rfl, rfl, rfl⟩
    · rw [State.loseInput_of_follows hlock]
      exact State.outputFrameStart_overlaySteps _ _ _

theorem execInputFrameStart_overlaySteps {ready : Bool} {s t : State}
    (h : execInputFrameStart ready s = .next t) : s.rasterPrelude.OverlaySteps t := by
  unfold execInputFrameStart at h
  generalize s.rasterPrelude = u at h ⊢
  cases h
  unfold State.inputFrameOutput
  split
  · exact State.outputFrameStart_overlaySteps _ _ _
  · split
    · exact State.outputFrameStart_overlaySteps _ _ _
    · have hseen : u.KeepsFrame (u.seeReady ready) := ⟨rfl, rfl, rfl, rfl, rfl⟩
      exact (hseen.trans (State.judgeFrame_keepsFrame _)).overlaySteps

theorem execLoadCompletion_overlaySteps {s t : State} (h : execLoadCompletion s = .next t) :
    s.OverlaySteps t := by
  have hpre : s.OverlaySteps s.prelude := State.Before.prelude.overlaySteps
  unfold execLoadCompletion at h
  generalize s.prelude = u at h hpre
  split at h
  · cases h
    exact s.settleLoad_keepsFrame.overlaySteps
  · simp only at h
    split at h <;> cases h
    · exact hpre.tail (.keeps u.loadEnds_keepsFrame)
    · exact hpre

theorem execPowerOn_overlaySteps {p : Straps} {s t : State} (h : execPowerOn p s = .next t) :
    s.OverlaySteps t := by
  obtain ⟨u, rfl⟩ := execPowerOn_resets h
  exact State.outputFrameStart_overlaySteps _ _ _

theorem execRestart_overlaySteps {s t : State} (h : execRestart s = .next t) :
    s.rasterPrelude.OverlaySteps t := by
  unfold execRestart at h
  generalize s.rasterPrelude = u at h ⊢
  simp only at h
  split at h <;> cases h
  · exact State.outputFrameStart_overlaySteps _ _ _
  · exact .refl

/-- Every command is a sequence of the builder's steps. -/
theorem exec_overlaySteps {c : Instr} {s t : State} (h : exec c s = .next t) : s.OverlaySteps t := by
  have hload := s.settleLoad_keepsFrame
  have hpre : s.OverlaySteps s.prelude := State.Before.prelude.overlaySteps
  have hraster : s.OverlaySteps s.rasterPrelude := State.Before.rasterPrelude.overlaySteps
  unfold exec at h
  cases c with
  | powerOn p => exact execPowerOn_overlaySteps h
  | restart => exact hraster.trans (execRestart_overlaySteps h)
  | loadCompletion => exact execLoadCompletion_overlaySteps h
  | inputFrameStart ready => exact hraster.trans (execInputFrameStart_overlaySteps h)
  | lossIntervalExpiry ready => exact hraster.trans (execLossIntervalExpiry_overlaySteps h)
  | fallbackFrameStart ready => exact hraster.trans (execFallbackFrameStart_overlaySteps h)
  | activeLine cols flip => exact hraster.trans (execActiveLine_overlaySteps h)
  | fallbackLineStart flip => exact hraster.trans (execFallbackLineStart_overlaySteps h)
  | controlLine cols => exact hraster.tail (.keeps (execControlLine_keepsFrame h))
  | blankingLine => exact hraster.tail (.keeps (execBlankingLine_keepsFrame h))
  | fallbackBlankingLinePeriod => exact hraster.tail (.keeps (execFallbackBlankingLinePeriod_keepsFrame h))
  | fillCompletion => exact hpre.trans (execFillCompletion_overlaySteps h)
  | fillGrant => exact hpre.tail (.keeps (execFillGrant_keepsFrame h))
  | tileWrite => exact hpre.tail (.keeps (execTileWrite_keepsFrame h))
  | saveReadGrant => exact hpre.tail (.keeps (execSaveReadGrant_keepsFrame h))
  | stageOpen => exact hpre.tail (.keeps (execStageOpen_keepsFrame h))
  | seedCompletion => exact hpre.tail (.keeps (execSeedCompletion_keepsFrame h))
  | tableWrite => exact hpre.tail (.keeps (execTableWrite_keepsFrame h))
  | flipArm => exact hpre.tail (.keeps (execFlipArm_keepsFrame h))
  | flipCancel => exact hpre.tail (.keeps (execFlipCancel_keepsFrame h))
  | stageDiscard => exact hpre.tail (.keeps (execStageDiscard_keepsFrame h))
  | configWrite => exact hpre.tail (.keeps (execConfigWrite_keepsFrame h))
  | storeSave => exact hpre.tail (.keeps (execStoreSave_keepsFrame h))
  | saveCompletion => exact hpre.tail (.keeps (execSaveCompletion_keepsFrame h))
  | storeRecall => exact hpre.tail (.keeps (execStoreRecall_keepsFrame h))
  | recallCompletion => exact hpre.tail (.keeps (execRecallCompletion_keepsFrame h))
  | storeProtect => exact hpre.tail (.keeps (execStoreProtect_keepsFrame h))
  | storeReadCompletion => exact hpre.tail (.keeps (execStoreReadCompletion_keepsFrame h))
  | protectProgramCompletion =>
    cases h
    exact hpre.tail (.keeps (State.protectEnds_keepsFrame _))
  | storeProgramTimeout =>
    cases h
    exact hpre.tail (.keeps (State.programTimeout_keepsFrame _))
  | pageHoldExpiry =>
    cases h
    exact hload.overlaySteps.trans (State.settleHold_overlaySteps _)
  | uploadsAheadDrained =>
    cases h
    exact (hload.trans (State.settleDrained_keepsFrame _)).overlaySteps
  | creditWindowRestart =>
    cases h
    exact (hload.trans (State.settleCredit_keepsFrame _)).overlaySteps
  | leaderWindowEnd =>
    cases h
    exact (hload.trans (State.settleLeaderWindow_keepsFrame _)).overlaySteps
  | memberWindowEnd =>
    cases h
    exact (hload.trans (State.settleMemberWindow_keepsFrame _)).overlaySteps
  | pulseEnd =>
    cases h
    exact (hload.trans (State.settlePulse_keepsFrame _)).overlaySteps

/-- Every step of the part is a sequence of the builder's steps. -/
theorem step_overlaySteps {s t : State} (h : step s = .next t) : s.OverlaySteps t := by
  rcases step_cases s t h with ⟨-, rfl⟩ | ⟨c, rest, -, hexec⟩
  · exact .refl
  · have hrest : s.KeepsFrame { s with pending := rest } := ⟨rfl, rfl, rfl, rfl, rfl⟩
    exact hrest.overlaySteps.trans (exec_overlaySteps hexec)

/-! ### O11: the frame view -/

theorem State.KeepsFrame.viewLaw {s t : State} (h : s.KeepsFrame t) (hs : s.viewLaw) : t.viewLaw := by
  intro v hv
  rw [h.builder] at hv
  rw [h.active, h.page, h.threshold, h.record]
  exact hs v hv

/-- The builder's work moves neither the view nor anything that it names. -/
theorem State.BuildsTo.viewLaw {s t : State} (h : s.BuildsTo t) (hs : s.viewLaw) : t.viewLaw := by
  intro v hv
  rw [h.view] at hv
  rw [h.tables, h.scene, h.raster]
  exact hs v hv

theorem State.OverlayStep.viewLaw {s t : State} (h : s.OverlayStep t) (hs : s.viewLaw) : t.viewLaw := by
  cases h with
  | keeps h => exact h.viewLaw hs
  | close h =>
    intro v hv
    rw [h] at hv
    cases hv
  | freeze h =>
    intro v hv
    cases hv
    exact ⟨rfl, rfl, rfl, rfl, rfl⟩
  | build => exact s.build_buildsTo.viewLaw hs
  | deadline y => exact (s.deadline_buildsTo y).viewLaw hs
  | free y => exact (s.freeLineBefore_buildsTo y).viewLaw hs
  | wake tile sector => exact (s.wake_buildsTo tile sector).viewLaw hs

/-- Settles O11: each of the steps that a command is made of leaves the view and what it names, drops it, or freezes it
anew. -/
theorem frameViewIsTheActiveBank : Obligations.FrameViewIsTheActiveBank :=
  fun _ _ hs h => (step_overlaySteps h).invariant State.OverlayStep.viewLaw hs

end Sys2Proof.Machine

/-! SUPPORT. The placing of samples, pixel by pixel, and the laws of line list, ring and slots. -/

namespace Sys2Proof.Machine

/-! ### The pixels of a line -/

theorem pixelAt_setPixel (px : List (Nat × Pixel)) (x y : Nat) (p : Pixel) :
    pixelAt (setPixel px x p) y = if y = x then p else pixelAt px y := by
  induction px with
  | nil => simp [setPixel, pixelAt]
  | cons kq rest ih =>
    obtain ⟨k, q⟩ := kq
    rw [setPixel]
    split
    · rw [pixelAt]
    · split
      · rename_i hk
        subst hk
        simp only [pixelAt]
        split <;> rfl
      · simp only [pixelAt, ih]
        split
        · rw [if_neg (by omega)]
        · rfl

theorem mem_setPixel {px : List (Nat × Pixel)} {x : Nat} {p : Pixel} {q : Nat × Pixel}
    (h : q ∈ setPixel px x p) : q = (x, p) ∨ q ∈ px := by
  induction px with
  | nil => exact .inl (List.mem_singleton.1 h)
  | cons kr rest ih =>
    obtain ⟨k, r⟩ := kr
    rw [setPixel] at h
    split at h
    · exact List.mem_cons.1 h
    · split at h
      · exact (List.mem_cons.1 h).imp_right (List.mem_cons_of_mem _)
      · rcases List.mem_cons.1 h with rfl | h
        · exact .inr List.mem_cons_self
        · exact (ih h).imp_right (List.mem_cons_of_mem _)

/-- What holds of every pixel listed, and of an empty one, holds of the pixel of any column. -/
theorem pixelAt_of_forall {P : Pixel → Prop} {px : List (Nat × Pixel)} (hfresh : P .fresh)
    (h : ∀ q ∈ px, P q.2) (x : Nat) : P (pixelAt px x) := by
  induction px with
  | nil => exact hfresh
  | cons kq rest ih =>
    obtain ⟨k, q⟩ := kq
    rw [pixelAt]
    split
    · exact h _ List.mem_cons_self
    · exact ih fun q hq => h q (List.mem_cons_of_mem _ hq)

/-! ### The ring -/

theorem ringPixels_cons (e : RingEntry) (ring : List RingEntry) (line : Nat) :
    ringPixels (e :: ring) line = if e.line = line then e.pixels else ringPixels ring line := by
  by_cases h : e.line = line <;> simp [ringPixels, h]

/-- The pixels of one line changed, every other line of the ring as it was. -/
def ringMap (f : List (Nat × Pixel) → List (Nat × Pixel)) (line : Nat) (ring : List RingEntry) : List RingEntry :=
  ring.map fun e => if e.line = line then { e with pixels := f e.pixels } else e

theorem ringMap_cons (f : List (Nat × Pixel) → List (Nat × Pixel)) (line : Nat) (e : RingEntry)
    (ring : List RingEntry) :
    ringMap f line (e :: ring) =
      (if e.line = line then { e with pixels := f e.pixels } else e) :: ringMap f line ring := rfl

theorem ringPixels_ringMap_other (f : List (Nat × Pixel) → List (Nat × Pixel)) {line line' : Nat}
    (h : line' ≠ line) (ring : List RingEntry) :
    ringPixels (ringMap f line ring) line' = ringPixels ring line' := by
  induction ring with
  | nil => rfl
  | cons e ring ih =>
    rw [ringMap_cons, ringPixels_cons, ringPixels_cons, ih]
    by_cases hline : e.line = line
    · have hother : e.line ≠ line' := fun h' => h (h'.symm.trans hline)
      simp only [hline, if_true]
      rw [if_neg (hline ▸ hother), if_neg (hline ▸ hother)]
    · rw [if_neg hline]

theorem ringPixels_ringMap_same (f : List (Nat × Pixel) → List (Nat × Pixel)) {line : Nat}
    {ring : List RingEntry} (h : ∃ e ∈ ring, e.line = line) :
    ringPixels (ringMap f line ring) line = f (ringPixels ring line) := by
  induction ring with
  | nil => simp at h
  | cons e ring ih =>
    rw [ringMap_cons, ringPixels_cons, ringPixels_cons]
    by_cases hline : e.line = line
    · simp only [hline, if_true]
    · have hrest : ∃ e ∈ ring, e.line = line := by simpa [hline] using h
      simp only [hline, if_false]
      exact ih hrest

theorem ringMap_lines (f : List (Nat × Pixel) → List (Nat × Pixel)) (line : Nat) (ring : List RingEntry) :
    (ringMap f line ring).map (·.line) = ring.map (·.line) := by
  simp only [ringMap, List.map_map]
  refine List.map_congr_left fun e _ => ?_
  simp only [Function.comp_apply]
  split <;> rfl

/-- A line stays in the ring when pixels are changed. -/
theorem exists_line_ringMap (f : List (Nat × Pixel) → List (Nat × Pixel)) (line line' : Nat)
    (ring : List RingEntry) : (∃ e ∈ ringMap f line ring, e.line = line') ↔ ∃ e ∈ ring, e.line = line' := by
  have h := congrArg (line' ∈ ·) (ringMap_lines f line ring)
  simpa using h

theorem ringSet_eq (ring : List RingEntry) (line x : Nat) (p : Pixel) :
    ringSet ring line x p = ringMap (setPixel · x p) line ring := rfl

/-! ### Placing a sample (R58) -/

/-- The pixel behind the placement rule. -/
def placedPixel (m : Sample) (p : Pixel) : Pixel :=
  match placing m p with
  | .placed q => q
  | .none | .clipped => p

theorem placing_zero {m : Sample} (hm : m.coverage = 0) (p : Pixel) : placing m p = .none := by
  simp [placing, hm]

theorem placing_closed {p : Pixel} (hp : p.closed = true) (m : Sample) : placing m p = .none := by
  simp [placing, hp]

theorem placing_full {m : Sample} {p : Pixel} (hm : m.coverage ≠ 0) (hp : p.closed = false)
    (hfull : 4 ≤ p.slots.length) : placing m p = .clipped := by
  rw [placing, if_neg hm, if_neg (by simp [hp]), if_pos hfull]

theorem placing_free {m : Sample} {p : Pixel} (hm : m.coverage ≠ 0) (hp : p.closed = false)
    (hfree : p.slots.length < 4) : placing m p = .placed ⟨p.slots ++ [m], m.coverage == 255⟩ := by
  rw [placing, if_neg hm, if_neg (by simp [hp]), if_neg (by omega)]

/-- Where the ring holds the line, a placed sample changes the one pixel by the placement rule and no other. -/
theorem State.place_pixelAt {s : State} {line : Nat} (hline : ∃ e ∈ s.builder.ring, e.line = line)
    (x : Nat) (m : Sample) (line' x' : Nat) :
    pixelAt (ringPixels (s.place line x m).builder.ring line') x' =
      if line' = line ∧ x' = x then placedPixel m (pixelAt (ringPixels s.builder.ring line) x)
      else pixelAt (ringPixels s.builder.ring line') x' := by
  have hsame : placedPixel m (pixelAt (ringPixels s.builder.ring line) x) =
        pixelAt (ringPixels s.builder.ring line) x →
      pixelAt (ringPixels s.builder.ring line') x' =
        if line' = line ∧ x' = x then placedPixel m (pixelAt (ringPixels s.builder.ring line) x)
        else pixelAt (ringPixels s.builder.ring line') x' := by
    intro hpixel
    split
    · rename_i h
      rw [h.1, h.2, hpixel]
    · rfl
  cases hplace : placing m (pixelAt (ringPixels s.builder.ring line) x) with
  | none =>
    rw [State.place, hplace]
    exact hsame (by rw [placedPixel, hplace])
  | clipped =>
    rw [State.place, hplace]
    exact hsame (by rw [placedPixel, hplace])
  | placed p =>
    have hpixel : placedPixel m (pixelAt (ringPixels s.builder.ring line) x) = p := by rw [placedPixel, hplace]
    rw [State.place, hplace, hpixel]
    simp only [ringSet_eq]
    by_cases hl : line' = line
    · subst hl
      rw [ringPixels_ringMap_same _ hline, pixelAt_setPixel]
      simp only [true_and]
    · rw [ringPixels_ringMap_other _ hl, if_neg (fun h => hl h.1)]

/-- A placed sample leaves every line of the ring in it. -/
theorem State.place_line (s : State) (line x : Nat) (m : Sample) (line' : Nat) :
    (∃ e ∈ (s.place line x m).builder.ring, e.line = line') ↔ ∃ e ∈ s.builder.ring, e.line = line' := by
  rcases s.place_cases line x m with h | h | ⟨p, -, h⟩ <;> rw [h]
  · rfl
  · exact exists_line_ringMap (setPixel · x p) line line' s.builder.ring

/-- A standby sample goes where an opaque sample of its colour would be placed (R63). -/
theorem standbyPixel_eq_placedPixel (colour : Rgb) (p : Pixel) :
    standbyPixel colour p = placedPixel ⟨colour, 255⟩ p := by
  have hopaque : (⟨colour, 255⟩ : Sample).coverage ≠ 0 := by simp
  unfold standbyPixel placedPixel
  by_cases hp : p.closed = true
  · rw [placing_closed hp, if_pos (.inl hp)]
  · rw [Bool.not_eq_true] at hp
    by_cases hfull : 4 ≤ p.slots.length
    · rw [placing_full hopaque hp hfull, if_pos (.inr hfull)]
    · rw [placing_free hopaque hp (by omega), if_neg (by simp [hp, hfull])]
      rfl

/-! ### Lawful pixels (R57, R58) -/

theorem Pixel.fresh_lawful : Pixel.fresh.lawful := by
  refine ⟨by decide, by rintro m ⟨⟩, by rintro m ⟨⟩, ?_⟩
  simp [Pixel.fresh]

/-- No sample of an open lawful pixel is opaque. -/
theorem Pixel.lawful.not_opaque {p : Pixel} (hp : p.lawful) (hopen : p.closed = false) :
    ∀ m ∈ p.slots, m.coverage ≠ 255 := by
  obtain ⟨-, -, hinner, hclosed⟩ := hp
  intro m hm hcov
  rcases List.eq_nil_or_concat p.slots with hnil | ⟨ms, last, hslots⟩
  · rw [hnil] at hm
    cases hm
  · rw [List.concat_eq_append] at hslots
    rw [hslots, List.mem_append, List.mem_singleton] at hm
    rcases hm with hm | rfl
    · exact hinner m (by rwa [hslots, List.dropLast_concat]) hcov
    · have : p.closed = true := hclosed.2 ⟨m, by simp [hslots], hcov⟩
      rw [hopen] at this
      cases this

/-- The placement rule keeps a pixel lawful. -/
theorem placedPixel_lawful (m : Sample) {p : Pixel} (hp : p.lawful) : (placedPixel m p).lawful := by
  unfold placedPixel
  split
  · rename_i q hq
    obtain ⟨hcov, hopen, hroom, rfl⟩ := placing_placed m p q hq
    have hnot := hp.not_opaque hopen
    obtain ⟨-, hnonzero, -, -⟩ := hp
    refine ⟨by simpa using hroom, fun n hn => ?_, fun n hn => ?_, by simp⟩
    · rcases List.mem_append.1 hn with hn | hn
      · exact hnonzero n hn
      · rwa [List.mem_singleton.1 hn]
    · rw [List.dropLast_concat] at hn
      exact hnot n hn
  · exact hp
  · exact hp

/-- Lawful pixels, column by column. -/
def pixelsLawful (px : List (Nat × Pixel)) : Prop := ∀ q ∈ px, q.2.lawful

theorem pixelsLawful.pixelAt {px : List (Nat × Pixel)} (h : pixelsLawful px) (x : Nat) : (pixelAt px x).lawful :=
  pixelAt_of_forall Pixel.fresh_lawful h x

theorem pixelsLawful.setPixel {px : List (Nat × Pixel)} (h : pixelsLawful px) (x : Nat) {p : Pixel}
    (hp : p.lawful) : pixelsLawful (setPixel px x p) := by
  intro q hq
  rcases mem_setPixel hq with rfl | hq
  · exact hp
  · exact h q hq

theorem pixelsLawful.standbyFill (colour : Rgb) (n x : Nat) {px : List (Nat × Pixel)} (h : pixelsLawful px) :
    pixelsLawful (standbyFill colour n x px) := by
  induction n generalizing x px with
  | zero => exact h
  | succ n ih =>
    rw [Machine.standbyFill]
    refine ih (x + 1) ?_
    split
    · exact h
    · refine h.setPixel x ?_
      rw [standbyPixel_eq_placedPixel]
      exact placedPixel_lawful _ (h.pixelAt x)

/-! ### A lawful ring (R60) -/

/-- At most 4 lines, every pixel of them lawful. -/
def ringLawful (ring : List RingEntry) : Prop := ring.length ≤ 4 ∧ ∀ e ∈ ring, pixelsLawful e.pixels

theorem State.builderLaw_iff (s : State) :
    s.builderLaw ↔ (∀ w, s.builder.work = some w → w.entries.length ≤ 32) ∧ ringLawful s.builder.ring := Iff.rfl

theorem ringLawful.ringPixels {ring : List RingEntry} (h : ringLawful ring) (line : Nat) :
    pixelsLawful (ringPixels ring line) := by
  unfold Machine.ringPixels
  split
  · rintro q ⟨⟩
  · rename_i e he
    exact h.2 e (List.mem_of_find?_eq_some he)

theorem ringLawful.ringMap {f : List (Nat × Pixel) → List (Nat × Pixel)} {ring : List RingEntry}
    (h : ringLawful ring) (hf : ∀ px, pixelsLawful px → pixelsLawful (f px)) (line : Nat) :
    ringLawful (ringMap f line ring) := by
  refine ⟨(List.length_map ..).trans_le h.1, fun e he => ?_⟩
  obtain ⟨e', he', rfl⟩ := List.mem_map.1 he
  split
  · exact hf _ (h.2 e' he')
  · exact h.2 e' he'

theorem State.place_ringLawful {s : State} (h : ringLawful s.builder.ring) (line x : Nat) (m : Sample) :
    ringLawful (s.place line x m).builder.ring := by
  rcases s.place_cases line x m with hs | hs | ⟨p, hp, hs⟩ <;> rw [hs]
  · exact h
  · exact h
  · have hplaced : p = placedPixel m (pixelAt (ringPixels s.builder.ring line) x) := by rw [placedPixel, hp]
    have hlawful : p.lawful := hplaced ▸ placedPixel_lawful m ((h.ringPixels line).pixelAt x)
    exact h.ringMap (fun px hpx => hpx.setPixel x hlawful) line

theorem placeAll_ringLawful (line x : Nat) (ms : List Sample) {s : State} (h : ringLawful s.builder.ring) :
    ringLawful (placeAll line x ms s).builder.ring := by
  induction ms generalizing s with
  | nil => exact h
  | cons m ms ih => exact ih (State.place_ringLawful h line x m)

/-- A sector read moves cache and reader alone (R99). -/
theorem State.fetch_builder (src : Option PixelSource) (s : State) :
    (s.fetch src).1.builder = { s.builder with reader := (s.fetch src).1.builder.reader } := by
  unfold State.fetch
  split
  · rfl
  · split <;> rfl

theorem produce_ringLawful (e : LineEntry) (line n x : Nat) {s : State} (h : ringLawful s.builder.ring) :
    ringLawful (produce e line n x s).1.builder.ring := by
  induction n generalizing x s with
  | zero => exact h
  | succ n ih =>
    have hfetch : ringLawful (s.fetch (e.source line x)).1.builder.ring := by
      rw [State.fetch_builder]
      exact h
    rw [produce]
    split
    · rename_i hr
      rwa [hr] at hfetch
    · rename_i hr
      rw [hr] at hfetch
      exact ih _ (placeAll_ringLawful _ _ _ hfetch)

theorem workEntry_ringLawful (line : Nat) (e : LineEntry) {s : State} (h : ringLawful s.builder.ring) :
    ringLawful (workEntry line e s).2.1.builder.ring := by
  unfold workEntry
  split
  · exact h
  · exact h
  · rename_i a b _ _
    have hmade := produce_ringLawful e line (b + 1 - a) a (s := s.readerIdle) h
    split <;> rename_i hp <;> rwa [hp] at hmade
  · rename_i next _ b _ _
    have hmade := produce_ringLawful e line (b + 1 - next) next h
    split <;> rename_i hp <;> rwa [hp] at hmade

/-- Work through a line list keeps the ring lawful and the list's length. -/
theorem workList_lawful (line : Nat) (es : List LineEntry) {s : State} (h : ringLawful s.builder.ring) :
    ringLawful (workList line es s).2.1.builder.ring ∧ (workList line es s).1.length = es.length := by
  induction es generalizing s with
  | nil => exact ⟨h, rfl⟩
  | cons e es ih =>
    have he := workEntry_ringLawful line e h
    rw [workList]
    split
    · rename_i hw
      rw [hw] at he
      exact ⟨he, rfl⟩
    · rename_i e1 s1 hw
      rw [hw] at he
      obtain ⟨hring, hlen⟩ := ih (s := s1) he
      exact ⟨hring, congrArg (· + 1) hlen⟩

/-! ### Taking up a line (R48) -/

theorem lineList_length_le (k : Bank) (v : View) (y : Nat) : (lineList k v y).1.length ≤ 32 := by
  simp only [lineList, List.length_map, List.length_take]
  exact min_le_left _ _

/-- The builder with its next line taken up under a view: the line list made, its flags set, an empty ring entry. -/
def State.tookUp (v : View) (s : State) : State :=
  State.raiseAll (lineList (s.tables.bank v.bank) v s.builder.nextLine).2
    { s with
      builder :=
        { s.builder with
          work := some ⟨s.builder.nextLine, (lineList (s.tables.bank v.bank) v s.builder.nextLine).1⟩
          nextLine := s.builder.nextLine + 1
          reader := .idle
          ring := s.builder.ring ++ [⟨s.builder.nextLine, []⟩] } }

theorem State.takeUp_of_no_view {s : State} (h : s.builder.view = none) : s.takeUp = none := by
  simp [State.takeUp, h]

theorem State.takeUp_of_view {s : State} {v : View} (h : s.builder.view = some v) :
    s.takeUp =
      if s.builder.nextLine < v.height ∧ s.builder.ring.length < 4 then some (s.tookUp v) else none := by
  unfold State.takeUp
  split
  · rename_i h'
    cases h.symm.trans h'
  · rename_i v' h'
    cases h.symm.trans h'
    rfl

theorem State.tookUp_eq (v : View) (s : State) :
    ∃ f, s.tookUp v =
      { s with
        builder :=
          { s.builder with
            work := some ⟨s.builder.nextLine, (lineList (s.tables.bank v.bank) v s.builder.nextLine).1⟩
            nextLine := s.builder.nextLine + 1
            reader := .idle
            ring := s.builder.ring ++ [⟨s.builder.nextLine, []⟩] }
        status := { s.status with flags := f } } := by
  obtain ⟨f, hf⟩ := State.raiseAll_eq (lineList (s.tables.bank v.bank) v s.builder.nextLine).2
    { s with
      builder :=
        { s.builder with
          work := some ⟨s.builder.nextLine, (lineList (s.tables.bank v.bank) v s.builder.nextLine).1⟩
          nextLine := s.builder.nextLine + 1
          reader := .idle
          ring := s.builder.ring ++ [⟨s.builder.nextLine, []⟩] } }
  exact ⟨f, hf⟩

theorem State.takeUp_builderLaw {s t : State} (hs : s.builderLaw) (h : s.takeUp = some t) : t.builderLaw := by
  rw [State.builderLaw_iff] at hs ⊢
  obtain ⟨-, -, hring⟩ := hs
  cases hv : s.builder.view with
  | none =>
    rw [State.takeUp_of_no_view hv] at h
    cases h
  | some v =>
    rw [State.takeUp_of_view hv] at h
    split at h
    · rename_i hroom
      cases h
      obtain ⟨f, hf⟩ := s.tookUp_eq v
      rw [hf]
      refine ⟨?_, ?_, fun e he => ?_⟩
      · rintro w ⟨⟩
        exact lineList_length_le _ _ _
      · simpa using hroom.2
      · rcases List.mem_append.1 he with he | he
        · exact hring e he
        · rw [List.mem_singleton.1 he]
          rintro q ⟨⟩
    · cases h

/-! ### O12: the builder's law -/

theorem runBuilder_builderLaw (n : Nat) {s : State} (hs : s.builderLaw) : (runBuilder n s).builderLaw := by
  induction n generalizing s with
  | zero => exact hs
  | succ n ih =>
    rw [runBuilder]
    split
    · rename_i w hw
      obtain ⟨hlist, hring⟩ := s.builderLaw_iff.1 hs
      obtain ⟨hring', hlen⟩ := workList_lawful w.line w.entries hring
      split
      · exact hs
      · split <;> rename_i hwork <;> rw [hwork] at hring' hlen
        · exact ih ((State.builderLaw_iff _).2 ⟨by rintro w' ⟨⟩, hring'⟩)
        · refine (State.builderLaw_iff _).2 ⟨?_, hring'⟩
          rintro w' ⟨⟩
          exact hlen.trans_le (hlist w hw)
    · split
      · exact hs
      · rename_i htake
        exact ih (State.takeUp_builderLaw hs htake)

theorem State.neverTakenUp_builderLaw (y : Nat) {s : State} (hs : s.builderLaw) : (s.neverTakenUp y).builderLaw := hs

/-- With no region in progress, ending the work leaves the ring as it was (R63). -/
theorem State.endWork_ring_of_none {w : Work} (h : inProgressSpan w.entries = none) (s : State) :
    (s.endWork w).builder.ring = s.builder.ring := by
  unfold State.endWork
  simp only [h]
  rfl

/-- With a region in progress, ending the work fills what is left of its columns on its line (R63). -/
theorem State.endWork_ring_of_some {w : Work} {colour : Rgb} {next last : Nat}
    (h : inProgressSpan w.entries = some (colour, next, last)) (s : State) :
    (s.endWork w).builder.ring =
      ringMap (standbyFill colour (last + 1 - next) next) w.line s.builder.ring := by
  unfold State.endWork
  simp only [h]
  rfl

theorem State.endWork_builderLaw (w : Work) {s : State} (hs : s.builderLaw) : (s.endWork w).builderLaw := by
  obtain ⟨-, hring⟩ := s.builderLaw_iff.1 hs
  refine (State.builderLaw_iff _).2 ⟨by rintro w' ⟨⟩, ?_⟩
  cases hspan : inProgressSpan w.entries with
  | none => rwa [State.endWork_ring_of_none hspan]
  | some span =>
    obtain ⟨colour, next, last⟩ := span
    rw [State.endWork_ring_of_some hspan]
    exact hring.ringMap (fun px hpx => hpx.standbyFill _ _ _) w.line

theorem State.deadline_builderLaw (y : Nat) {s : State} (hs : s.builderLaw) : (s.deadline y).builderLaw := by
  unfold State.deadline
  split
  · exact hs
  · split
    · split
      · exact State.endWork_builderLaw _ hs
      · split
        · exact State.neverTakenUp_builderLaw y hs
        · exact hs
    · split
      · exact State.neverTakenUp_builderLaw y hs
      · exact hs

theorem State.freeLineBefore_builderLaw (y : Nat) {s : State} (hs : s.builderLaw) :
    (s.freeLineBefore y).builderLaw := by
  obtain ⟨hlist, hlen, hring⟩ := s.builderLaw_iff.1 hs
  exact ⟨hlist, (List.length_filter_le _ _).trans hlen, fun e he => hring e (List.mem_filter.1 he).1⟩

/-- A fill completion wakes the reader, and touches neither line list nor ring (R102). -/
theorem State.wake_builderLaw (tile sector : Nat) {s : State} (hs : s.builderLaw) :
    (s.wake tile sector).builderLaw := by
  unfold State.wake
  split
  · exact hs
  · exact hs
  · exact hs
  · split
    · split <;> exact hs
    · exact hs

theorem State.OverlayStep.builderLaw {s t : State} (h : s.OverlayStep t) (hs : s.builderLaw) : t.builderLaw := by
  cases h with
  | keeps h =>
    rw [State.builderLaw_iff, h.builder]
    exact hs
  | close h =>
    rw [State.builderLaw_iff, h]
    exact ⟨by rintro w ⟨⟩, by decide, by rintro e ⟨⟩⟩
  | @freeze u h =>
    have hu : u.builderLaw := by
      rw [State.builderLaw_iff, h]
      exact hs
    exact hu
  | build => exact runBuilder_builderLaw 10 hs
  | deadline y => exact State.deadline_builderLaw y hs
  | free y => exact State.freeLineBefore_builderLaw y hs
  | wake tile sector => exact State.wake_builderLaw tile sector hs

/-- Settles O12: each of the steps that a command is made of keeps the bounds of list and ring and the law of every
pixel. -/
theorem lineListsAndSlotsStayBounded : Obligations.LineListsAndSlotsStayBounded :=
  fun _ _ hs h => (step_overlaySteps h).invariant State.OverlayStep.builderLaw hs

end Sys2Proof.Machine

/-! SUPPORT. Selection by the ten tests, precedence, and the line list that the builder takes up. -/

namespace Sys2Proof.Machine

/-! ### The ten tests (R49) -/

theorem onLine_iff (v : View) (y : Nat) (r : Region) :
    onLine v y r = true ↔
      r.kind ≠ .off ∧ v.threshold < r.level ∧ r.pages.getLsbD v.page = true ∧
        (r.y ≤ y ∧ y ≤ r.y + r.height - 1) ∧ r.x < v.width := by
  simp only [onLine, Bool.and_eq_true, bne_iff_ne, decide_eq_true_eq, and_assoc]

/-- Without an item, tests 6 and 7 hold, and tests 8 and 9 fail a BADGE and a PRICE. -/
theorem itemAllows_of_no_item {k : Bank} {r : Region} (h : itemOf k r = none) :
    itemAllows k r = true ↔ r.kind ≠ .badge ∧ r.kind ≠ .price := by
  simp [itemAllows, h]

/-- With an item, tests 6 to 9 are about its state and its figure. -/
theorem itemAllows_of_item {k : Bank} {r : Region} {it : Item} (h : itemOf k r = some it) :
    itemAllows k r = true ↔
      it.state ≠ .withdrawn ∧
        ¬((r.kind = .photo ∨ r.kind = .price) ∧ r.treatment = .hide ∧ it.state = .soldOut) ∧
        (r.kind = .badge → it.state = .soldOut) ∧
        (r.kind = .price → ∃ n, figureOf it r.figure = some n) := by
  simp only [itemAllows, h, Bool.and_eq_true, bne_iff_ne, Bool.not_eq_true', ← Bool.not_eq_true, beq_iff_eq,
    Bool.or_eq_true, Option.isNone_iff_eq_none, and_assoc, ← Option.isSome_iff_exists,
    Option.isSome_iff_ne_none, not_and, not_not, ne_eq]

/-- Tests 6 to 9 as R49 states them. -/
theorem itemAllows_iff (k : Bank) (r : Region) :
    itemAllows k r = true ↔
      (∀ it, itemOf k r = some it → it.state ≠ .withdrawn) ∧
        ¬((r.kind = .photo ∨ r.kind = .price) ∧ r.treatment = .hide ∧
          ∃ it, itemOf k r = some it ∧ it.state = .soldOut) ∧
        (r.kind = .badge → ∃ it, itemOf k r = some it ∧ it.state = .soldOut) ∧
        (r.kind = .price → ∃ it n, itemOf k r = some it ∧ figureOf it r.figure = some n) := by
  cases h : itemOf k r with
  | none =>
    rw [itemAllows_of_no_item h]
    simp
  | some it =>
    rw [itemAllows_of_item h]
    simp

/-- Test 10: a PHOTO and a BADGE need a valid photo. -/
def photoAllows (k : Bank) (r : Region) : Prop :=
  (r.kind = .photo ∨ r.kind = .badge) → (k.photo r.photo).valid = true

/-- The choice of a region, by its first nine tests and the photo's (R50). -/
theorem choose_cases (k : Bank) (v : View) (y : Nat) (r : Region) :
    (¬(onLine v y r = true ∧ itemAllows k r = true) ∧ choose k v y r = .passed) ∨
      ((onLine v y r = true ∧ itemAllows k r = true) ∧
        ((photoAllows k r ∧ choose k v y r = .selected) ∨
          (¬photoAllows k r ∧ choose k v y r = .photoMissing))) := by
  unfold choose photoAllows
  cases onLine v y r
  · exact .inl ⟨by simp, rfl⟩
  · cases itemAllows k r
    · exact .inl ⟨by simp, rfl⟩
    · refine .inr ⟨⟨rfl, rfl⟩, ?_⟩
      by_cases hphoto : (r.kind = .photo ∨ r.kind = .badge) → (k.photo r.photo).valid = true
      · exact .inl ⟨hphoto, by simpa using hphoto⟩
      · exact .inr ⟨hphoto, by simpa using hphoto⟩

/-- A region passed over for its photo sets PHOTO_MISSING (R50). -/
theorem photoMissing_mem_lineList {k : Bank} {v : View} {y : Nat} {r : Region} (hload : v.duringLoad = false)
    (hr : r ∈ k.regions) (h : choose k v y r = .photoMissing) : Flag.photoMissing ∈ (lineList k v y).2 := by
  have hsome : somePhotoMissing k v y = true := by
    simp only [somePhotoMissing, hload, Bool.not_false, Bool.true_and, List.any_eq_true, beq_iff_eq]
    exact ⟨r, hr, h⟩
  simp [lineList, hsome]

/-- Settles O27: the first nine tests are `onLine` and `itemAllows`, and `choose_cases` says what follows of them. -/
theorem regionIsSelectedByTheTenTests : Obligations.RegionIsSelectedByTheTenTests := by
  intro k v y r tests1to9 test10
  have htests : tests1to9 ↔ onLine v y r = true ∧ itemAllows k r = true := by
    rw [onLine_iff, itemAllows_iff]
    simp only [tests1to9, and_assoc]
  have hchoice := choose_cases k v y r
  rw [← htests] at hchoice
  refine ⟨?_, ?_, photoMissing_mem_lineList⟩
  · rcases hchoice with ⟨hnot, h⟩ | ⟨hyes, ⟨hphoto, h⟩ | ⟨hphoto, h⟩⟩ <;> rw [h]
    · exact ⟨fun h => (nomatch h), fun h => absurd h.1 hnot⟩
    · exact ⟨fun _ => ⟨hyes, hphoto⟩, fun _ => rfl⟩
    · exact ⟨fun h => (nomatch h), fun h => absurd h.2 hphoto⟩
  · rcases hchoice with ⟨hnot, h⟩ | ⟨hyes, ⟨hphoto, h⟩ | ⟨hphoto, h⟩⟩ <;> rw [h]
    · exact ⟨fun h => (nomatch h), fun h => absurd h.1 hnot⟩
    · exact ⟨fun h => (nomatch h), fun h => absurd hphoto h.2⟩
    · exact ⟨fun _ => ⟨hyes, hphoto⟩, fun _ => rfl⟩

/-! ### Precedence (R51) -/

/-- Precedence of R51: level descending, index ascending among equals. -/
def precedes (p q : Nat × Region) : Prop := q.2.level < p.2.level ∨ (p.2.level = q.2.level ∧ p.1 < q.1)

theorem insertByLevel_perm (p : Nat × Region) (l : List (Nat × Region)) : (insertByLevel p l).Perm (p :: l) := by
  induction l with
  | nil => exact .refl _
  | cons q qs ih =>
    rw [insertByLevel]
    split
    · exact .refl _
    · exact (ih.cons q).trans (.swap p q qs)

theorem byPrecedence_perm (l : List (Nat × Region)) : (byPrecedence l).Perm l := by
  induction l with
  | nil => exact .refl _
  | cons p l ih => exact (insertByLevel_perm p (byPrecedence l)).trans (ih.cons p)

/-- A region of a lower index than all those in order goes in front of its equals, and the order stays. -/
theorem insertByLevel_pairwise {p : Nat × Region} {l : List (Nat × Region)} (hl : l.Pairwise precedes)
    (hp : ∀ q ∈ l, p.1 < q.1) : (insertByLevel p l).Pairwise precedes := by
  induction l with
  | nil => exact List.pairwise_singleton _ _
  | cons q qs ih =>
    obtain ⟨hq, hqs⟩ := List.pairwise_cons.1 hl
    rw [insertByLevel]
    split
    · rename_i hle
      refine List.pairwise_cons.2 ⟨fun x hx => ?_, hl⟩
      have hindex := hp x hx
      have hlevel : x.2.level ≤ q.2.level := by
        rcases List.mem_cons.1 hx with rfl | hx
        · exact le_rfl
        · have hqx := hq x hx
          unfold precedes at hqx
          omega
      unfold precedes
      omega
    · rename_i hlt
      refine List.pairwise_cons.2 ⟨fun x hx => ?_, ih hqs fun x hx => hp x (List.mem_cons_of_mem q hx)⟩
      rcases List.mem_cons.1 ((insertByLevel_perm p qs).mem_iff.1 hx) with rfl | hx
      · exact .inl (by omega)
      · exact hq x hx

theorem byPrecedence_pairwise {l : List (Nat × Region)} (h : l.Pairwise fun p q => p.1 < q.1) :
    (byPrecedence l).Pairwise precedes := by
  induction l with
  | nil => exact List.Pairwise.nil
  | cons p l ih =>
    obtain ⟨hp, hl⟩ := List.pairwise_cons.1 h
    exact insertByLevel_pairwise (ih hl) fun q hq => hp q ((byPrecedence_perm l).mem_iff.1 hq)

theorem le_of_mem_indexed {α : Type} {i : Nat} {l : List α} {p : Nat × α} (h : p ∈ indexed i l) : i ≤ p.1 := by
  induction l generalizing i with
  | nil => cases h
  | cons r rs ih =>
    rcases List.mem_cons.1 h with rfl | h
    · exact le_rfl
    · exact (Nat.le_succ i).trans (ih h)

theorem indexed_pairwise {α : Type} (i : Nat) (l : List α) : (indexed i l).Pairwise fun p q => p.1 < q.1 := by
  induction l generalizing i with
  | nil => exact List.Pairwise.nil
  | cons r rs ih => exact List.pairwise_cons.2 ⟨fun q hq => le_of_mem_indexed hq, ih (i + 1)⟩

theorem selectedRegions_of_loading {v : View} (h : v.duringLoad = true) (k : Bank) (y : Nat) :
    selectedRegions k v y = [] := by
  simp [selectedRegions, h]

theorem selectedRegions_of_not_loading {v : View} (h : v.duringLoad = false) (k : Bank) (y : Nat) :
    selectedRegions k v y =
      byPrecedence ((indexed 0 k.regions).filter fun p => choose k v y p.2 == .selected) := by
  simp [selectedRegions, h]

theorem selectedRegions_pairwise (k : Bank) (v : View) (y : Nat) :
    (selectedRegions k v y).Pairwise precedes := by
  cases h : v.duringLoad
  · rw [selectedRegions_of_not_loading h]
    exact byPrecedence_pairwise ((indexed_pairwise 0 k.regions).filter _)
  · rw [selectedRegions_of_loading h]
    exact List.Pairwise.nil

/-! ### The line list (R51, R52) -/

/-- The record of a region names it, and its layout sets no flag but GLYPH_FAULT and PRICE_OVERFLOW (R82, R91). -/
theorem entryOf_region_flags (k : Bank) (v : View) (y : Nat) (p : Nat × Region) :
    (entryOf k v y p).1.region = p.1 ∧
      ∀ f ∈ (entryOf k v y p).2, f = .glyphFault ∨ f = .priceOverflow := by
  unfold entryOf
  simp only
  split
  · exact ⟨rfl, by rintro f ⟨⟩⟩
  · exact ⟨rfl, by rintro f ⟨⟩⟩
  · exact ⟨rfl, by rintro f ⟨⟩⟩
  · exact ⟨rfl, by rintro f ⟨⟩⟩
  · split
    · exact ⟨rfl, fun f hf => .inl (List.mem_singleton.1 hf)⟩
    · refine ⟨rfl, fun f hf => ?_⟩
      split at hf
      · exact .inr (List.mem_singleton.1 hf)
      · cases hf

theorem lineList_regions (k : Bank) (v : View) (y : Nat) :
    (lineList k v y).1.map (·.region) = ((selectedRegions k v y).take 32).map (·.1) := by
  simp only [lineList, List.map_map]
  exact List.map_congr_left fun p _ => (entryOf_region_flags k v y p).1

theorem lineFull_mem_lineList (k : Bank) (v : View) (y : Nat) :
    Flag.lineFull ∈ (lineList k v y).2 ↔ 32 < (selectedRegions k v y).length := by
  have hmissing : Flag.lineFull ∉ if somePhotoMissing k v y = true then [Flag.photoMissing] else [] := by
    split <;> simp
  have hlayouts : Flag.lineFull ∉
      (((selectedRegions k v y).take 32).map (entryOf k v y)).flatMap (·.2) := by
    intro h
    obtain ⟨made, hmade, hf⟩ := List.mem_flatMap.1 h
    obtain ⟨p, -, rfl⟩ := List.mem_map.1 hmade
    rcases (entryOf_region_flags k v y p).2 _ hf with h | h <;> cases h
  simp only [lineList, List.mem_append, hmissing, hlayouts, false_or, or_false]
  split <;> simp [*]

/-! ### Flags raised (R167) -/

/-- The flags in the order of R164. -/
def Flag.inOrder : List Flag :=
  [.packetBad, .tableFull, .hotFull, .uploadFull, .readFull, .refused, .lateLine, .lineFull, .overlapClipped,
    .priceOverflow, .glyphFault, .photoMissing, .inputLost, .geometryMismatch, .flipTimeout, .missedFlip,
    .stackWrap, .stackEmpty, .storeFault]

theorem Flag.inOrder_bit (f : Flag) : Flag.inOrder[f.bit]? = some f := by cases f <;> rfl

theorem Flag.bit_lt (f : Flag) : f.bit < 19 := by cases f <;> decide

theorem Flag.bit_inj {f g : Flag} : f.bit = g.bit ↔ f = g :=
  ⟨fun h => Option.some.inj (by rw [← f.inOrder_bit, ← g.inOrder_bit, h]), congrArg _⟩

/-- A flag's mask holds its own bit and no other flag's. -/
theorem Flag.mask_getLsbD (f g : Flag) : f.mask.getLsbD g.bit = (f == g) := by
  have hlt := g.bit_lt
  have hone : ∀ i, (1 : BitVec 19).getLsbD i = decide (i = 0) := fun i => BitVec.getLsbD_one.trans (by simp)
  rw [Flag.mask, BitVec.getLsbD_shiftLeft, hone]
  by_cases h : f = g
  · subst h
    simp [hlt]
  · have hne : g.bit ≠ f.bit := fun hbit => h (Flag.bit_inj.1 hbit).symm
    have hfalse : (f == g) = false := by simpa using h
    rw [hfalse]
    by_cases hlow : g.bit < f.bit
    · simp [hlow]
    · simp [show g.bit - f.bit ≠ 0 by omega]

theorem State.flagged_raise_eq (f g : Flag) (s : State) : (s.raise f).flagged g = (s.flagged g || f == g) := by
  rw [State.flagged, State.raise_flags, BitVec.getLsbD_or, Flag.mask_getLsbD]
  rfl

theorem State.flagged_raiseAll_eq (fs : List Flag) (g : Flag) (s : State) :
    (State.raiseAll fs s).flagged g = (s.flagged g || fs.contains g) := by
  induction fs generalizing s with
  | nil => simp [State.raiseAll]
  | cons f fs ih =>
    rw [State.raiseAll, ih, State.flagged_raise_eq, List.contains_cons, Bool.or_assoc, Bool.beq_comm]

/-! ### Taking up the next line (R48) -/

theorem State.tookUp_flagged (v : View) (s : State) (g : Flag) :
    (s.tookUp v).flagged g =
      (s.flagged g || (lineList (s.tables.bank v.bank) v s.builder.nextLine).2.contains g) :=
  State.flagged_raiseAll_eq _ g _

/-- Settles O28: the order by insertion, the list as the first 32 of it, and `tookUp` where R48 allows it. -/
theorem lineListHoldsTheFirst32InPrecedence : Obligations.LineListHoldsTheFirst32InPrecedence := by
  refine ⟨?_, fun s => ⟨fun hview => State.takeUp_of_no_view hview, ?_⟩⟩
  · intro k v y selected
    refine ⟨fun hload => ?_, fun hload => selectedRegions_of_loading hload k y, selectedRegions_pairwise k v y,
      lineList_regions k v y, lineList_length_le k v y, lineFull_mem_lineList k v y⟩
    rw [selectedRegions_of_not_loading hload]
    exact byPrecedence_perm selected
  · intro v hview y made
    rw [State.takeUp_of_view hview]
    refine ⟨fun hnot => if_neg (by omega), fun hline hroom => ⟨s.tookUp v, if_pos ⟨hline, hroom⟩, ?_⟩⟩
    have hflagged := s.tookUp_flagged v
    obtain ⟨f, hf⟩ := s.tookUp_eq v
    rw [hf] at hflagged ⊢
    exact ⟨rfl, rfl, rfl, rfl, hview, rfl, hflagged, rfl, rfl, rfl⟩

end Sys2Proof.Machine

/-! SUPPORT. The columns of a region: their sources, their bytes, and where their samples go. -/

namespace Sys2Proof.Machine

/-! ### The source of a column (R53, R54, R94, R96) -/

theorem LineEntry.source_of_fill {e : LineEntry} (h : e.kind = .off ∨ e.kind = .fill) (line x : Nat) :
    e.source line x = none := by
  unfold LineEntry.source
  rcases h with h | h <;> rw [h]

theorem LineEntry.source_of_photo {e : LineEntry} (h : e.kind = .photo ∨ e.kind = .badge) {p : PhotoRef}
    (hp : e.photo = some p) (line x : Nat) : e.source line x = some (photoPixel p (x - e.x) e.photoRow) := by
  unfold LineEntry.source
  rcases h with h | h <;> rw [h, hp] <;> rfl

theorem LineEntry.source_of_no_text {e : LineEntry} (h : e.kind = .price) (ht : e.text = none) (line x : Nat) :
    e.source line x = none := by
  unfold LineEntry.source
  rw [h, ht]

theorem LineEntry.source_of_text {e : LineEntry} (h : e.kind = .price) {t : TextRec} (ht : e.text = some t)
    (line x : Nat) :
    e.source line x = (t.glyphPixel x line).map fun g => photoPixel t.photo g.1 g.2 := by
  unfold LineEntry.source
  rw [h, ht]

/-! ### The bytes of a source pixel (R70) -/

theorem take_four_drop {bytes : List Byte} {n : Nat} (h : n + 4 ≤ bytes.length) :
    (bytes.drop n).take 4 =
      [bytes.getD n 0, bytes.getD (n + 1) 0, bytes.getD (n + 2) 0, bytes.getD (n + 3) 0] := by
  have hbyte : ∀ i, i < bytes.length → bytes.drop i = bytes.getD i 0 :: bytes.drop (i + 1) := by
    intro i hi
    rw [List.drop_eq_getElem_cons hi, List.getD_eq_getElem _ _ hi]
  rw [hbyte n (by omega), hbyte (n + 1) (by omega), hbyte (n + 2) (by omega), hbyte (n + 3) (by omega)]
  rfl

theorem State.pixelBytes_of_valid {s : State} {q : PixelSource} {bytes : List Byte}
    (h : s.cache.valid? q.tile q.sector = some bytes) :
    s.pixelBytes (some q) = (bytes.drop q.byte).take 4 := by
  rw [State.pixelBytes, h, Option.getD_some]

/-! ### Column by column (R53, R56) -/

theorem produce_waits {e : LineEntry} {line x : Nat} {s : State}
    (h : (s.fetch (e.source line x)).2 = false) (n : Nat) :
    produce e line (n + 1) x s = ((s.fetch (e.source line x)).1, some x) := by
  rw [produce]
  generalize s.fetch (e.source line x) = got at h ⊢
  obtain ⟨s1, atHand⟩ := got
  cases h
  rfl

theorem produce_goes_on {e : LineEntry} {line x : Nat} {s : State}
    (h : (s.fetch (e.source line x)).2 = true) (n : Nat) :
    produce e line (n + 1) x s =
      produce e line n (x + 1)
        (placeAll line x (e.samples ((s.fetch (e.source line x)).1.pixelBytes (e.source line x)))
          (s.fetch (e.source line x)).1) := by
  rw [produce]
  generalize s.fetch (e.source line x) = got at h ⊢
  obtain ⟨s1, atHand⟩ := got
  cases h
  rfl

/-- A column of a FILL needs no sector and places the one sample of its ink (R53, R69). -/
theorem produce_fill_succ {e : LineEntry} (he : e.kind = .fill) (line n x : Nat) (s : State) :
    produce e line (n + 1) x s =
      produce e line n (x + 1) (s.place line x ⟨e.style.ink, e.style.inkOpacity⟩) := by
  have hsource := LineEntry.source_of_fill (.inr he) line x
  have hatHand : (s.fetch (e.source line x)).2 = true := by rw [hsource]; rfl
  have hsamples : ∀ px, e.samples px = [⟨e.style.ink, e.style.inkOpacity⟩] := by
    intro px
    rw [LineEntry.samples, he]
  rw [produce_goes_on hatHand, hsamples, hsource]
  rfl

theorem State.place_cache (line x : Nat) (m : Sample) (s : State) : (s.place line x m).cache = s.cache := by
  rcases s.place_cases line x m with h | h | ⟨p, -, h⟩ <;> rw [h]
  rfl

/-- A FILL is produced whole, each of its columns placed by the placement rule. -/
theorem produce_fill {e : LineEntry} (he : e.kind = .fill) (line n x : Nat) {s : State}
    (hline : ∃ r ∈ s.builder.ring, r.line = line) :
    (produce e line n x s).2 = none ∧ (produce e line n x s).1.cache = s.cache ∧
      ∀ c, pixelAt (ringPixels (produce e line n x s).1.builder.ring line) c =
        if x ≤ c ∧ c < x + n then
          placedPixel ⟨e.style.ink, e.style.inkOpacity⟩ (pixelAt (ringPixels s.builder.ring line) c)
        else pixelAt (ringPixels s.builder.ring line) c := by
  induction n generalizing x s with
  | zero =>
    refine ⟨rfl, rfl, fun c => ?_⟩
    rw [if_neg (by omega)]
    rfl
  | succ n ih =>
    rw [produce_fill_succ he]
    obtain ⟨hdone, hcache, hpixels⟩ := ih (x + 1) ((s.place_line line x _ line).2 hline)
    refine ⟨hdone, hcache.trans (s.place_cache ..), fun c => ?_⟩
    rw [hpixels, State.place_pixelAt hline]
    by_cases hc : c = x
    · subst hc
      rw [if_neg (by omega), if_pos ⟨rfl, rfl⟩, if_pos (by omega)]
    · simp only [hc, and_false, if_false]
      by_cases hin : x + 1 ≤ c ∧ c < x + 1 + n
      · rw [if_pos hin, if_pos (by omega)]
      · rw [if_neg hin, if_neg (by omega)]

/-! ### The cases of the placement rule (R58) -/

theorem State.place_of_zero {s : State} {line x : Nat} {m : Sample} (hm : m.coverage = 0) :
    s.place line x m = s := by
  rw [State.place, placing_zero hm]

theorem State.place_of_closed {s : State} {line x : Nat}
    (hp : (pixelAt (ringPixels s.builder.ring line) x).closed = true) (m : Sample) : s.place line x m = s := by
  rw [State.place, placing_closed hp]

theorem State.place_of_full {s : State} {line x : Nat} {m : Sample} (hm : m.coverage ≠ 0)
    (hp : (pixelAt (ringPixels s.builder.ring line) x).closed = false)
    (hfull : 4 ≤ (pixelAt (ringPixels s.builder.ring line) x).slots.length) :
    s.place line x m = s.raise .overlapClipped := by
  rw [State.place, placing_full hm hp hfull]

theorem State.place_status_of_free {s : State} {line x : Nat} {m : Sample} (hm : m.coverage ≠ 0)
    (hp : (pixelAt (ringPixels s.builder.ring line) x).closed = false)
    (hfree : (pixelAt (ringPixels s.builder.ring line) x).slots.length < 4) :
    (s.place line x m).status = s.status := by
  rw [State.place, placing_free hm hp hfree]

/-! ### O29 -/

/-- Settles O29: the placement rule on the ring, and the columns one by one from their sources. -/
theorem samplesArePlacedInTheFourCases : Obligations.SamplesArePlacedInTheFourCases := by
  refine ⟨?_, standbyPixel_eq_placedPixel, ?_, ?_, ?_, ?_, ?_⟩
  · intro s line x m p t
    refine ⟨State.place_of_zero, fun _ hclosed => State.place_of_closed hclosed m, State.place_of_full,
      fun hm hopen hfree hline => ?_⟩
    have hplaced : placedPixel m p = ⟨p.slots ++ [m], m.coverage == 255⟩ := by
      rw [placedPixel, placing_free hm hopen hfree]
    refine ⟨?_, State.place_status_of_free hm hopen hfree, fun line' x' hother => ?_⟩
    · rw [State.place_pixelAt hline, if_pos ⟨rfl, rfl⟩, hplaced]
    · rw [State.place_pixelAt hline, if_neg (by tauto)]
  · intro s q
    exact ⟨rfl, fun hheld => if_pos hheld, fun hheld => if_neg hheld⟩
  · intro e line n x s got
    exact ⟨fun h => produce_waits h n, fun h => produce_goes_on h n⟩
  · intro e line x
    refine ⟨fun h => LineEntry.source_of_fill h line x, fun h p hp => LineEntry.source_of_photo h hp line x,
      fun h => ⟨fun ht => LineEntry.source_of_no_text h ht line x, fun t ht => ?_⟩⟩
    rw [LineEntry.source_of_text h ht]
    exact ⟨fun hg => by rw [hg]; rfl, fun px py hg => by rw [hg]; rfl⟩
  · intro s q bytes hvalid hroom
    rw [State.pixelBytes_of_valid hvalid, take_four_drop hroom]
  · intro e line n x s he hline made
    exact produce_fill he line n x hline

end Sys2Proof.Machine

/-! SUPPORT. The line deadline in its three positions, and a line start before scene settled. -/

namespace Sys2Proof.Machine

/-! ### The three positions (R62 to R64) -/

section Deadline
variable {s : State} {y : Nat}

/-- A line at or beyond the canvas height is never late (R66). -/
theorem State.deadline_beyond (hy : s.canvasHeight ≤ y) : s.deadline y = s := by
  rw [State.deadline, if_pos hy]

/-- A line that was taken up and is not in hand is complete (R62). -/
theorem State.deadline_complete (hw : ∀ w, s.builder.work = some w → w.line ≠ y) (hnext : y < s.builder.nextLine) :
    s.deadline y = s := by
  have hlate : ¬s.builder.nextLine ≤ y := by omega
  by_cases hy : s.canvasHeight ≤ y
  · exact State.deadline_beyond hy
  · cases hwork : s.builder.work with
    | none => simp only [State.deadline, if_neg hy, hwork, if_neg hlate]
    | some w => simp only [State.deadline, if_neg hy, hwork, if_neg (hw w hwork), if_neg hlate]

/-- The work on a line in hand ends at once (R63). -/
theorem State.deadline_in_hand {w : Work} (hy : y < s.canvasHeight) (hw : s.builder.work = some w)
    (hline : w.line = y) : s.deadline y = s.endWork w := by
  simp only [State.deadline, if_neg (Nat.not_le.2 hy), hw, if_pos hline]

/-- A line not taken up is late with no samples (R64). -/
theorem State.deadline_not_taken_up (hy : y < s.canvasHeight) (hw : s.builder.work = none)
    (hnext : s.builder.nextLine ≤ y) : s.deadline y = s.neverTakenUp y := by
  simp only [State.deadline, if_neg (Nat.not_le.2 hy), hw, if_pos hnext]

end Deadline

/-- A late line sets LATE_LINE (R63, R64). -/
theorem State.lineLate_flagged (s : State) : s.lineLate.flagged .lateLine = true :=
  State.flagged_raise .lateLine s

/-! ### Standby samples (R63) -/

/-- A pixel is never left empty by a standby sample. -/
theorem standbyPixel_ne_fresh (colour : Rgb) (p : Pixel) : standbyPixel colour p ≠ .fresh := by
  unfold standbyPixel
  split
  · rename_i h
    rintro rfl
    revert h
    decide
  · intro h
    cases congrArg Pixel.closed h

theorem pixelAt_standbyFill (colour : Rgb) (n x : Nat) (px : List (Nat × Pixel)) (c : Nat) :
    pixelAt (standbyFill colour n x px) c =
      if x ≤ c ∧ c < x + n then standbyPixel colour (pixelAt px c) else pixelAt px c := by
  induction n generalizing x px with
  | zero => rw [if_neg (by omega)]; rfl
  | succ n ih =>
    rw [standbyFill, if_neg (standbyPixel_ne_fresh _ _), ih, pixelAt_setPixel]
    by_cases hc : c = x
    · subst hc
      rw [if_neg (by omega), if_pos rfl, if_pos (by omega)]
    · rw [if_neg hc]
      by_cases hin : x + 1 ≤ c ∧ c < x + 1 + n
      · rw [if_pos hin, if_pos (by omega)]
      · rw [if_neg hin, if_neg (by omega)]

/-- The region in progress is completed with standby samples from its next column to its last, and no other pixel of
the line changes. -/
theorem State.endWork_pixelAt {w : Work} {colour : Rgb} {next last : Nat}
    (h : inProgressSpan w.entries = some (colour, next, last)) {s : State}
    (hline : ∃ e ∈ s.builder.ring, e.line = w.line) (x : Nat) :
    pixelAt (ringPixels (s.endWork w).builder.ring w.line) x =
      if next ≤ x ∧ x ≤ last then standbyPixel colour (pixelAt (ringPixels s.builder.ring w.line) x)
      else pixelAt (ringPixels s.builder.ring w.line) x := by
  rw [State.endWork_ring_of_some h, ringPixels_ringMap_same _ hline, pixelAt_standbyFill]
  by_cases hx : next ≤ x ∧ x ≤ last
  · rw [if_pos hx, if_pos (by omega)]
  · rw [if_neg hx, if_neg (by omega)]

/-! ### A line start before scene settled (R65) -/

/-- With no view frozen and no line in hand the builder has nothing to do (R48). -/
theorem State.build_of_no_view {s : State} (hview : s.builder.view = none) (hwork : s.builder.work = none) :
    s.build = s := by
  simp only [State.build, runBuilder, hwork, State.takeUp_of_no_view hview]

/-- With an empty ring every column passes through the blend (R61). -/
theorem blendSlots_of_empty_ring (y x : Nat) : blendSlots (pixelAt (ringPixels [] y) x).slots = id := rfl

/-- An output line start of a canvas line that finds no view, no line in hand and an empty ring: the line is late and
its background goes out bare, with the scene controller's timer as it was (R64, R65). -/
theorem State.outputLineStart_of_no_view {s : State} (background : List Rgb)
    (hline : s.raster.nextLine < s.raster.record.height) (hview : s.builder.view = none)
    (hwork : s.builder.work = none) (hnext : s.builder.nextLine ≤ s.raster.nextLine) (hring : s.builder.ring = []) :
    (s.outputLineStart background).flagged .lateLine = true ∧
      (s.outputLineStart background).builder.late = s.builder.late + 1 ∧
      (s.outputLineStart background).builder.nextLine = s.raster.nextLine + 1 ∧
      (s.outputLineStart background).builder.view = none ∧
      (s.outputLineStart background).scene.hold = s.scene.hold ∧
      (s.outputLineStart background).panel = ⟨.pixels background, true⟩ := by
  have hheight : s.canvasHeight = s.raster.record.height := by rw [State.canvasHeight, hview]
  have hlate : s.deadline s.raster.nextLine = s.neverTakenUp s.raster.nextLine :=
    State.deadline_not_taken_up (by omega) hwork hnext
  obtain ⟨⟨px, hpanel, -, houtside, hcanvas, -⟩, ⟨hbuilder, -, -, hflags, -⟩, -, -, -, hscene, -⟩ :=
    s.outputLineStart_lineStarted background
  rw [hlate] at hcanvas hbuilder hflags
  generalize s.outputLineStart background = t at hpanel hbuilder hflags hscene ⊢
  have hmixed : ((s.neverTakenUp s.raster.nextLine).mix s.raster.nextLine background).builder =
      (s.neverTakenUp s.raster.nextLine).builder := (State.mix_keepsFrame ..).builder
  have hmixedFlag :
      ((s.neverTakenUp s.raster.nextLine).mix s.raster.nextLine background).flagged .lateLine = true := by
    rw [State.mix_eq]
    exact s.lineLate_flagged
  generalize (s.neverTakenUp s.raster.nextLine).mix s.raster.nextLine background = m
    at hbuilder hflags hmixed hmixedFlag
  have hview' : m.builder.view = none := by rw [hmixed]; exact hview
  have hwork' : m.builder.work = none := by rw [hmixed]; exact hwork
  rw [State.build_of_no_view (s := m.freeLineBefore s.raster.nextLine) hview' hwork'] at hbuilder hflags
  refine ⟨hflags _ hmixedFlag, ?_, ?_, ?_, ?_, ?_⟩
  · rw [hbuilder]
    exact congrArg Builder.late hmixed
  · rw [hbuilder]
    exact congrArg Builder.nextLine hmixed
  · rw [hbuilder]
    exact hview'
  · rw [hscene, State.sampleFlip_scene]
  · have hpx : px = background := by
      refine List.ext_getElem? fun x => ?_
      by_cases hx : x < s.raster.record.width
      · have hempty : (s.neverTakenUp s.raster.nextLine).builder.ring = [] := hring
        rw [hcanvas x hline hx, hempty, blendSlots_of_empty_ring, Option.map_id, id]
      · exact houtside x (.inr (by omega))
    rw [hpanel, hpx]

/-! ### O30 -/

/-- Settles O30: the three positions one by one, and the line start that comes before scene settled. -/
theorem lineDeadlineFindsTheLineInThreePositions : Obligations.LineDeadlineFindsTheLineInThreePositions := by
  refine ⟨?_, ?_⟩
  · intro s y height
    have hheight : height = s.canvasHeight := rfl
    rw [hheight]
    refine ⟨State.deadline_beyond, fun hy => ⟨fun hwork => ?_, fun w hw hother => ?_, fun w hw hline => ?_,
      fun hwork hnext => ?_⟩⟩
    · exact State.deadline_complete fun w hw => by rw [hwork] at hw; cases hw
    · exact State.deadline_complete fun w' hw' => by cases hw.symm.trans hw'; exact hother
    · subst hline
      rw [State.deadline_in_hand hy hw rfl]
      exact ⟨State.lineLate_flagged _, rfl, rfl, rfl, rfl, fun h => State.endWork_ring_of_none h s,
        fun colour next last h hring x => State.endWork_pixelAt h hring x⟩
    · rw [State.deadline_not_taken_up hy hwork hnext]
      exact ⟨State.lineLate_flagged _, rfl, rfl, rfl⟩
  · intro s flip hhold hq hfollows hperiod hline hview hwork hnext hring
    refine ⟨_, (execFallbackLineStart_of_rasterQuiet hq flip).2 hfollows hperiod hline, ?_⟩
    obtain ⟨hlate, hcount, hnext', hview', hhold', hpanel⟩ := State.outputLineStart_of_no_view
      (s := { s.seeFlip flip with raster := { s.raster with linePeriods := s.raster.linePeriods + 1 } })
      (List.replicate s.raster.record.width s.raster.record.colour) hline hview hwork hnext hring
    refine ⟨hlate, hcount, hnext', hview', ?_, hpanel⟩
    rw [State.holdDue, hhold']
    simp [hhold]

end Sys2Proof.Machine

/-! SUPPORT. Pixel arithmetic: the rounding by its nearest-integer law, the blend and its bounds, and the samples and
spans of each kind of region. -/

namespace Sys2Proof.Machine

/-! ### The rounding (R68) -/

/-- The rounded value is the one integer nearest to x / 255 (R68). -/
theorem round255_eq_iff {x k : Nat} : round255 x = k ↔ 255 * k ≤ x + 127 ∧ x ≤ 255 * k + 127 := by
  unfold round255
  omega

theorem round255_nearest (x : Nat) : 255 * round255 x ≤ x + 127 ∧ x ≤ 255 * round255 x + 127 :=
  round255_eq_iff.1 rfl

theorem round255_le {x k : Nat} (h : x ≤ 255 * k) : round255 x ≤ k := by
  have := round255_nearest x
  omega

theorem le_round255 {x k : Nat} (h : 255 * k ≤ x) : k ≤ round255 x := by
  have := round255_nearest x
  omega

theorem round255_mul (k : Nat) : round255 (255 * k) = k :=
  le_antisymm (round255_le le_rfl) (le_round255 le_rfl)

/-- The rounded value of a numerator that fits 255 × 255 is kept whole by a byte. -/
theorem toNat_ofNat_round255 {x : Nat} (h : x ≤ 65025) : (BitVec.ofNat 8 (round255 x)).toNat = round255 x := by
  have hle : round255 x ≤ 255 := round255_le h
  rw [BitVec.toNat_ofNat]
  omega

theorem toNat_le_full (c : Byte) : c.toNat ≤ 255 := Nat.le_of_lt_succ c.isLt

/-! ### The blend of a channel (R75) -/

section Mixture
variable {c a u k : Nat} (ha : a ≤ 255)
include ha

theorem mixture_self : k * a + k * (255 - a) = 255 * k := by
  rw [← Nat.mul_add, Nat.add_sub_of_le ha, Nat.mul_comm]

theorem mixture_le (hc : c ≤ k) (hu : u ≤ k) : c * a + u * (255 - a) ≤ 255 * k :=
  calc c * a + u * (255 - a) ≤ k * a + k * (255 - a) :=
        Nat.add_le_add (Nat.mul_le_mul_right a hc) (Nat.mul_le_mul_right _ hu)
    _ = 255 * k := mixture_self ha

theorem le_mixture (hc : k ≤ c) (hu : k ≤ u) : 255 * k ≤ c * a + u * (255 - a) :=
  calc 255 * k = k * a + k * (255 - a) := (mixture_self ha).symm
    _ ≤ c * a + u * (255 - a) :=
        Nat.add_le_add (Nat.mul_le_mul_right a hc) (Nat.mul_le_mul_right _ hu)

end Mixture

theorem blendChannel_toNat (c a u : Byte) :
    (blendChannel c a u).toNat = round255 (c.toNat * a.toNat + u.toNat * (255 - a.toNat)) :=
  toNat_ofNat_round255 (mixture_le (toNat_le_full a) (toNat_le_full c) (toNat_le_full u))

/-- No blend exceeds a bound of both of its values. -/
theorem blendChannel_le {c u : Byte} {k : Nat} (a : Byte) (hc : c.toNat ≤ k) (hu : u.toNat ≤ k) :
    (blendChannel c a u).toNat ≤ k := by
  rw [blendChannel_toNat]
  exact round255_le (mixture_le (toNat_le_full a) hc hu)

/-- No blend falls below a bound of both of its values. -/
theorem le_blendChannel {c u : Byte} {k : Nat} (a : Byte) (hc : k ≤ c.toNat) (hu : k ≤ u.toNat) :
    k ≤ (blendChannel c a u).toNat := by
  rw [blendChannel_toNat]
  exact le_round255 (le_mixture (toNat_le_full a) hc hu)

theorem blendChannel_self (u a : Byte) : blendChannel u a u = u :=
  BitVec.eq_of_toNat_eq (le_antisymm (blendChannel_le a le_rfl le_rfl) (le_blendChannel a le_rfl le_rfl))

theorem blendChannel_opaque (c u : Byte) : blendChannel c 255 u = c := by
  refine BitVec.eq_of_toNat_eq ?_
  have hnum : c.toNat * (255 : Byte).toNat + u.toNat * (255 - (255 : Byte).toNat) = 255 * c.toNat := by
    simp [Nat.mul_comm]
  rw [blendChannel_toNat, hnum, round255_mul]

theorem blendChannel_transparent (c u : Byte) : blendChannel c 0 u = u := by
  refine BitVec.eq_of_toNat_eq ?_
  have hnum : c.toNat * (0 : Byte).toNat + u.toNat * (255 - (0 : Byte).toNat) = 255 * u.toNat := by
    simp [Nat.mul_comm]
  rw [blendChannel_toNat, hnum, round255_mul]

/-! ### The blend of a pixel (R75 to R77) -/

/-- An opaque sample covers whatever lies under it. -/
theorem blendSample_opaque {m : Sample} (hm : m.coverage = 255) (u : Rgb) : blendSample m u = m.colour := by
  simp only [blendSample, hm, blendChannel_opaque]

/-- The last filled slot is the first to be applied to the background. -/
theorem blendSlots_concat (ms : List Sample) (m : Sample) (u : Rgb) :
    blendSlots (ms ++ [m]) u = blendSlots ms (blendSample m u) :=
  List.foldr_append ..

/-- A closed lawful pixel ends in an opaque sample, so nothing of its background is seen (R77). -/
theorem Pixel.lawful.blendSlots_of_closed {p : Pixel} (hp : p.lawful) (hclosed : p.closed = true) (u u' : Rgb) :
    blendSlots p.slots u = blendSlots p.slots u' := by
  obtain ⟨-, -, -, hlast⟩ := hp
  obtain ⟨m, hm, hopaque⟩ := hlast.1 hclosed
  obtain ⟨ms, hslots⟩ := List.getLast?_eq_some_iff.1 hm
  rw [hslots, blendSlots_concat, blendSlots_concat, blendSample_opaque hopaque, blendSample_opaque hopaque]

/-- A pixel with no sample shows its background, on the canvas and beyond it (R76, R78). -/
theorem State.mixed_of_no_slots {s : State} {y x : Nat} {background : List Rgb} {u : Rgb}
    (hu : background[x]? = some u) (hslots : (pixelAt (ringPixels s.builder.ring y) x).slots = []) :
    (s.mixed y background)[x]? = some u := by
  by_cases h : y < s.raster.record.height ∧ x < s.raster.record.width
  · rw [State.mixed_canvas y background s x h.1 h.2, hu, hslots]
    rfl
  · rw [State.mixed_outside y background s x (by omega), hu]

/-! ### O31 -/

/-- Settles O31: the rounding by its nearest-integer law, the blend by the bounds that the rounding keeps, and the
closed pixel by its opaque last sample. -/
theorem roundingAndBlendingAreExact : Obligations.RoundingAndBlendingAreExact := by
  refine ⟨fun x hx => ?_, fun c a u => ?_, fun m ms u => ⟨rfl, rfl⟩,
    fun s y x background u hu hslots => State.mixed_of_no_slots hu hslots,
    fun p hp hclosed => hp.blendSlots_of_closed hclosed⟩
  · obtain ⟨hlow, hhigh⟩ := round255_nearest x
    refine ⟨rfl, round255_le hx, hlow, hhigh, fun h => ?_, fun h => ?_, fun k d hk hd => ⟨?_, fun hdk => ?_⟩⟩
    all_goals
      rw [round255_eq_iff]
      omega
  · exact ⟨blendChannel_toNat c a u,
      fun h => ⟨le_blendChannel a le_rfl h, blendChannel_le a h le_rfl⟩,
      fun h => ⟨le_blendChannel a h le_rfl, blendChannel_le a le_rfl h⟩,
      blendChannel_opaque c u, blendChannel_transparent c u, blendChannel_self u a⟩

/-! ### Dimming (R73) -/

theorem scaleByte_toNat (c d : Byte) : (scaleByte c d).toNat = round255 (c.toNat * d.toNat) :=
  toNat_ofNat_round255 (Nat.mul_le_mul (toNat_le_full c) (toNat_le_full d))

/-- Dimming is the blend with black. -/
theorem scaleByte_eq_blendChannel (c d : Byte) : scaleByte c d = blendChannel c d 0 := by
  simp [scaleByte, blendChannel]

theorem scaleByte_full (c : Byte) : scaleByte c 255 = c := by
  rw [scaleByte_eq_blendChannel, blendChannel_opaque]

theorem scaleByte_zero (c : Byte) : scaleByte c 0 = 0 := by
  rw [scaleByte_eq_blendChannel, blendChannel_transparent]

/-- Dimming never brightens. -/
theorem scaleByte_le (c d : Byte) : (scaleByte c d).toNat ≤ c.toNat := by
  rw [scaleByte_eq_blendChannel]
  exact blendChannel_le d le_rfl (Nat.zero_le _)

theorem scaleByte_comm (c d : Byte) : scaleByte c d = scaleByte d c := by
  rw [scaleByte, scaleByte, Nat.mul_comm]

/-- Neither factor of a full product is less than full, as the product exceeds neither. -/
theorem scaleByte_eq_full_iff (c d : Byte) : scaleByte c d = 255 ↔ c = 255 ∧ d = 255 := by
  have hfull : ∀ c d : Byte, scaleByte c d = 255 → c = 255 := fun c d h => by
    have hle := scaleByte_le c d
    rw [h] at hle
    exact BitVec.eq_of_toNat_eq (le_antisymm (toNat_le_full c) hle)
  refine ⟨fun h => ⟨hfull c d h, hfull d c (scaleByte_comm d c ▸ h)⟩, ?_⟩
  rintro ⟨rfl, rfl⟩
  exact scaleByte_full 255

/-! ### The samples of a column (R69) -/

section Samples
variable {e : LineEntry}

theorem LineEntry.samples_fill (h : e.kind = .fill) (px : List Byte) :
    e.samples px = [⟨e.style.ink, e.style.inkOpacity⟩] := by
  rw [LineEntry.samples, h]

theorem LineEntry.samples_photo (h : e.kind = .photo) (px : List Byte) :
    e.samples px = [⟨dimIf e.dimmed e.style.dim (rgbAt px), px.getD 3 0⟩] := by
  rw [LineEntry.samples, h]

theorem LineEntry.samples_badge (h : e.kind = .badge) (px : List Byte) :
    e.samples px = [⟨rgbAt px, px.getD 3 0⟩] := by
  rw [LineEntry.samples, h]

/-- The text's sample stands before the box's, which is left out at box opacity 0. -/
theorem LineEntry.samples_price (h : e.kind = .price) (px : List Byte) :
    e.samples px =
      ⟨dimIf e.dimmed e.style.dim e.style.ink, scaleByte (px.getD 3 0) e.style.inkOpacity⟩ ::
        if e.style.boxOpacity = 0 then []
        else [⟨dimIf e.dimmed e.style.dim e.style.box, e.style.boxOpacity⟩] := by
  rw [LineEntry.samples, h]

end Samples

/-! ### The record of a region (R28, R52) -/

theorem dimmedOn_iff (k : Bank) (r : Region) :
    dimmedOn k r = true ↔
      (r.kind = .photo ∨ r.kind = .price) ∧ r.treatment = .dim ∧
        ∃ it, itemOf k r = some it ∧ it.state = .soldOut := by
  simp only [dimmedOn, Bool.and_eq_true, Bool.or_eq_true, beq_iff_eq, and_assoc]
  cases h : itemOf k r with
  | none => simp
  | some it => simp

section Record
variable (k : Bank) (v : View) (y i : Nat) {r : Region}

theorem entryOf_fill (h : r.kind = .fill) :
    (entryOf k v y (i, r)).1.span = spanOf r.x (rightEdge v r) := by
  simp only [entryOf, h]

theorem entryOf_photo (h : r.kind = .photo ∨ r.kind = .badge) :
    (entryOf k v y (i, r)).1.photo = some (k.photo r.photo).ref ∧
      (entryOf k v y (i, r)).1.span = photoSpan v y r (k.photo r.photo).ref := by
  rcases h with h | h <;> simp only [entryOf, h, and_self]

/-- The kind decides about span, photo and text alone; every other field is the region's or the line's. -/
theorem entryOf_record (r : Region) :
    ∃ span photo text, (entryOf k v y (i, r)).1 =
      ⟨i, r.kind, k.style r.style, r.x, span, dimmedOn k r, y - r.y, photo, text, .notStarted⟩ := by
  cases hkind : r.kind with
  | off | fill | photo | badge =>
    simp only [entryOf, hkind]
    exact ⟨_, _, _, rfl⟩
  | price =>
    cases hlayout : regionLayout k r with
    | unusable =>
      simp only [entryOf, hkind, hlayout]
      exact ⟨_, _, _, rfl⟩
    | text t overflowed =>
      simp only [entryOf, hkind, hlayout]
      exact ⟨_, _, _, rfl⟩

end Record

/-! ### The columns of a span (R53, R54) -/

/-- A column lies in a span. -/
def spanCovers (span : Option (Nat × Nat)) (x : Nat) : Prop := ∃ a b, span = some (a, b) ∧ a ≤ x ∧ x ≤ b

theorem not_spanCovers_none (x : Nat) : ¬spanCovers none x := by
  rintro ⟨a, b, hnone, -⟩
  cases hnone

theorem spanCovers_spanOf (a b x : Nat) : spanCovers (spanOf a b) x ↔ a ≤ x ∧ x ≤ b := by
  unfold spanOf
  split
  · refine ⟨?_, fun h => ⟨a, b, rfl, h⟩⟩
    rintro ⟨a', b', hspan, hcover⟩
    cases hspan
    exact hcover
  · refine iff_of_false (not_spanCovers_none x) fun h => ?_
    omega

section Columns
variable {v : View} {r : Region} (hwidth : 1 ≤ r.width) (hcanvas : 1 ≤ v.width)
include hwidth hcanvas

/-- The right edge is the last column of the rectangle on the canvas. -/
theorem le_rightEdge_iff (x : Nat) : x ≤ rightEdge v r ↔ x < r.x + r.width ∧ x < v.width := by
  unfold rightEdge
  omega

/-- A FILL covers its rectangle on the canvas (R53). -/
theorem spanCovers_fill (x : Nat) :
    spanCovers (spanOf r.x (rightEdge v r)) x ↔ r.x ≤ x ∧ x < r.x + r.width ∧ x < v.width := by
  rw [spanCovers_spanOf, le_rightEdge_iff hwidth hcanvas]

/-- A PHOTO and a BADGE cover what of their rectangle on the canvas lies in the photo too (R54). -/
theorem spanCovers_photoSpan {p : PhotoRef} (hp : 1 ≤ p.width) (y x : Nat) :
    spanCovers (photoSpan v y r p) x ↔
      (r.x ≤ x ∧ x < r.x + r.width ∧ x < v.width) ∧ x < r.x + 16 * p.width ∧ y - r.y < 16 * p.height := by
  unfold photoSpan
  split
  · refine iff_of_false (not_spanCovers_none x) fun h => ?_
    omega
  · rw [spanCovers_spanOf, le_min_iff, le_rightEdge_iff hwidth hcanvas]
    omega

end Columns

/-! ### O32 -/

/-- Settles O32: the samples kind by kind, dimming as the blend with black, and the record with its columns. -/
theorem samplesOfEachKindAreFormed : Obligations.SamplesOfEachKindAreFormed := by
  refine ⟨fun e r g b alpha => ?_, fun c d => ?_, fun k v y i r => ?_⟩
  · refine ⟨fun h => LineEntry.samples_fill h _, fun h => LineEntry.samples_photo h _,
      fun h => LineEntry.samples_badge h _, fun h hbox => ?_, fun h hbox => ?_⟩
    · rw [LineEntry.samples_price h, if_pos hbox]
      rfl
    · rw [LineEntry.samples_price h, if_neg hbox]
      rfl
  · exact ⟨scaleByte_toNat c d, scaleByte_full c, scaleByte_zero c, scaleByte_le c d, scaleByte_eq_full_iff c d⟩
  · obtain ⟨span, photo, text, hrec⟩ := entryOf_record k v y i r
    refine ⟨?_, ?_, fun hwidth hcanvas => ⟨fun hkind x => ?_, fun hkind => ?_⟩⟩
    · simp only [hrec, and_self]
    · rw [hrec]
      exact dimmedOn_iff k r
    · rw [entryOf_fill k v y i hkind]
      exact spanCovers_fill hwidth hcanvas x
    · obtain ⟨hphoto, hspan⟩ := entryOf_photo k v y i hkind
      refine ⟨hphoto, fun hp x => ?_⟩
      rw [hspan]
      exact spanCovers_photoSpan hwidth hcanvas hp y x

end Sys2Proof.Machine

/-! SUPPORT. Price and energy strings: the decimal digits of a figure and their grouping, the minor part, the symbol,
and the lengths. -/

namespace Sys2Proof.Machine

/-! ### The digits of a quantity (R84, R85, R88) -/

/-- A bound that reaches the number produces all its digits. -/
theorem digitsOnto_eq {f : Nat} : ∀ {n : Nat} (acc : List Nat), n ≤ f →
    digitsOnto f n acc = (if n = 0 then [0] else (Nat.digits 10 n).reverse) ++ acc := by
  induction f with
  | zero =>
    intro n acc hn
    obtain rfl : n = 0 := by omega
    rfl
  | succ f ih =>
    intro n acc hn
    by_cases hlt : n < 10
    · by_cases hzero : n = 0
      · subst hzero
        rfl
      · simp [digitsOnto, hlt, hzero]
    · rw [digitsOnto, if_neg hlt, ih _ (by omega), if_neg (by omega), if_neg (by omega),
        Nat.digits_def' (by omega) (by omega : 0 < n), List.reverse_cons, List.append_assoc]
      rfl

theorem decimal_eq_digits (n : Nat) : decimal n = if n = 0 then [0] else (Nat.digits 10 n).reverse := by
  rw [decimal, digitsOnto_eq [] le_rfl, List.append_nil]

theorem decimal_length_pos (n : Nat) : 1 ≤ (decimal n).length := by
  rw [decimal_eq_digits]
  split
  next => decide
  next hzero =>
    rw [List.length_reverse, Nat.one_le_iff_ne_zero, Ne, List.length_eq_zero_iff]
    exact Nat.digits_ne_nil_iff_ne_zero.mpr hzero

theorem decimal_length_le {n k : Nat} (hk : 1 ≤ k) (hn : n < 10 ^ k) : (decimal n).length ≤ k := by
  rw [decimal_eq_digits]
  split
  next => exact hk
  next =>
    rw [List.length_reverse]
    exact (Nat.digits_length_le_iff (by omega) n).mpr hn

/-- The last digit split off. -/
theorem decimal_of_ten_le {n : Nat} (hn : 10 ≤ n) : decimal n = decimal (n / 10) ++ [n % 10] := by
  rw [decimal_eq_digits n, decimal_eq_digits (n / 10), if_neg (by omega), if_neg (by omega),
    Nat.digits_def' (by omega) (by omega : 0 < n), List.reverse_cons]

/-- The last three digits split off. -/
theorem decimal_of_thousand_le {n : Nat} (hn : 1000 ≤ n) :
    decimal n = decimal (n / 1000) ++ [n / 100 % 10, n / 10 % 10, n % 10] := by
  rw [decimal_of_ten_le (by omega : 10 ≤ n), decimal_of_ten_le (by omega : 10 ≤ n / 10), Nat.div_div_eq_div_mul,
    decimal_of_ten_le (by omega : 10 ≤ n / 100), Nat.div_div_eq_div_mul, List.append_assoc, List.append_assoc]
  rfl

theorem groupFromRight_of_length_le {ds : List Nat} (h : ds.length ≤ 3) : groupFromRight ds = ds := by
  match ds, h with
  | [], _ | [_], _ | [_, _], _ | [_, _, _], _ => rfl

/-- Of four to six digits, the ones from the fourth on stand left of the one separator. -/
theorem groupFromRight_of_length_le_six {ds : List Nat} (a b c : Nat) (hpos : 1 ≤ ds.length) (h : ds.length ≤ 3) :
    groupFromRight (a :: b :: c :: ds) = a :: b :: c :: 12 :: ds := by
  cases ds with
  | nil => simp at hpos
  | cons d rest => rw [groupFromRight, groupFromRight_of_length_le h]

theorem wholePart_ungrouped (n : Nat) : wholePart false n = decimal n := rfl

theorem wholePart_of_lt {n : Nat} (hn : n < 1000) : wholePart true n = decimal n := by
  have hlen : (decimal n).reverse.length ≤ 3 := by
    rw [List.length_reverse]
    exact decimal_length_le (by omega) hn
  rw [wholePart, if_pos rfl, groupFromRight_of_length_le hlen, List.reverse_reverse]

theorem wholePart_of_thousand_le {n : Nat} (hn : 1000 ≤ n) (hmax : n ≤ 999999) :
    wholePart true n = decimal (n / 1000) ++ [12, n / 100 % 10, n / 10 % 10, n % 10] := by
  have hpos : 1 ≤ (decimal (n / 1000)).reverse.length := by
    rw [List.length_reverse]
    exact decimal_length_pos _
  have hlen : (decimal (n / 1000)).reverse.length ≤ 3 := by
    rw [List.length_reverse]
    exact decimal_length_le (by omega) (by omega)
  rw [wholePart, if_pos rfl, decimal_of_thousand_le hn, List.reverse_append]
  change (groupFromRight (_ :: _ :: _ :: (decimal (n / 1000)).reverse)).reverse = _
  rw [groupFromRight_of_length_le_six _ _ _ hpos hlen]
  simp

/-- Grouping adds at most one separator, and none below 1000. -/
theorem wholePart_length (grouping : Bool) {n : Nat} (hmax : n ≤ 999999) :
    (decimal n).length ≤ (wholePart grouping n).length ∧
      (wholePart grouping n).length ≤ (decimal n).length + if n < 1000 then 0 else 1 := by
  cases grouping with
  | false => simp [wholePart_ungrouped]
  | true =>
    by_cases hn : n < 1000
    · simp [wholePart_of_lt hn, hn]
    · rw [wholePart_of_thousand_le (by omega) hmax, decimal_of_thousand_le (by omega : 1000 ≤ n), if_neg hn]
      simp

/-! ### The minor part and the symbol (R86, R87) -/

theorem minorPart_absent {m minor : Nat} {trim : Bool} (h : m = 0 ∨ (trim = true ∧ minor = 0)) :
    minorPart m trim minor = [] := if_pos h

theorem minorPart_present {m minor : Nat} {trim : Bool} (hm : m ≠ 0) (h : trim = false ∨ minor ≠ 0) :
    minorPart m trim minor = 11 :: minorDigitsOf m minor := by
  refine if_neg ?_
  rintro (hzero | ⟨htrim, hminor⟩)
  · exact hm hzero
  · rcases h with hkept | hsome
    · rw [htrim] at hkept
      cases hkept
    · exact hsome hminor

theorem minorDigitsOf_length (m v : Nat) : (minorDigitsOf m v).length = m := by
  induction m with
  | zero => rfl
  | succ m ih => rw [minorDigitsOf, List.length_cons, ih]

/-- With no minor digits there is no separator either. -/
theorem minorPart_length_le (m : Nat) (trim : Bool) (minor : Nat) :
    (minorPart m trim minor).length ≤ if m = 0 then 0 else m + 1 := by
  unfold minorPart
  split
  next => exact Nat.zero_le _
  next h =>
    rw [if_neg fun hm => h (.inl hm), List.length_cons, minorDigitsOf_length]

/-- The price string without its symbol. -/
def priceBody (st : Style) (v : Nat) : List Nat :=
  wholePart st.grouping (v / 10 ^ st.minorDigits) ++ minorPart st.minorDigits st.trim (v % 10 ^ st.minorDigits)

section Symbol
variable {st : Style} (v : Nat)

theorem priceString_of_none (h : st.symbol = .none) : priceString st v = priceBody st v := by
  rw [priceString, h, priceBody]

theorem priceString_of_before (h : st.symbol = .before) : priceString st v = 10 :: priceBody st v := by
  rw [priceString, h, priceBody]

theorem priceString_of_after (h : st.symbol = .after) : priceString st v = priceBody st v ++ [10] := by
  rw [priceString, h, priceBody]

theorem priceString_length :
    (priceBody st v).length ≤ (priceString st v).length ∧
      (priceString st v).length ≤ (priceBody st v).length + 1 := by
  cases h : st.symbol with
  | none => simp [priceString_of_none v h]
  | before => simp [priceString_of_before v h]
  | after => simp [priceString_of_after v h]

end Symbol

/-- Six digits in all, of which `m` are minor: at most one group separator and one decimal separator are added. -/
theorem priceBody_length {st : Style} {v : Nat} (hst : st.lawful) (hv : v ≤ 999999) :
    1 ≤ (priceBody st v).length ∧ (priceBody st v).length ≤ 8 := by
  obtain ⟨-, -, -, -, -, hminor⟩ := hst
  have hm : st.minorDigits ≤ 3 := by omega
  have hsix : 10 ^ st.minorDigits * 10 ^ (6 - st.minorDigits) = 10 ^ 6 := by
    rw [← pow_add, Nat.add_sub_cancel' (by omega)]
  have hdigits : (decimal (v / 10 ^ st.minorDigits)).length ≤ 6 - st.minorDigits :=
    decimal_length_le (by omega) (Nat.div_lt_of_lt_mul (by omega))
  have hpos := decimal_length_pos (v / 10 ^ st.minorDigits)
  obtain ⟨hfrom, hto⟩ := wholePart_length st.grouping ((Nat.div_le_self v (10 ^ st.minorDigits)).trans hv)
  have hrest := minorPart_length_le st.minorDigits st.trim (v % 10 ^ st.minorDigits)
  rw [priceBody, List.length_append]
  split at hto <;> split at hrest <;> omega

theorem energyString_length (st : Style) {e : Nat} (he : e ≤ 9999) :
    2 ≤ (energyString st e).length ∧ (energyString st e).length ≤ 6 := by
  obtain ⟨hfrom, hto⟩ := wholePart_length st.grouping (by omega : e ≤ 999999)
  have hpos := decimal_length_pos e
  have hlen := decimal_length_le (n := e) (k := 4) (by omega) (by omega)
  rw [energyString, List.length_append, List.length_singleton]
  split at hto <;> omega

/-! ### O33 -/

/-- Settles O33: digits as Mathlib's, one separator from 1000 on, and the lengths part by part. -/
theorem priceAndEnergyStringsAreFormed : Obligations.PriceAndEnergyStringsAreFormed := by
  refine ⟨fun n => ?_, fun trim minor => ?_, fun st v => ?_, fun st e => ?_⟩
  · exact ⟨decimal_eq_digits n, fun hn => ⟨decimal_length_pos n, decimal_length_le (by omega) (by omega)⟩,
      wholePart_ungrouped n, wholePart_of_lt, wholePart_of_thousand_le⟩
  · refine ⟨minorPart_absent (.inl rfl), fun m htrim hminor => minorPart_absent (.inr ⟨htrim, hminor⟩), fun h => ?_⟩
    rw [minorPart_present (by omega) h, minorPart_present (by omega) h]
    simp [minorDigitsOf]
  · refine ⟨priceString_of_none v, priceString_of_before v, priceString_of_after v, fun hv hst => ?_⟩
    have hbody := priceBody_length hst hv
    have hsymbol := priceString_length (st := st) v
    omega
  · exact ⟨rfl, energyString_length st⟩

end Sys2Proof.Machine

/-! SUPPORT. Text in a PRICE region: how a string is measured, fitted and placed, when its glyph photo is usable, and
the glyph pixel of a column. -/

namespace Sys2Proof.Machine

/-! ### Width and fitting (R81, R89, R90, R91) -/

theorem textWidth_nil (cw : Nat) : textWidth cw [] = 0 := rfl

theorem textWidth_cons (cw c : Nat) (cells : List Nat) :
    textWidth cw (c :: cells) = advance cw c + textWidth cw cells := rfl

theorem textWidth_eq_counts (cw : Nat) (cells : List Nat) :
    textWidth cw cells =
      cells.countP (fun c => decide (c ≠ 11 ∧ c ≠ 12)) * cw +
        cells.countP (fun c => decide (c = 11 ∨ c = 12)) * (cw / 2) := by
  induction cells with
  | nil => simp [textWidth_nil]
  | cons c cells ih =>
    rw [textWidth_cons, ih, advance]
    by_cases hsep : c = 11 ∨ c = 12
    · rw [if_pos hsep, List.countP_cons_of_neg (by rw [decide_eq_true_eq]; omega),
        List.countP_cons_of_pos (by rwa [decide_eq_true_eq])]
      ring
    · rw [if_neg hsep, List.countP_cons_of_pos (by rw [decide_eq_true_eq]; omega),
        List.countP_cons_of_neg (by rwa [decide_eq_true_eq])]
      ring

/-- A string without its group separators, the first thing given up (R90). -/
def withoutSeparators (cells : List Nat) : List Nat := cells.filter (· ≠ 12)

/-- A string also without its symbol or energy mark, the second thing given up (R90). -/
def bareText (cells : List Nat) : List Nat := (withoutSeparators cells).filter fun c => c ≠ 10 ∧ c ≠ 13

section Fitting
variable {cw width : Nat} {cells : List Nat}

theorem fitString_eq :
    fitString cw width cells =
      if textWidth cw cells ≤ width then (cells, false)
      else if textWidth cw (withoutSeparators cells) ≤ width then (withoutSeparators cells, false)
      else if textWidth cw (bareText cells) ≤ width then (bareText cells, false)
      else ([14], true) := rfl

theorem fitString_of_fits (h : textWidth cw cells ≤ width) : fitString cw width cells = (cells, false) := by
  rw [fitString_eq, if_pos h]

variable (hwide : width < textWidth cw cells)
include hwide

theorem fitString_of_fits_without_separators (h : textWidth cw (withoutSeparators cells) ≤ width) :
    fitString cw width cells = (withoutSeparators cells, false) := by
  rw [fitString_eq, if_neg hwide.not_ge, if_pos h]

variable (hsep : width < textWidth cw (withoutSeparators cells))
include hsep

theorem fitString_of_fits_bare (h : textWidth cw (bareText cells) ≤ width) :
    fitString cw width cells = (bareText cells, false) := by
  rw [fitString_eq, if_neg hwide.not_ge, if_neg hsep.not_ge, if_pos h]

theorem fitString_of_overflow (h : width < textWidth cw (bareText cells)) :
    fitString cw width cells = ([14], true) := by
  rw [fitString_eq, if_neg hwide.not_ge, if_neg hsep.not_ge, if_neg h.not_ge]

end Fitting

/-- The overflow mark takes one cell. -/
theorem textWidth_overflow (cw : Nat) : textWidth cw [14] = cw := rfl

/-! ### The glyph photo and the layout (R82, R83) -/

theorem glyphUsable_iff (p : Photo) (st : Style) :
    glyphUsable p st = true ↔ p.valid = true ∧ 15 * st.cellW ≤ 16 * p.width ∧ st.cellH ≤ 16 * p.height := by
  simp only [glyphUsable, Bool.and_eq_true, decide_eq_true_eq, and_assoc]

section Layout
variable {k : Bank} {st : Style} (r : Region) (n : Nat)

theorem layoutText_of_unusable (h : glyphUsable (k.photo st.glyphPhoto) st = false) :
    layoutText k st r n = .unusable := by
  rw [layoutText, Bank.glyphPhoto, h]
  rfl

theorem layoutText_of_usable (h : glyphUsable (k.photo st.glyphPhoto) st = true) :
    layoutText k st r n =
      let fitted := fitString st.cellW r.width (figureString st r.figure n)
      let w := textWidth st.cellW fitted.1
      .text ⟨fitted.1, fitted.1.map (advance st.cellW), w, textX0 r w, textY0 r st.cellH, st.cellW, st.cellH,
          (k.photo st.glyphPhoto).ref⟩ fitted.2 :=
  if_pos h

end Layout

/-- A PRICE region whose figure is present is laid out in its own style (R83). -/
theorem regionLayout_of_figure {k : Bank} {r : Region} {it : Item} {n : Nat} (hitem : itemOf k r = some it)
    (hfigure : figureOf it r.figure = some n) : regionLayout k r = layoutText k (k.style r.style) r n := by
  simp only [regionLayout, hitem, hfigure]

section PriceEntry
variable {k : Bank} {r : Region} (v : View) (y i : Nat) (hkind : r.kind = .price)
include hkind

theorem entryOf_price_text {t : TextRec} {overflowed : Bool} (h : regionLayout k r = .text t overflowed) :
    (entryOf k v y (i, r)).1.text = some t ∧ (entryOf k v y (i, r)).1.span = textSpan v y r t ∧
      (entryOf k v y (i, r)).2 = if overflowed then [.priceOverflow] else [] := by
  simp only [entryOf, hkind, h, and_self]

/-- An unusable glyph photo leaves the region without a column (R82). -/
theorem entryOf_price_unusable (h : regionLayout k r = .unusable) :
    (entryOf k v y (i, r)).2 = [.glyphFault] ∧ (entryOf k v y (i, r)).1.span = none := by
  simp only [entryOf, hkind, h, and_self]

end PriceEntry

/-! ### Origin, extent and glyph pixels (R92, R93, R94) -/

section Origin
variable {r : Region}

theorem textX0_of_wider {w : Nat} (h : r.width < w) : textX0 r w = r.x := if_pos h

theorem textX0_of_fits {w : Nat} (h : w ≤ r.width) :
    (r.align = .left → textX0 r w = r.x) ∧ (r.align = .right → textX0 r w = r.x + (r.width - w)) ∧
      (r.align = .center → textX0 r w = r.x + (r.width - w) / 2) := by
  refine ⟨fun ha => ?_, fun ha => ?_, fun ha => ?_⟩ <;> rw [textX0, if_neg h.not_gt, ha]
  exact Nat.add_sub_assoc h r.x

theorem textY0_of_fits {ch : Nat} (h : ch ≤ r.height) : textY0 r ch = r.y + (r.height - ch) / 2 := if_neg h.not_gt

theorem textY0_of_higher {ch : Nat} (h : r.height < ch) : textY0 r ch = r.y := if_pos h

end Origin

/-- The text extent cut at the region's and the canvas' edges, in both directions (R55, R93). -/
theorem spanCovers_textSpan {v : View} {r : Region} {t : TextRec} (hcell : 1 ≤ t.cellH) (htext : 1 ≤ t.width)
    (hwidth : 1 ≤ r.width) (hheight : 1 ≤ r.height) (hcanvas : 1 ≤ v.width) (hlines : 1 ≤ v.height) (y x : Nat) :
    spanCovers (textSpan v y r t) x ↔
      (t.x0 ≤ x ∧ x < t.x0 + t.width ∧ x < r.x + r.width ∧ x < v.width) ∧
        (t.y0 ≤ y ∧ y < t.y0 + t.cellH ∧ y < r.y + r.height ∧ y < v.height) := by
  simp only [textSpan]
  split
  · rw [spanCovers_spanOf, le_min_iff, le_rightEdge_iff hwidth hcanvas]
    omega
  · refine iff_of_false (not_spanCovers_none x) fun h => ?_
    omega

/-- The glyph at a distance from the left edge is the one whose advance the distance falls in. -/
theorem glyphAt_of_advance {cells advances : List Nat} {i cell a dx : Nat} (hcell : cells[i]? = some cell)
    (ha : advances[i]? = some a) (hleft : (advances.take i).sum ≤ dx) (hright : dx < (advances.take i).sum + a) :
    glyphAt cells advances dx = some (cell, dx - (advances.take i).sum) := by
  induction cells generalizing advances i dx with
  | nil => cases hcell
  | cons c cs ih =>
    cases advances with
    | nil => cases ha
    | cons b bs =>
      cases i with
      | zero =>
        cases hcell
        cases ha
        rw [List.take_zero, List.sum_nil] at hright ⊢
        rw [glyphAt, if_pos (by omega), Nat.sub_zero]
      | succ i =>
        rw [List.take_succ_cons, List.sum_cons] at hleft hright ⊢
        rw [glyphAt, if_neg (by omega), ih hcell ha (by omega) (by omega), Nat.sub_sub]

theorem TextRec.glyphPixel_of_advance {t : TextRec} {x i cell a : Nat} (y : Nat) (hcell : t.glyphs[i]? = some cell)
    (ha : t.advances[i]? = some a) (hleft : t.x0 + (t.advances.take i).sum ≤ x)
    (hright : x < t.x0 + (t.advances.take i).sum + a) :
    t.glyphPixel x y = some (cell * t.cellW + (x - (t.x0 + (t.advances.take i).sum)), y - t.y0) := by
  rw [TextRec.glyphPixel, glyphAt_of_advance hcell ha (by omega) (by omega), Nat.sub_sub]
  rfl

/-! ### O34 -/

/-- Settles O34, clause by clause from the rules above. -/
theorem textIsFittedAndPlaced : Obligations.TextIsFittedAndPlaced := by
  refine ⟨⟨glyphUsable_iff, fun k st r n => ?_, fun t x y i cell a hcell ha => ?_⟩,
    ⟨textWidth_eq_counts, fun cw width cells => ?_, fun k v y i r hkind => ?_⟩,
    fun r w => ⟨textX0_of_wider, textX0_of_fits⟩, fun r ch => ⟨textY0_of_fits, textY0_of_higher⟩,
    fun v y r t x hcell htext hwidth hheight hcanvas hlines => ?_⟩
  · exact ⟨layoutText_of_unusable r n, layoutText_of_usable r n⟩
  · exact TextRec.glyphPixel_of_advance y hcell ha
  · exact ⟨fitString_of_fits, fitString_of_fits_without_separators, fitString_of_fits_bare,
      fun hwide hsep hbare => ⟨fitString_of_overflow hwide hsep hbare, textWidth_overflow cw⟩⟩
  · refine ⟨fun it n => regionLayout_of_figure, fun t overflowed h => ?_, fun t h => ?_, fun t h => ?_,
      entryOf_price_unusable v y i hkind⟩
    · obtain ⟨htext, hspan, -⟩ := entryOf_price_text v y i hkind h
      exact ⟨htext, hspan⟩
    · obtain ⟨-, -, hflags⟩ := entryOf_price_text v y i hkind h
      exact hflags
    · obtain ⟨-, -, hflags⟩ := entryOf_price_text v y i hkind h
      exact hflags
  · exact spanCovers_textSpan hcell htext hwidth hheight hcanvas hlines y x

end Sys2Proof.Machine

/-! SUPPORT. The tile cache set by set and sector by sector: what each update leaves in every line, and the shape that
R98 gives the sets. -/

namespace Sys2Proof.Machine

/-! ### Ways and lines behind an update -/

theorem Cache.ways_eq_of_setOf {t t' : Nat} (h : setOf t' = setOf t) (c : Cache) : c.ways t' = c.ways t := by
  unfold Cache.ways
  rw [h]

theorem Cache.ways_setWays_same {c : Cache} {t : Nat} (h : setOf t < c.sets.length) (ws : List CacheLine) :
    (c.setWays t ws).ways t = ws := by
  simp [Cache.ways, Cache.setWays, List.getD_eq_getElem?_getD, h]

theorem Cache.ways_setWays_other {t t' : Nat} (h : setOf t' ≠ setOf t) (c : Cache) (ws : List CacheLine) :
    (c.setWays t ws).ways t' = c.ways t' := by
  simp [Cache.ways, Cache.setWays, List.getD_eq_getElem?_getD, List.getElem?_set_ne h.symm]

/-- The ways of a tile's set when the lines that hold the tile are changed; a set that does not exist has none. -/
theorem Cache.ways_mapLine_same (c : Cache) (t : Nat) (f : CacheLine → CacheLine) :
    (c.mapLine t f).ways t = (c.ways t).map fun l => if l.tag = some t then f l else l := by
  by_cases h : setOf t < c.sets.length
  · exact Cache.ways_setWays_same h _
  · have hnone : c.sets[setOf t]? = none := List.getElem?_eq_none (Nat.le_of_not_lt h)
    have hset : c.sets.set (setOf t) ((c.ways t).map fun l => if l.tag = some t then f l else l) = c.sets :=
      List.set_eq_of_length_le (Nat.le_of_not_lt h)
    simp only [Cache.mapLine, Cache.setWays, hset]
    simp [Cache.ways, List.getD_eq_getElem?_getD, hnone]

theorem Cache.ways_mapLine_other {t t' : Nat} (h : setOf t' ≠ setOf t) (c : Cache) (f : CacheLine → CacheLine) :
    (c.mapLine t f).ways t' = c.ways t' := Cache.ways_setWays_other h ..

/-- Where a change keeps every tag, the line found for a tile is the one found before, changed where it is the tile's. -/
theorem find?_map_tagged {f : CacheLine → CacheLine} (hf : ∀ l, (f l).tag = l.tag) (t t' : Nat)
    (ws : List CacheLine) :
    (ws.map fun l => if l.tag = some t then f l else l).find? (·.tag == some t') =
      (ws.find? (·.tag == some t')).map fun l => if t' = t then f l else l := by
  induction ws with
  | nil => rfl
  | cons l ws ih =>
    have htag : (if l.tag = some t then f l else l).tag = l.tag := by split <;> simp [hf]
    simp only [List.map_cons, List.find?_cons, htag]
    by_cases hl : l.tag = some t'
    · simp [hl]
    · have hbeq : (l.tag == some t') = false := by simpa using hl
      simp [hbeq, ih]

theorem Cache.line?_mapLine {f : CacheLine → CacheLine} (hf : ∀ l, (f l).tag = l.tag) (c : Cache) (t t' : Nat) :
    (c.mapLine t f).line? t' = (c.line? t').map fun l => if t' = t then f l else l := by
  unfold Cache.line?
  by_cases h : setOf t' = setOf t
  · rw [Cache.ways_eq_of_setOf h, Cache.ways_eq_of_setOf h, Cache.ways_mapLine_same, find?_map_tagged hf]
  · have hne : t' ≠ t := fun e => h (e ▸ rfl)
    simp [Cache.ways_mapLine_other h, hne]

theorem Cache.line?_mapLine_same {f : CacheLine → CacheLine} (hf : ∀ l, (f l).tag = l.tag) (c : Cache) (t : Nat) :
    (c.mapLine t f).line? t = (c.line? t).map f := by
  simp [Cache.line?_mapLine hf]

theorem Cache.line?_tag {c : Cache} {t : Nat} {l : CacheLine} (h : c.line? t = some l) : l.tag = some t := by
  simpa using List.find?_some h

theorem Cache.line?_mem {c : Cache} {t : Nat} {l : CacheLine} (h : c.line? t = some l) : l ∈ c.ways t :=
  List.mem_of_find?_eq_some h

theorem Cache.line?_eq_none_iff (c : Cache) (t : Nat) : c.line? t = none ↔ ∀ l ∈ c.ways t, l.tag ≠ some t := by
  simp [Cache.line?, List.find?_eq_none]

@[simp] theorem CacheLine.mapSlot_tag (n : Nat) (f : SectorSlot → SectorSlot) (l : CacheLine) :
    (l.mapSlot n f).tag = l.tag := rfl
@[simp] theorem CacheLine.mapSlot_confidence (n : Nat) (f : SectorSlot → SectorSlot) (l : CacheLine) :
    (l.mapSlot n f).confidence = l.confidence := rfl
@[simp] theorem CacheLine.mapSlot_length (n : Nat) (f : SectorSlot → SectorSlot) (l : CacheLine) :
    (l.mapSlot n f).sectors.length = l.sectors.length := by simp [CacheLine.mapSlot]

theorem CacheLine.slot_mapSlot (n n' : Nat) (f : SectorSlot → SectorSlot) (l : CacheLine) :
    (l.mapSlot n f).slot n' = if n' = n ∧ n < l.sectors.length then f (l.slot n) else l.slot n' := by
  simp only [CacheLine.mapSlot, CacheLine.slot, List.getD_eq_getElem?_getD, List.getElem?_set]
  by_cases hn : n = n'
  · subst hn
    by_cases hlen : n < l.sectors.length <;> simp [hlen]
  · simp [hn, Ne.symm hn]

theorem CacheLine.slot_of_length_le {l : CacheLine} {n : Nat} (h : l.sectors.length ≤ n) : l.slot n = .empty :=
  List.getD_eq_default _ _ h

/-! ### The sector of a tile -/

/-- The slot of a sector of a tile; empty where the tile is absent. -/
def Cache.slotAt (c : Cache) (t n : Nat) : SectorSlot :=
  match c.line? t with
  | none => .empty
  | some l => l.slot n

theorem Cache.slotAt_of_line {c : Cache} {t : Nat} {l : CacheLine} (h : c.line? t = some l) (n : Nat) :
    c.slotAt t n = l.slot n := by
  unfold Cache.slotAt
  rw [h]

theorem Cache.slotAt_of_absent {c : Cache} {t : Nat} (h : c.line? t = none) (n : Nat) : c.slotAt t n = .empty := by
  unfold Cache.slotAt
  rw [h]

theorem Cache.valid?_eq (c : Cache) (t n : Nat) : c.valid? t n = (c.slotAt t n).data := by
  unfold Cache.valid? Cache.slotAt
  cases c.line? t <;> rfl

theorem Cache.inFlight_eq (c : Cache) (t n : Nat) : c.inFlight t n = (c.slotAt t n).inFlight := by
  unfold Cache.inFlight Cache.slotAt
  cases c.line? t <;> rfl

theorem Cache.slotAt_congr_line {c c' : Cache} {t : Nat} (h : c'.line? t = c.line? t) (n : Nat) :
    c'.slotAt t n = c.slotAt t n := by
  unfold Cache.slotAt
  rw [h]

theorem Cache.slotAt_congr_sets {c c' : Cache} (h : c'.sets = c.sets) (t n : Nat) :
    c'.slotAt t n = c.slotAt t n := by
  apply Cache.slotAt_congr_line
  unfold Cache.line? Cache.ways
  rw [h]

/-- A change of one sector of the line that holds a tile changes that slot alone. -/
theorem Cache.slotAt_mapSlot (c : Cache) (t n : Nat) (f : SectorSlot → SectorSlot) (t' n' : Nat) :
    (c.mapLine t (CacheLine.mapSlot n f)).slotAt t' n' =
      if t' = t ∧ n' = n ∧ ∃ l, c.line? t = some l ∧ n < l.sectors.length then f (c.slotAt t n)
      else c.slotAt t' n' := by
  unfold Cache.slotAt
  rw [Cache.line?_mapLine (CacheLine.mapSlot_tag n f)]
  by_cases ht : t' = t
  · subst ht
    cases hl : c.line? t' with
    | none => simp
    | some l => simp [CacheLine.slot_mapSlot]
  · cases hl : c.line? t' <;> simp [ht]

/-! ### The shape of the sets (R98) -/

/-- Four ways, no tile in two of them, each a line of four sectors and a counter to 3 that holds a tile of set `i`. -/
def waysLawful (i : Nat) (ws : List CacheLine) : Prop :=
  ws.length = 4 ∧ (ws.filterMap (·.tag)).Nodup ∧
    ∀ l ∈ ws, l.sectors.length = 4 ∧ l.confidence ≤ 3 ∧ ∀ t, l.tag = some t → setOf t = i

/-- 32 sets, each lawful in its place. -/
def Cache.shapely (c : Cache) : Prop := c.sets.length = 32 ∧ ∀ i ws, c.sets[i]? = some ws → waysLawful i ws

theorem Cache.lawful_iff (c : Cache) :
    c.lawful ↔ c.shapely ∧ (∀ t n, c.inFlight t n = true ↔ ∃ f ∈ c.fills, f.tile = t ∧ f.sector = n) ∧
      (c.fills.map fun f => (f.tile, f.sector)).Nodup ∧ (c.reads.map fun r => (r.tile, r.sector)).Nodup ∧
        ∀ r ∈ c.reads, ∃ f ∈ c.fills, f.tile = r.tile ∧ f.sector = r.sector ∧ f.granted = true := by
  unfold Cache.lawful Cache.shapely
  exact (and_assoc).symm

theorem Cache.shapely.setOf_lt {c : Cache} (h : c.shapely) (t : Nat) : setOf t < c.sets.length := by
  rw [h.1]
  exact Nat.mod_lt _ (by decide)

theorem Cache.shapely.ways {c : Cache} (h : c.shapely) (t : Nat) : waysLawful (setOf t) (c.ways t) := by
  refine h.2 _ _ ?_
  unfold Cache.ways
  rw [List.getD_eq_getElem _ _ (h.setOf_lt t)]
  exact List.getElem?_eq_getElem _

/-- In a lawful set no two ways hold one tile. -/
theorem waysLawful.find?_eq {i : Nat} {ws : List CacheLine} (h : waysLawful i ws) {l : CacheLine} {t : Nat}
    (hmem : l ∈ ws) (htag : l.tag = some t) : ws.find? (·.tag == some t) = some l := by
  obtain ⟨-, hnodup, -⟩ := h
  induction ws with
  | nil => simp at hmem
  | cons k ws ih =>
    rcases List.mem_cons.1 hmem with rfl | hmem
    · simp [htag]
    · have hk : k.tag ≠ some t := by
        intro hk
        rw [List.filterMap_cons_some hk, List.nodup_cons] at hnodup
        exact hnodup.1 (List.mem_filterMap.2 ⟨l, hmem, htag⟩)
      have hrest : (ws.filterMap (·.tag)).Nodup :=
        hnodup.sublist ((List.sublist_cons_self k ws).filterMap _)
      rw [List.find?_cons_of_neg (by simpa using hk)]
      exact ih hmem hrest

theorem Cache.shapely.line?_eq_some_iff {c : Cache} (h : c.shapely) (t : Nat) (l : CacheLine) :
    c.line? t = some l ↔ l ∈ c.ways t ∧ l.tag = some t :=
  ⟨fun hl => ⟨Cache.line?_mem hl, Cache.line?_tag hl⟩, fun ⟨hmem, htag⟩ => (h.ways t).find?_eq hmem htag⟩

theorem Cache.shapely.line_length {c : Cache} (h : c.shapely) {t : Nat} {l : CacheLine} (hl : c.line? t = some l) :
    l.sectors.length = 4 := ((h.ways t).2.2 l (Cache.line?_mem hl)).1

theorem Cache.shapely.slotAt_of_le {c : Cache} (h : c.shapely) (t : Nat) {n : Nat} (hn : 4 ≤ n) :
    c.slotAt t n = .empty := by
  cases hl : c.line? t with
  | none => exact Cache.slotAt_of_absent hl n
  | some l => rw [Cache.slotAt_of_line hl, CacheLine.slot_of_length_le (by rw [h.line_length hl]; exact hn)]

theorem Cache.shapely.setWays {c : Cache} (h : c.shapely) {t : Nat} {ws : List CacheLine}
    (hws : waysLawful (setOf t) ws) : (c.setWays t ws).shapely := by
  refine ⟨by simp [Cache.setWays, h.1], fun i ws' hi => ?_⟩
  rw [Cache.setWays, List.getElem?_set] at hi
  by_cases hti : setOf t = i
  · subst hti
    rw [if_pos rfl, if_pos (h.setOf_lt t)] at hi
    cases hi
    exact hws
  · rw [if_neg hti] at hi
    exact h.2 i ws' hi

/-- What keeps tags and sector counts, and counters to 3, keeps a lawful set lawful. -/
theorem waysLawful.map {i : Nat} {ws : List CacheLine} (h : waysLawful i ws) {g : CacheLine → CacheLine}
    (htag : ∀ l, (g l).tag = l.tag) (hlen : ∀ l, (g l).sectors.length = l.sectors.length)
    (hconf : ∀ l, l.confidence ≤ 3 → (g l).confidence ≤ 3) : waysLawful i (ws.map g) := by
  obtain ⟨h4, hnodup, hline⟩ := h
  refine ⟨by simpa using h4, ?_, fun l' hl' => ?_⟩
  · rw [List.filterMap_map, show (fun l : CacheLine => l.tag) ∘ g = fun l => l.tag from funext htag]
    exact hnodup
  · obtain ⟨l, hl, rfl⟩ := List.mem_map.1 hl'
    obtain ⟨hs, hc, ht⟩ := hline l hl
    exact ⟨(hlen l).trans hs, hconf l hc, fun t he => ht t (htag l ▸ he)⟩

theorem Cache.shapely.mapLine {c : Cache} (h : c.shapely) (t : Nat) {f : CacheLine → CacheLine}
    (htag : ∀ l, (f l).tag = l.tag) (hlen : ∀ l, (f l).sectors.length = l.sectors.length)
    (hconf : ∀ l, l.confidence ≤ 3 → (f l).confidence ≤ 3) : (c.mapLine t f).shapely := by
  refine h.setWays ((h.ways t).map ?_ ?_ ?_) <;> intro l <;> split
  · exact htag l
  · rfl
  · exact hlen l
  · rfl
  · exact hconf l
  · exact id

theorem Cache.shapely.mapSlot {c : Cache} (h : c.shapely) (t n : Nat) (f : SectorSlot → SectorSlot) :
    (c.mapLine t (CacheLine.mapSlot n f)).shapely :=
  h.mapLine t (CacheLine.mapSlot_tag n f) (CacheLine.mapSlot_length n f) fun _ hl => hl

theorem Cache.shapely_congr {c c' : Cache} (h : c'.sets = c.sets) : c'.shapely ↔ c.shapely := by
  unfold Cache.shapely
  rw [h]

/-- A tile that no way holds can be given any one way. -/
theorem waysLawful.set_allocated {t : Nat} {ws : List CacheLine} (h : waysLawful (setOf t) ws)
    (habsent : ∀ l ∈ ws, l.tag ≠ some t) (i : Nat) : waysLawful (setOf t) (ws.set i (.allocated t)) := by
  obtain ⟨h4, hnodup, hline⟩ := h
  refine ⟨by simpa using h4, ?_, fun l hl => ?_⟩
  · clear h4 hline
    induction ws generalizing i with
    | nil => simp
    | cons k ws ih =>
      have hrest : (ws.filterMap (·.tag)).Nodup := hnodup.sublist ((List.sublist_cons_self k ws).filterMap _)
      have hws : ∀ l ∈ ws, l.tag ≠ some t := fun l hl => habsent l (List.mem_cons_of_mem _ hl)
      cases i with
      | zero =>
        have htag : (CacheLine.allocated t).tag = some t := rfl
        rw [List.set_cons_zero, List.filterMap_cons_some htag, List.nodup_cons]
        refine ⟨fun hmem => ?_, hrest⟩
        obtain ⟨l, hl, htag⟩ := List.mem_filterMap.1 hmem
        exact hws l hl htag
      | succ i =>
        have := ih hws i hrest
        cases hk : k.tag with
        | none => rwa [List.set_cons_succ, List.filterMap_cons_none hk]
        | some u =>
          rw [List.filterMap_cons_some hk, List.nodup_cons] at hnodup
          rw [List.set_cons_succ, List.filterMap_cons_some hk, List.nodup_cons]
          refine ⟨fun hmem => ?_, this⟩
          obtain ⟨l, hl, htag⟩ := List.mem_filterMap.1 hmem
          rcases List.mem_or_eq_of_mem_set hl with hl | rfl
          · exact hnodup.1 (List.mem_filterMap.2 ⟨l, hl, htag⟩)
          · exact habsent k (List.mem_cons_self ..) (by rw [hk, ← htag]; rfl)
  · rcases List.mem_or_eq_of_mem_set hl with hl | rfl
    · exact hline l hl
    · refine ⟨rfl, Nat.le_of_ble_eq_true rfl, fun u hu => ?_⟩
      cases hu
      rfl

end Sys2Proof.Machine

/-! SUPPORT. The tile cache operation by operation: what each leaves valid and in flight, and that it keeps a cache
lawful (R98 to R108). -/

namespace Sys2Proof.Machine

/-! ### The victim way (R101) -/

/-- A way found free with counter 0, and no way below it so. -/
theorem freeZeroWay_eq_some_iff (ws : List CacheLine) (i : Nat) :
    freeZeroWay ws = some i ↔
      (∃ l, ws[i]? = some l ∧ l.busy = false ∧ l.confidence = 0) ∧
        ∀ j l, j < i → ws[j]? = some l → l.busy = true ∨ l.confidence ≠ 0 := by
  unfold freeZeroWay
  rw [List.findIdx?_eq_some_iff_getElem]
  constructor
  · rintro ⟨hi, hp, hbelow⟩
    refine ⟨⟨ws[i], List.getElem?_eq_getElem hi, by simpa using hp⟩, fun j l hj hl => ?_⟩
    obtain ⟨hlt, rfl⟩ := List.getElem?_eq_some_iff.1 hl
    have := hbelow j hj
    cases hb : ws[j].busy <;> simp_all
  · rintro ⟨⟨l, hl, hfree, hzero⟩, hbelow⟩
    obtain ⟨hi, rfl⟩ := List.getElem?_eq_some_iff.1 hl
    refine ⟨hi, by simp [hfree, hzero], fun j hj => ?_⟩
    rcases hbelow j ws[j] hj (List.getElem?_eq_getElem _) with h | h <;> simp [h]

theorem freeZeroWay_eq_none_iff (ws : List CacheLine) :
    freeZeroWay ws = none ↔ ∀ l ∈ ws, l.busy = true ∨ l.confidence ≠ 0 := by
  unfold freeZeroWay
  rw [List.findIdx?_eq_none_iff]
  refine forall₂_congr fun l _ => ?_
  cases l.busy <;> simp

theorem leastConfidence_eq_none_iff (ws : List CacheLine) :
    leastConfidence ws = none ↔ ∀ l ∈ ws, l.busy = true := by
  induction ws with
  | nil => simp [leastConfidence]
  | cons l ws ih =>
    rw [leastConfidence, List.forall_mem_cons, ← ih]
    split <;> simp_all

/-- The smallest counter among the free ways is one's, and no free way has a smaller one. -/
theorem leastConfidence_eq_some {ws : List CacheLine} {m : Nat} (h : leastConfidence ws = some m) :
    (∃ l ∈ ws, l.busy = false ∧ l.confidence = m) ∧ ∀ l ∈ ws, l.busy = false → m ≤ l.confidence := by
  induction ws generalizing m with
  | nil => cases h
  | cons l ws ih =>
    rw [leastConfidence] at h
    split at h
    · rename_i hbusy
      obtain ⟨⟨k, hk, hkm⟩, hmin⟩ := ih h
      exact ⟨⟨k, List.mem_cons_of_mem _ hk, hkm⟩, by simpa [hbusy] using hmin⟩
    · rename_i hfree hnone
      cases h
      have hbusy := (leastConfidence_eq_none_iff ws).1 hnone
      exact ⟨⟨l, List.mem_cons_self .., hfree, rfl⟩, List.forall_mem_cons.2 ⟨fun _ => le_rfl, fun k hk hkfree => by
        rw [hbusy k hk] at hkfree
        cases hkfree⟩⟩
    · rename_i m' hfree hsome
      cases h
      obtain ⟨⟨k, hk, hkfree, hkm⟩, hmin⟩ := ih hsome
      refine ⟨?_, List.forall_mem_cons.2
        ⟨fun _ => min_le_left .., fun a ha hafree => (min_le_right ..).trans (hmin a ha hafree)⟩⟩
      rcases le_total l.confidence m' with hle | hle
      · exact ⟨l, List.mem_cons_self .., hfree, (min_eq_left hle).symm⟩
      · exact ⟨k, List.mem_cons_of_mem _ hk, hkfree, by rw [hkm, min_eq_right hle]⟩

/-- The counters of the free ways, lowered by one amount. -/
def lowerFree (m : Nat) (l : CacheLine) : CacheLine := if l.busy then l else { l with confidence := l.confidence - m }

@[simp] theorem lowerFree_busy (m : Nat) (l : CacheLine) : (lowerFree m l).busy = l.busy := by
  unfold lowerFree
  split <;> rfl

theorem lowerFree_confidence {m : Nat} {l : CacheLine} (h : l.busy = false) :
    (lowerFree m l).confidence = l.confidence - m := by
  simp [lowerFree, h]

/-- The counter alone is lowered. -/
theorem lowerFree_eq (m : Nat) (l : CacheLine) : lowerFree m l = { l with confidence := (lowerFree m l).confidence } := by
  unfold lowerFree
  split <;> rfl

theorem lowerFree_confidence_le (m : Nat) (l : CacheLine) : (lowerFree m l).confidence ≤ l.confidence := by
  unfold lowerFree
  split
  · exact le_rfl
  · exact Nat.sub_le ..

theorem victim_of_zero {ws : List CacheLine} {i : Nat} (h : freeZeroWay ws = some i) : victim ws = some (ws, i) := by
  simp [victim, h]

theorem victim_of_least {ws : List CacheLine} {m : Nat} (hzero : freeZeroWay ws = none)
    (hleast : leastConfidence ws = some m) :
    victim ws = (freeZeroWay (ws.map (lowerFree m))).map fun i => (ws.map (lowerFree m), i) := by
  simp only [victim, hzero, hleast]
  rfl

theorem victim_of_busy {ws : List CacheLine} (h : ∀ l ∈ ws, l.busy = true) : victim ws = none := by
  have hzero := (freeZeroWay_eq_none_iff ws).2 fun l hl => .inl (h l hl)
  simp [victim, hzero, (leastConfidence_eq_none_iff ws).2 h]

/-- The choice of a victim leaves the set's lines but for their counters, of which none rises, and its way is free with
counter 0. -/
theorem victim_spec {ws ws' : List CacheLine} {i : Nat} (h : victim ws = some (ws', i)) :
    freeZeroWay ws' = some i ∧
      ∃ k : CacheLine → Nat, (∀ l, k l ≤ l.confidence) ∧ ws' = ws.map fun l => { l with confidence := k l } := by
  cases hzero : freeZeroWay ws with
  | some j =>
    rw [victim_of_zero hzero] at h
    cases h
    exact ⟨hzero, fun l => l.confidence, fun _ => le_rfl, (List.map_id' ws).symm⟩
  | none =>
    cases hleast : leastConfidence ws with
    | none =>
      rw [victim_of_busy ((leastConfidence_eq_none_iff ws).1 hleast)] at h
      cases h
    | some m =>
      rw [victim_of_least hzero hleast, Option.map_eq_some_iff] at h
      obtain ⟨j, hj, hp⟩ := h
      cases hp
      exact ⟨hj, fun l => (lowerFree m l).confidence, lowerFree_confidence_le m,
        List.map_congr_left fun l _ => lowerFree_eq m l⟩

/-! ### O36 -/

/-- Settles O36: the two searches of R101 find the lowest way of the smallest counter, which the lowering takes to 0. -/
theorem victimIsTheLowestWayOfLeastConfidence : Obligations.VictimIsTheLowestWayOfLeastConfidence := by
  intro ws
  refine ⟨fun i l hl hfree hzero hbelow => ?_, fun i l hl hfree hpos hleast hbelow => ?_, victim_of_busy⟩
  · exact victim_of_zero ((freeZeroWay_eq_some_iff ws i).2 ⟨⟨l, hl, hfree, hzero⟩, hbelow⟩)
  · have hmem : l ∈ ws := List.mem_of_getElem? hl
    have hnone : freeZeroWay ws = none := by
      refine (freeZeroWay_eq_none_iff ws).2 fun k hk => ?_
      cases hkfree : k.busy with
      | true => exact .inl rfl
      | false => exact .inr (by have := hleast k hk hkfree; omega)
    obtain ⟨m, hm⟩ : ∃ m, leastConfidence ws = some m := by
      rw [← Option.ne_none_iff_exists', ne_eq, leastConfidence_eq_none_iff]
      intro hbusy
      rw [hbusy l hmem] at hfree
      cases hfree
    obtain ⟨⟨k, hk, hkfree, hkm⟩, hmin⟩ := leastConfidence_eq_some hm
    obtain rfl : m = l.confidence := le_antisymm (hmin l hmem hfree) (hkm ▸ hleast k hk hkfree)
    have hfound : freeZeroWay (ws.map (lowerFree l.confidence)) = some i := by
      refine (freeZeroWay_eq_some_iff _ i).2 ⟨⟨lowerFree l.confidence l, by simp [hl], by simp [hfree], ?_⟩, ?_⟩
      · rw [lowerFree_confidence hfree, Nat.sub_self]
      · intro j a hj ha
        rw [List.getElem?_map, Option.map_eq_some_iff] at ha
        obtain ⟨b, hb, rfl⟩ := ha
        cases hbfree : b.busy with
        | true => exact .inl (by simpa using hbfree)
        | false =>
          refine .inr ?_
          rw [lowerFree_confidence hbfree]
          have hle := hleast b (List.mem_of_getElem? hb) hbfree
          have hne : b.confidence ≠ l.confidence := by simpa [hbfree] using hbelow j b hj hb
          omega
    rw [victim_of_least hnone hm, hfound]
    rfl

end Sys2Proof.Machine

/-! SUPPORT. The operations of the tile cache: what each leaves valid and in flight, and that it keeps a cache lawful
(R98 to R111). -/

namespace Sys2Proof.Machine

/-! ### A lawful cache by its sectors -/

/-- The sectors of the fill queue, in its order. -/
def Cache.fillKeys (c : Cache) : List (Nat × Nat) := c.fills.map fun f => (f.tile, f.sector)

/-- The sectors of the reads under way, in the order of their grants. -/
def Cache.readKeys (c : Cache) : List (Nat × Nat) := c.reads.map fun r => (r.tile, r.sector)

/-- The sectors of the granted entries of the fill queue. -/
def Cache.grantedKeys (c : Cache) : List (Nat × Nat) :=
  (c.fills.filter (·.granted)).map fun f => (f.tile, f.sector)

/-- The shape of the sets, and the agreement of marks, fill queue and reads under way (R98, R103, R109). -/
structure Cache.Consistent (c : Cache) : Prop where
  shape : c.shapely
  marks : ∀ t n, c.inFlight t n = true ↔ (t, n) ∈ c.fillKeys
  fillsOnce : c.fillKeys.Nodup
  readsOnce : c.readKeys.Nodup
  readsGranted : ∀ q ∈ c.readKeys, q ∈ c.grantedKeys

theorem Cache.mem_fillKeys (c : Cache) (t n : Nat) :
    (t, n) ∈ c.fillKeys ↔ ∃ f ∈ c.fills, f.tile = t ∧ f.sector = n := by
  simp [Cache.fillKeys]

theorem Cache.mem_grantedKeys (c : Cache) (t n : Nat) :
    (t, n) ∈ c.grantedKeys ↔ ∃ f ∈ c.fills, f.tile = t ∧ f.sector = n ∧ f.granted = true := by
  simp only [Cache.grantedKeys, List.mem_map, List.mem_filter, Prod.mk.injEq]
  exact exists_congr fun f => by tauto

theorem Cache.mem_fillKeys_of_granted {c : Cache} {q : Nat × Nat} (h : q ∈ c.grantedKeys) : q ∈ c.fillKeys :=
  List.map_subset _ (List.filter_subset_self _) h

theorem Cache.lawful_iff_consistent (c : Cache) : c.lawful ↔ c.Consistent := by
  have hmarks : (∀ t n, c.inFlight t n = true ↔ ∃ f ∈ c.fills, f.tile = t ∧ f.sector = n) ↔
      ∀ t n, c.inFlight t n = true ↔ (t, n) ∈ c.fillKeys :=
    forall₂_congr fun t n => by rw [Cache.mem_fillKeys]
  have hreads : (∀ r ∈ c.reads, ∃ f ∈ c.fills, f.tile = r.tile ∧ f.sector = r.sector ∧ f.granted = true) ↔
      ∀ q ∈ c.readKeys, q ∈ c.grantedKeys := by
    rw [Cache.readKeys, List.forall_mem_map]
    exact forall₂_congr fun r _ => (c.mem_grantedKeys r.tile r.sector).symm
  rw [Cache.lawful_iff, hmarks, hreads]
  exact ⟨fun ⟨h1, h2, h3, h4, h5⟩ => ⟨h1, h2, h3, h4, h5⟩, fun h => ⟨h.1, h.2, h.3, h.4, h.5⟩⟩

theorem Cache.inFlight_congr {c c' : Cache} {t n : Nat} (h : c'.slotAt t n = c.slotAt t n) :
    c'.inFlight t n = c.inFlight t n := by
  rw [Cache.inFlight_eq, Cache.inFlight_eq, h]

theorem Cache.valid?_congr {c c' : Cache} {t n : Nat} (h : c'.slotAt t n = c.slotAt t n) :
    c'.valid? t n = c.valid? t n := by
  rw [Cache.valid?_eq, Cache.valid?_eq, h]

/-- A sector in the fill queue is one of the four of a line that is present (R103). -/
theorem Cache.Consistent.present {c : Cache} (h : c.Consistent) {t n : Nat} (hq : (t, n) ∈ c.fillKeys) :
    ∃ l, c.line? t = some l ∧ n < l.sectors.length := by
  have hmark := (h.marks t n).2 hq
  cases hl : c.line? t with
  | none =>
    rw [Cache.inFlight_eq, Cache.slotAt_of_absent hl] at hmark
    cases hmark
  | some l =>
    refine ⟨l, rfl, Nat.lt_of_not_le fun hle => ?_⟩
    rw [Cache.inFlight_eq, Cache.slotAt_of_line hl, CacheLine.slot_of_length_le hle] at hmark
    cases hmark

/-- A change of the sets alone that keeps their shape and every mark keeps a cache consistent. -/
theorem Cache.Consistent.of_sets {c c' : Cache} (h : c.Consistent) (hshape : c'.shapely)
    (hmarks : ∀ t n, c'.inFlight t n = c.inFlight t n) (hfills : c'.fills = c.fills) (hreads : c'.reads = c.reads) :
    c'.Consistent := by
  obtain ⟨-, h2, h3, h4, h5⟩ := h
  unfold Cache.fillKeys at h2 h3
  unfold Cache.readKeys at h4 h5
  unfold Cache.grantedKeys at h5
  refine ⟨hshape, fun t n => ?_, ?_, ?_, ?_⟩
  · rw [hmarks, h2, Cache.fillKeys, hfills]
  · rwa [Cache.fillKeys, hfills]
  · rwa [Cache.readKeys, hreads]
  · rwa [Cache.readKeys, Cache.grantedKeys, hreads, hfills]

/-- A change of the fill queue that keeps the sector of every entry, and its grant, keeps a cache consistent. -/
theorem Cache.Consistent.map_fills {c : Cache} (h : c.Consistent) {g : Fill → Fill} (htile : ∀ f, (g f).tile = f.tile)
    (hsector : ∀ f, (g f).sector = f.sector) (hgranted : ∀ f, (g f).granted = f.granted) :
    ({ c with fills := c.fills.map g } : Cache).Consistent := by
  obtain ⟨h1, h2, h3, h4, h5⟩ := h
  have hkeys : ({ c with fills := c.fills.map g } : Cache).fillKeys = c.fillKeys := by
    simp [Cache.fillKeys, Function.comp_def, htile, hsector]
  have hgrants : ({ c with fills := c.fills.map g } : Cache).grantedKeys = c.grantedKeys := by
    simp [Cache.grantedKeys, List.filter_map, Function.comp_def, htile, hsector, hgranted]
  refine ⟨h1, fun t n => ?_, by rwa [hkeys], h4, fun q hq => ?_⟩
  · rw [hkeys]
    exact h2 t n
  · rw [hgrants]
    exact h5 q hq

/-! ### A use and an upgrade (R100, R104) -/

theorem Cache.slotAt_use (c : Cache) (t t' n : Nat) : (c.use t).slotAt t' n = c.slotAt t' n := by
  have hline := c.line?_mapLine (f := fun l => { l with confidence := min 3 (l.confidence + 1) }) (fun _ => rfl) t t'
  unfold Cache.slotAt Cache.use
  rw [hline]
  cases c.line? t' with
  | none => rfl
  | some l => by_cases h : t' = t <;> simp [h, CacheLine.slot]

theorem Cache.shapely.use {c : Cache} (h : c.shapely) (t : Nat) : (c.use t).shapely :=
  h.mapLine t (fun _ => rfl) (fun _ => rfl) fun _ _ => min_le_left ..

/-! ### An entry for a sector (R103) -/

@[simp] theorem Cache.addFill_fills (c : Cache) (t n : Nat) (d : Bool) :
    (c.addFill t n d).fills = c.fills ++ [⟨t, n, d, false, false⟩] := rfl
@[simp] theorem Cache.addFill_reads (c : Cache) (t n : Nat) (d : Bool) : (c.addFill t n d).reads = c.reads := rfl

/-- The mark of the sector is set, where its line is present, and no byte moves. -/
theorem Cache.slotAt_addFill (c : Cache) (t n : Nat) (d : Bool) (t' n' : Nat) :
    (c.addFill t n d).slotAt t' n' =
      if t' = t ∧ n' = n ∧ ∃ l, c.line? t = some l ∧ n < l.sectors.length then { c.slotAt t n with inFlight := true }
      else c.slotAt t' n' :=
  (Cache.slotAt_congr_sets (c := c.mapLine t _) rfl t' n').trans (Cache.slotAt_mapSlot ..)

theorem Cache.valid?_addFill (c : Cache) (t n : Nat) (d : Bool) (t' n' : Nat) :
    (c.addFill t n d).valid? t' n' = c.valid? t' n' := by
  rw [Cache.valid?_eq, Cache.valid?_eq, Cache.slotAt_addFill]
  split
  · rename_i h
    rw [h.1, h.2.1]
  · rfl

theorem Cache.line?_addFill (c : Cache) (t n : Nat) (d : Bool) :
    (c.addFill t n d).line? t = (c.line? t).map (CacheLine.mapSlot n fun d => { d with inFlight := true }) :=
  Cache.line?_mapLine_same (f := CacheLine.mapSlot n fun d => { d with inFlight := true })
    (CacheLine.mapSlot_tag n _) c t

section AddFill
variable {c : Cache} {t n : Nat} (hshape : c.shapely) (hline : c.line? t ≠ none) (hn : n < 4) (d : Bool)
include hshape hline hn

theorem Cache.inFlight_addFill (t' n' : Nat) :
    (c.addFill t n d).inFlight t' n' = (decide (t' = t ∧ n' = n) || c.inFlight t' n') := by
  obtain ⟨l, hl⟩ := Option.ne_none_iff_exists'.1 hline
  have hlen : n < l.sectors.length := by rwa [hshape.line_length hl]
  rw [Cache.inFlight_eq, Cache.inFlight_eq, Cache.slotAt_addFill]
  by_cases h : t' = t ∧ n' = n
  · simp [h, hl, hlen]
  · rw [if_neg fun h' => h ⟨h'.1, h'.2.1⟩]
    simp [h]

theorem Cache.inFlight_addFill_self : (c.addFill t n d).inFlight t n = true := by
  simp [Cache.inFlight_addFill hshape hline hn]

end AddFill

/-- A new entry for a sector of a line that is present, with no fill in flight, keeps a cache consistent. -/
theorem Cache.Consistent.addFill {c : Cache} (h : c.Consistent) {t n : Nat} (hline : c.line? t ≠ none) (hn : n < 4)
    (hfree : c.inFlight t n = false) (d : Bool) : (c.addFill t n d).Consistent := by
  have hnew : (t, n) ∉ c.fillKeys := fun hq => by
    rw [(h.marks t n).2 hq] at hfree
    cases hfree
  have hkeys : (c.addFill t n d).fillKeys = c.fillKeys ++ [(t, n)] := by simp [Cache.fillKeys]
  refine ⟨(Cache.shapely_congr rfl).1 (h.shape.mapSlot t n _), fun t' n' => ?_, ?_, h.readsOnce, fun q hq => ?_⟩
  · rw [Cache.inFlight_addFill h.shape hline hn, hkeys, Bool.or_eq_true, h.marks, List.mem_append, List.mem_singleton,
      Prod.mk.injEq, decide_eq_true_iff, or_comm]
  · rw [hkeys]
    exact List.nodup_append.2 ⟨h.fillsOnce, List.nodup_singleton _, fun a ha b hb hab =>
      hnew (by rw [← List.mem_singleton.1 hb, ← hab]; exact ha)⟩
  · have := h.readsGranted q hq
    simpa [Cache.grantedKeys] using this

/-! ### A way allocated to an absent tile (R99, R101) -/

theorem CacheLine.slot_allocated (t n : Nat) : (CacheLine.allocated t).slot n = .empty := by
  simp only [CacheLine.slot, CacheLine.allocated, List.getD_eq_getElem?_getD, List.getElem?_replicate]
  split <;> rfl

/-- No sector of a way that is free to replace is in flight. -/
theorem CacheLine.slot_inFlight_of_free {l : CacheLine} (h : l.busy = false) (n : Nat) : (l.slot n).inFlight = false := by
  by_cases hn : n < l.sectors.length
  · rw [CacheLine.slot, List.getD_eq_getElem _ _ hn]
    rw [CacheLine.busy, List.any_eq_false] at h
    simpa using h _ (List.getElem_mem hn)
  · rw [CacheLine.slot_of_length_le (Nat.le_of_not_lt hn)]
    rfl

/-- A way of a tile's set allocated to it, the set's counters as the choice of the way leaves them. -/
def Cache.allocate (c : Cache) (t : Nat) (k : CacheLine → Nat) (i : Nat) : Cache :=
  c.setWays t (((c.ways t).map fun l => { l with confidence := k l }).set i (.allocated t))

section Allocate
variable {c : Cache} (hshape : c.shapely) {t : Nat} (habsent : c.line? t = none) {k : CacheLine → Nat}
  (hk : ∀ l, k l ≤ l.confidence) {i : Nat}
include hshape

include habsent in
include hk in
theorem Cache.allocate_shapely : (c.allocate t k i).shapely := by
  refine hshape.setWays (waysLawful.set_allocated ((hshape.ways t).map ?_ ?_ ?_) (fun l hl => ?_) i)
  · exact fun _ => rfl
  · exact fun _ => rfl
  · exact fun l hl => (hk l).trans hl
  · obtain ⟨l0, hl0, rfl⟩ := List.mem_map.1 hl
    exact (c.line?_eq_none_iff t).1 habsent l0 hl0

/-- A line found behind the allocation is the one allocated, or one found before but for its counter. -/
theorem Cache.line?_allocate_cases {t' : Nat} {l : CacheLine} (h : (c.allocate t k i).line? t' = some l) :
    (t' = t ∧ l = .allocated t) ∨ ∃ l0, c.line? t' = some l0 ∧ l.sectors = l0.sectors := by
  by_cases hset : setOf t' = setOf t
  · have hmem := Cache.line?_mem h
    rw [Cache.ways_eq_of_setOf hset, Cache.allocate, Cache.ways_setWays_same (hshape.setOf_lt t)] at hmem
    have htag := Cache.line?_tag h
    rcases List.mem_or_eq_of_mem_set hmem with hmem | rfl
    · obtain ⟨l0, hl0, rfl⟩ := List.mem_map.1 hmem
      refine .inr ⟨l0, (hshape.line?_eq_some_iff t' l0).2 ⟨?_, htag⟩, rfl⟩
      rwa [Cache.ways_eq_of_setOf hset]
    · exact .inl ⟨(Option.some.inj htag).symm, rfl⟩
  · refine .inr ⟨l, ?_, rfl⟩
    unfold Cache.line? at h ⊢
    rwa [Cache.allocate, Cache.ways_setWays_other hset] at h

include habsent in
/-- A slot behind the allocation is as before, or was of the line that the way held: empty now, and not in flight
before. -/
theorem Cache.slotAt_allocate_cases (hfree : ∃ l, (c.ways t)[i]? = some l ∧ l.busy = false) (t' n : Nat) :
    (c.allocate t k i).slotAt t' n = c.slotAt t' n ∨
      ((c.allocate t k i).slotAt t' n = .empty ∧ (c.slotAt t' n).inFlight = false) := by
  cases hl : (c.allocate t k i).line? t' with
  | some l =>
    rw [Cache.slotAt_of_line hl]
    rcases Cache.line?_allocate_cases hshape hl with ⟨rfl, rfl⟩ | ⟨l0, hl0, hsectors⟩
    · exact .inl (by rw [Cache.slotAt_of_absent habsent, CacheLine.slot_allocated])
    · exact .inl (by rw [Cache.slotAt_of_line hl0, CacheLine.slot, hsectors]; rfl)
  | none =>
    rw [Cache.slotAt_of_absent hl]
    cases hl0 : c.line? t' with
    | none => exact .inl (Cache.slotAt_of_absent hl0 n).symm
    | some l0 =>
      refine .inr ⟨rfl, ?_⟩
      rw [Cache.slotAt_of_line hl0]
      obtain ⟨lv, hlv, hvfree⟩ := hfree
      obtain ⟨j, hj⟩ := List.mem_iff_getElem?.1 (Cache.line?_mem hl0)
      by_cases hset : setOf t' = setOf t
      · rw [Cache.ways_eq_of_setOf hset] at hj
        by_cases hji : j = i
        · obtain rfl : l0 = lv := Option.some.inj (hj.symm.trans (hji ▸ hlv))
          exact CacheLine.slot_inFlight_of_free hvfree n
        · refine absurd (Cache.line?_tag hl0) ((Cache.line?_eq_none_iff _ t').1 hl { l0 with confidence := k l0 } ?_)
          rw [Cache.ways_eq_of_setOf hset, Cache.allocate, Cache.ways_setWays_same (hshape.setOf_lt t)]
          refine List.mem_iff_getElem?.2 ⟨j, ?_⟩
          rw [List.getElem?_set_ne (Ne.symm hji), List.getElem?_map, hj]
          rfl
      · have hsame : (c.allocate t k i).line? t' = c.line? t' := by
          unfold Cache.line?
          rw [Cache.allocate, Cache.ways_setWays_other hset]
        rw [hl, hl0] at hsame
        cases hsame

include habsent in
/-- No byte becomes valid by an allocation. -/
theorem Cache.valid?_of_allocate (hfree : ∃ l, (c.ways t)[i]? = some l ∧ l.busy = false) {t' n : Nat}
    {bs : List Byte} (h : (c.allocate t k i).valid? t' n = some bs) : c.valid? t' n = some bs := by
  rw [Cache.valid?_eq] at h ⊢
  rcases Cache.slotAt_allocate_cases hshape habsent hfree (k := k) t' n with hs | ⟨hs, -⟩ <;> rw [hs] at h
  · exact h
  · cases h

include habsent in
/-- The marks stay, for the way was free. -/
theorem Cache.inFlight_allocate (hfree : ∃ l, (c.ways t)[i]? = some l ∧ l.busy = false) (t' n : Nat) :
    (c.allocate t k i).inFlight t' n = c.inFlight t' n := by
  rw [Cache.inFlight_eq, Cache.inFlight_eq]
  rcases Cache.slotAt_allocate_cases hshape habsent hfree (k := k) t' n with hs | ⟨hs, hold⟩ <;> rw [hs]
  rw [hold]
  rfl

include habsent hk in
/-- The line allocated is found, with its counter at 1 and nothing valid. -/
theorem Cache.line?_allocate (hi : i < 4) : (c.allocate t k i).line? t = some (.allocated t) := by
  refine ((Cache.allocate_shapely hshape habsent hk).line?_eq_some_iff t _).2 ⟨?_, rfl⟩
  rw [Cache.allocate, Cache.ways_setWays_same (hshape.setOf_lt t)]
  exact List.mem_set (by simpa [(hshape.ways t).1] using hi) _

end Allocate

theorem Cache.Consistent.allocate {c : Cache} (h : c.Consistent) {t : Nat} (habsent : c.line? t = none)
    {k : CacheLine → Nat} (hk : ∀ l, k l ≤ l.confidence) {i : Nat}
    (hfree : ∃ l, (c.ways t)[i]? = some l ∧ l.busy = false) : (c.allocate t k i).Consistent :=
  h.of_sets (Cache.allocate_shapely h.shape habsent hk) (Cache.inFlight_allocate h.shape habsent hfree) rfl rfl

/-- A way that is found is one of the four. -/
theorem Cache.shapely.way_lt {c : Cache} (h : c.shapely) {t i : Nat}
    (hfree : ∃ l, (c.ways t)[i]? = some l ∧ l.busy = false) : i < 4 := by
  obtain ⟨l, hl, -⟩ := hfree
  rw [← (h.ways t).1]
  exact (List.getElem?_eq_some_iff.1 hl).1

/-- The victim's way is free, and its allocation is one of those above (R101). -/
theorem Cache.allocate_of_victim {c : Cache} {t i : Nat} {ws : List CacheLine} (h : victim (c.ways t) = some (ws, i)) :
    ∃ k : CacheLine → Nat, (∀ l, k l ≤ l.confidence) ∧ (∃ l, (c.ways t)[i]? = some l ∧ l.busy = false) ∧
      c.setWays t (ws.set i (.allocated t)) = c.allocate t k i := by
  obtain ⟨hway, k, hk, rfl⟩ := victim_spec h
  obtain ⟨⟨l, hl, hfree, -⟩, -⟩ := (freeZeroWay_eq_some_iff _ i).1 hway
  rw [List.getElem?_map, Option.map_eq_some_iff] at hl
  obtain ⟨l0, hl0, rfl⟩ := hl
  exact ⟨k, hk, ⟨l0, hl0, hfree⟩, rfl⟩

/-- So is that of a free way of counter 0, which changes no counter (R108). -/
theorem Cache.allocate_of_freeZeroWay {c : Cache} {t i : Nat} (h : freeZeroWay (c.ways t) = some i) :
    (∃ l, (c.ways t)[i]? = some l ∧ l.busy = false) ∧
      c.setWays t ((c.ways t).set i (.allocated t)) = c.allocate t (·.confidence) i := by
  obtain ⟨⟨l, hl, hfree, -⟩, -⟩ := (freeZeroWay_eq_some_iff _ i).1 h
  exact ⟨⟨l, hl, hfree⟩, by rw [Cache.allocate, List.map_id']⟩

/-! ### What the builder's reads leave (R99 to R108) -/

theorem Cache.isVoid_append (c c' : Cache) (f : Fill) (hfills : c'.fills = c.fills ++ [f]) (hvoid : f.void = false)
    (t n : Nat) : c'.isVoid t n = c.isVoid t n := by
  simp [Cache.isVoid, hfills, hvoid]

theorem Cache.isVoid_map {c c' : Cache} {g : Fill → Fill} (hfills : c'.fills = c.fills.map g)
    (htile : ∀ f, (g f).tile = f.tile) (hsector : ∀ f, (g f).sector = f.sector) (hvoid : ∀ f, (g f).void = f.void)
    (t n : Nat) : c'.isVoid t n = c.isVoid t n := by
  simp [Cache.isVoid, hfills, Function.comp_def, htile, hsector, hvoid]

/-- All that the builder's reads, and the prefetches and uses they bring, can do to the cache: it stays lawful, nothing
becomes valid, and neither the reads under way nor the void marks move. -/
structure Cache.Serves (c c' : Cache) : Prop where
  consistent : c.Consistent → c'.Consistent
  valid : c.Consistent → ∀ t n bs, c'.valid? t n = some bs → c.valid? t n = some bs
  reads : c'.reads = c.reads
  void : ∀ t n, c'.isVoid t n = c.isVoid t n

namespace Cache.Serves

theorem refl (c : Cache) : c.Serves c := ⟨id, fun _ _ _ _ => id, rfl, fun _ _ => rfl⟩

theorem trans {c c' c'' : Cache} (h : c.Serves c') (k : c'.Serves c'') : c.Serves c'' :=
  ⟨fun hc => k.consistent (h.consistent hc),
    fun hc t n bs hv => h.valid hc t n bs (k.valid (h.consistent hc) t n bs hv), k.reads.trans h.reads,
    fun t n => (k.void t n).trans (h.void t n)⟩

theorem use (c : Cache) (t : Nat) : c.Serves (c.use t) where
  consistent h := h.of_sets (h.shape.use t) (fun t' n => Cache.inFlight_congr (c.slotAt_use t t' n)) rfl rfl
  valid _ t' n bs hv := by rwa [Cache.valid?_congr (c.slotAt_use t t' n)] at hv
  reads := rfl
  void _ _ := rfl

theorem upgrade (c : Cache) (t n : Nat) : c.Serves (c.upgrade t n) where
  consistent h := h.map_fills (fun f => by split <;> rfl) (fun f => by split <;> rfl) fun f => by split <;> rfl
  valid _ _ _ _ hv := hv
  reads := rfl
  void := Cache.isVoid_map rfl (fun f => by split <;> rfl) (fun f => by split <;> rfl) fun f => by split <;> rfl

theorem addFill {c : Cache} {t n : Nat} (hline : c.line? t ≠ none) (hn : n < 4) (hfree : c.inFlight t n = false)
    (d : Bool) : c.Serves (c.addFill t n d) where
  consistent h := h.addFill hline hn hfree d
  valid _ t' n' bs hv := by rwa [Cache.valid?_addFill] at hv
  reads := rfl
  void := Cache.isVoid_append _ _ _ rfl rfl

/-- An allocation and the entry it is made for. -/
theorem allocate_addFill {c : Cache} {t n : Nat} (habsent : c.line? t = none) (hn : n < 4) {k : CacheLine → Nat}
    (hk : ∀ l, k l ≤ l.confidence) {i : Nat} (hfree : ∃ l, (c.ways t)[i]? = some l ∧ l.busy = false) (d : Bool) :
    c.Serves ((c.allocate t k i).addFill t n d) where
  consistent h := by
    have hi := h.shape.way_lt hfree
    refine (h.allocate habsent hk hfree).addFill ?_ hn ?_ d
    · rw [Cache.line?_allocate h.shape habsent hk hi]
      exact Option.some_ne_none _
    · rw [Cache.inFlight_allocate h.shape habsent hfree, Cache.inFlight_eq, Cache.slotAt_of_absent habsent]
      rfl
  valid h t' n' bs hv := by
    rw [Cache.valid?_addFill] at hv
    exact Cache.valid?_of_allocate h.shape habsent hfree hv
  reads := rfl
  void := Cache.isVoid_append _ _ _ rfl rfl

/-- A read by the builder of one of a tile's four sectors (R99). -/
theorem read (c : Cache) (t : Nat) {n : Nat} (hn : n < 4) : c.Serves (c.read t n).1 := by
  rcases c.read_cases t n with ⟨h, -⟩ | ⟨h, -, -⟩ | ⟨h, hline, hfree, -⟩ | ⟨ws, i, hv, habsent, -, h⟩ | ⟨h, -⟩ <;> rw [h]
  · exact use c t
  · exact upgrade c t n
  · exact addFill hline hn hfree true
  · obtain ⟨k, hk, hfree, heq⟩ := Cache.allocate_of_victim hv
    rw [heq]
    exact allocate_addFill habsent hn hk hfree true
  · exact refl c

/-- A considered prefetch of one of a tile's four sectors (R108). -/
theorem prefetch (c : Cache) (t : Nat) {n : Nat} (hn : n < 4) : c.Serves (c.prefetch t n) := by
  rcases c.prefetch_cases t n with h | ⟨-, hfree, -, ⟨hline, h⟩ | ⟨i, habsent, hway, h⟩⟩ <;> rw [h]
  · exact refl c
  · exact addFill hline hn hfree false
  · obtain ⟨hway, heq⟩ := Cache.allocate_of_freeZeroWay hway
    rw [heq]
    exact allocate_addFill habsent hn (fun _ => le_rfl) hway false

/-- The prefetch of a read is of one of the four sectors (R107). -/
theorem considerPrefetch (c : Cache) (p : PhotoRef) (t n : Nat) : c.Serves (c.considerPrefetch p t n) := by
  unfold Cache.considerPrefetch prefetchTarget
  split
  · exact refl c
  · rename_i t' n' h
    split at h
    · cases h
    · split at h <;> cases h
      · exact prefetch c _ (by omega)
      · exact prefetch c _ (by decide)

end Cache.Serves

/-! ### The fill unit (R105, R109) and a write of library memory (R111) -/

/-- One entry alone stands in the queue for a sector. -/
theorem Cache.Consistent.fill_unique {c : Cache} (h : c.Consistent) {f g : Fill} (hf : f ∈ c.fills) (hg : g ∈ c.fills)
    (htile : g.tile = f.tile) (hsector : g.sector = f.sector) : g = f :=
  List.inj_on_of_nodup_map h.fillsOnce hg hf (by rw [htile, hsector])

/-- A waiting entry has no read under way. -/
theorem Cache.Consistent.not_mem_readKeys {c : Cache} (h : c.Consistent) {f : Fill} (hf : f ∈ c.fills)
    (hwaits : f.granted = false) : (f.tile, f.sector) ∉ c.readKeys := fun hmem => by
  obtain ⟨g, hg, htile, hsector, hgranted⟩ := (c.mem_grantedKeys ..).1 (h.readsGranted _ hmem)
  rw [h.fill_unique hf hg htile hsector, hwaits] at hgranted
  cases hgranted

/-- A grant of a waiting entry keeps a cache consistent, whatever bytes its read takes (R109). -/
theorem Cache.Consistent.grant {c : Cache} (h : c.Consistent) {f : Fill} (hf : c.nextGrant = some f) (bs : List Byte) :
    (c.grant f bs).Consistent := by
  obtain ⟨hmem, hwaits⟩ := c.nextGrant_waiting f hf
  have hkeys : (c.grant f bs).fillKeys = c.fillKeys := by
    unfold Cache.fillKeys Cache.grant
    rw [List.map_map]
    exact List.map_congr_left fun g _ => by simp only [Function.comp_apply]; split <;> rfl
  have hreads : (c.grant f bs).readKeys = c.readKeys ++ [(f.tile, f.sector)] := by simp [Cache.readKeys, Cache.grant]
  have hgrants : ∀ g ∈ c.fills, g.granted = true ∨ (g.tile = f.tile ∧ g.sector = f.sector) →
      (g.tile, g.sector) ∈ (c.grant f bs).grantedKeys := fun g hg hor => by
    refine (Cache.mem_grantedKeys ..).2 ⟨_, List.mem_map_of_mem hg, ?_⟩
    by_cases heq : g.tile = f.tile ∧ g.sector = f.sector
    · simp [heq]
    · simpa [heq] using hor
  refine ⟨h.shape, fun t n => ?_, by rw [hkeys]; exact h.fillsOnce, ?_, ?_⟩
  · rw [hkeys]
    exact h.marks t n
  · rw [hreads]
    exact List.nodup_append.2 ⟨h.readsOnce, List.nodup_singleton _, fun a ha b hb hab =>
      h.not_mem_readKeys hmem hwaits (by rw [← List.mem_singleton.1 hb, ← hab]; exact ha)⟩
  · rw [hreads, List.forall_mem_append]
    refine ⟨fun q hq => ?_, fun q hq => ?_⟩
    · obtain ⟨t, n⟩ := q
      obtain ⟨g, hg, rfl, rfl, hgranted⟩ := (c.mem_grantedKeys t n).1 (h.readsGranted _ hq)
      exact hgrants g hg (.inl hgranted)
    · rw [List.mem_singleton.1 hq]
      exact hgrants f hmem (.inr ⟨rfl, rfl⟩)

theorem Cache.isVoid_grant (c : Cache) (f : Fill) (bs : List Byte) (t n : Nat) :
    (c.grant f bs).isVoid t n = c.isVoid t n :=
  Cache.isVoid_map rfl (fun g => by split <;> rfl) (fun g => by split <;> rfl) (fun g => by split <;> rfl) t n

/-- The oldest read under way has its entry in the queue, so its line is present. -/
theorem Cache.Consistent.read_present {c : Cache} (h : c.Consistent) {r : GrantedRead} (hr : r ∈ c.reads) :
    ∃ l, c.line? r.tile = some l ∧ r.sector < l.sectors.length :=
  h.present (Cache.mem_fillKeys_of_granted (h.readsGranted _ (List.mem_map_of_mem hr)))

@[simp] theorem Cache.complete_fills (c : Cache) (r : GrantedRead) (rest : List GrantedRead) :
    (c.complete r rest).fills = c.fills.filter fun f => !decide (f.tile = r.tile ∧ f.sector = r.sector) := rfl
@[simp] theorem Cache.complete_reads (c : Cache) (r : GrantedRead) (rest : List GrantedRead) :
    (c.complete r rest).reads = rest := rfl

section Complete
variable {c : Cache} (h : c.Consistent) {r : GrantedRead} {rest : List GrantedRead} (hr : c.reads = r :: rest)
include h hr

/-- The completed sector takes the bytes read where its entry is not void, and its mark is cleared; no other sector
moves. -/
theorem Cache.slotAt_complete (t n : Nat) :
    (c.complete r rest).slotAt t n =
      if t = r.tile ∧ n = r.sector then
        ⟨if c.isVoid r.tile r.sector then c.valid? r.tile r.sector else some r.bytes, false⟩
      else c.slotAt t n := by
  have hpresent := h.read_present (r := r) (by rw [hr]; exact List.mem_cons_self ..)
  refine (Cache.slotAt_congr_sets (c := c.mapLine r.tile _) rfl t n).trans ?_
  rw [Cache.slotAt_mapSlot]
  by_cases hkey : t = r.tile ∧ n = r.sector
  · rw [if_pos hkey, if_pos ⟨hkey.1, hkey.2, hpresent⟩, Cache.valid?_eq]
    cases c.isVoid r.tile r.sector <;> rfl
  · rw [if_neg hkey, if_neg fun hkey' => hkey ⟨hkey'.1, hkey'.2.1⟩]

theorem Cache.Consistent.complete : (c.complete r rest).Consistent := by
  have hkeys : (c.complete r rest).fillKeys = c.fillKeys.filter (· ≠ (r.tile, r.sector)) := by
    simp [Cache.fillKeys, List.filter_map, Function.comp_def, Prod.ext_iff]
  have hreads : c.readKeys = (r.tile, r.sector) :: (c.complete r rest).readKeys := by simp [Cache.readKeys, hr]
  have honce := h.readsOnce
  rw [hreads, List.nodup_cons] at honce
  refine ⟨(Cache.shapely_congr rfl).1 (h.shape.mapSlot r.tile r.sector _), fun t n => ?_, ?_, honce.2, fun q hq => ?_⟩
  · rw [Cache.inFlight_eq, Cache.slotAt_complete h hr, hkeys, List.mem_filter]
    by_cases hkey : t = r.tile ∧ n = r.sector
    · simp [hkey]
    · have := h.marks t n
      rw [Cache.inFlight_eq] at this
      simpa [hkey] using this
  · rw [hkeys]
    exact h.fillsOnce.filter _
  · have hne : q ≠ (r.tile, r.sector) := fun he => honce.1 (he ▸ hq)
    obtain ⟨g, hg, htile, hsector, hgranted⟩ :=
      (c.mem_grantedKeys q.1 q.2).1 (h.readsGranted q (by rw [hreads]; exact List.mem_cons_of_mem _ hq))
    refine (Cache.mem_grantedKeys _ q.1 q.2).2 ⟨g, List.mem_filter.2 ⟨hg, ?_⟩, htile, hsector, hgranted⟩
    rw [htile, hsector]
    simpa [-not_and, not_and_or, Prod.ext_iff] using hne

omit h hr in
/-- The void marks of the other sectors stay. -/
theorem Cache.isVoid_complete {t n : Nat} (hne : ¬(t = r.tile ∧ n = r.sector)) :
    (c.complete r rest).isVoid t n = c.isVoid t n := by
  simp only [Cache.isVoid, Cache.complete_fills, List.any_filter]
  congr 1
  funext f
  by_cases hf : f.tile = t ∧ f.sector = n
  · obtain ⟨rfl, rfl⟩ := hf
    simp [hne]
  · simp [hf]

end Complete

@[simp] theorem Cache.written_fills (c : Cache) (t n : Nat) :
    (c.written t n).fills = c.fills.map fun f => if f.tile = t ∧ f.sector = n then { f with void := true } else f := rfl
@[simp] theorem Cache.written_reads (c : Cache) (t n : Nat) : (c.written t n).reads = c.reads := rfl

/-- The written sector is dropped, its mark kept, and no other sector moves (R111). -/
theorem Cache.slotAt_written (c : Cache) (t n t' n' : Nat) :
    (c.written t n).slotAt t' n' =
      if t' = t ∧ n' = n then { c.slotAt t n with data := none } else c.slotAt t' n' := by
  refine (Cache.slotAt_congr_sets (c := c.mapLine t _) rfl t' n').trans ?_
  rw [Cache.slotAt_mapSlot]
  by_cases hkey : t' = t ∧ n' = n
  · rw [if_pos hkey]
    split
    · rfl
    · rename_i hpresent
      rw [hkey.1, hkey.2]
      suffices hempty : c.slotAt t n = .empty by rw [hempty]; rfl
      cases hl : c.line? t with
      | none => exact Cache.slotAt_of_absent hl n
      | some l =>
        rw [Cache.slotAt_of_line hl]
        exact CacheLine.slot_of_length_le (Nat.le_of_not_lt fun hlt => hpresent ⟨hkey.1, hkey.2, l, hl, hlt⟩)
  · rw [if_neg hkey, if_neg fun hkey' => hkey ⟨hkey'.1, hkey'.2.1⟩]

theorem Cache.valid?_written_self (c : Cache) (t n : Nat) : (c.written t n).valid? t n = none := by
  rw [Cache.valid?_eq, Cache.slotAt_written, if_pos ⟨rfl, rfl⟩]

theorem Cache.valid?_written_other {t n t' n' : Nat} (hne : ¬(t' = t ∧ n' = n)) (c : Cache) :
    (c.written t n).valid? t' n' = c.valid? t' n' := by
  rw [Cache.valid?_eq, Cache.valid?_eq, Cache.slotAt_written, if_neg hne]

theorem Cache.Consistent.written {c : Cache} (h : c.Consistent) (t n : Nat) : (c.written t n).Consistent := by
  have hmap : (c.mapLine t (CacheLine.mapSlot n fun d => { d with data := none })).Consistent := by
    refine h.of_sets (h.shape.mapSlot t n _) (fun t' n' => ?_) rfl rfl
    rw [Cache.inFlight_eq, Cache.inFlight_eq, Cache.slotAt_mapSlot]
    split
    · rename_i hkey
      rw [hkey.1, hkey.2.1]
    · rfl
  exact hmap.map_fills (fun f => by split <;> rfl) (fun f => by split <;> rfl) fun f => by split <;> rfl

/-- A fill in flight of the written sector is void now (R111). -/
theorem Cache.void_of_written {c : Cache} {t n : Nat} {f : Fill} (hf : f ∈ (c.written t n).fills) (htile : f.tile = t)
    (hsector : f.sector = n) : f.void = true := by
  obtain ⟨g, -, rfl⟩ := List.mem_map.1 hf
  by_cases hg : g.tile = t ∧ g.sector = n
  · rw [if_pos hg]
  · rw [if_neg hg] at htile hsector
    exact absurd ⟨htile, hsector⟩ hg

theorem Cache.isVoid_written_other {t n t' n' : Nat} (hne : ¬(t' = t ∧ n' = n)) (c : Cache) :
    (c.written t n).isVoid t' n' = c.isVoid t' n' := by
  simp only [Cache.isVoid, Cache.written_fills, List.any_map]
  congr 1
  funext f
  by_cases hf : f.tile = t ∧ f.sector = n
  · have hother : t = t' → n ≠ n' := fun ht hn => hne ⟨ht.symm, hn.symm⟩
    simpa [hf] using fun ht hn => absurd hn (hother ht)
  · simp [hf]

theorem Cache.isVoid_written_self {c : Cache} {t n : Nat} (h : (t, n) ∈ c.fillKeys) :
    (c.written t n).isVoid t n = true := by
  obtain ⟨f, hf, rfl, rfl⟩ := (c.mem_fillKeys t n).1 h
  refine List.any_eq_true.2 ⟨_, List.mem_map_of_mem hf, ?_⟩
  simp

end Sys2Proof.Machine

/-! SUPPORT. Tile cache, library and serial store: the steps that every command makes on them, and the laws that each of
these steps keeps (R97, R105, R106, R109, R111, R113, R172). -/

namespace Sys2Proof.Machine

/-! ### The memories and their steps -/

/-- The tile cache with its fill unit, library memory with its controller, and the contents of the serial store. -/
structure Memories where
  cache : Cache
  library : Library
  flash : List Host.Cell

/-- The memories of a state. -/
def State.memories (s : State) : Memories := ⟨s.cache, s.library, s.store.flash⟩

namespace Memories

/-- The 256 bytes of a sector as library memory holds them. -/
def sector (m : Memories) (t n : Nat) : List Byte := memReadBytes libraryFill m.library.mem (sectorAddr t n) 256

/-- A sector written, the cache kept consistent (R111, R116). -/
def written (t n : Nat) (bs : List Byte) (m : Memories) : Memories :=
  { m with
    library := { m.library with mem := memWriteBytes libraryFill m.library.mem (sectorAddr t n) bs }
    cache := m.cache.written t n }

/-- The head of the upload queue granted: it leaves the queue and uses a credit (R111, R113). -/
def tookUpload (rest : List Upload) (m : Memories) : Memories :=
  { m with library := { m.library with uploads := rest }.creditGrant }

end Memories

/-- An upload as the parser accepts it (R110). -/
def Upload.lawful (u : Upload) : Prop := u.tile ≤ 32767 ∧ u.sector ≤ 3 ∧ u.bytes.length = 256

/-- A credit window of one line or more has a line left before its end (R113). -/
def Library.windowRuns (l : Library) : Prop := ∀ w, l.window = some w → 1 ≤ w.length → w.lines < w.length

/-- All that can befall the memories, where `mayWrite` tells the addresses of library memory that may be written: the
builder's reads; the grant and the completion of a fill (R109, R105); a sector written by the loader (R116); an upload
granted, refused or written (R111), or queued (R155); the credit window's line, restart and settings (R113, R114);
erases and programs of the serial store (R172); and a reset, behind a power-on without the contents of library
memory (R173, R179). -/
inductive Memories.Step (mayWrite : Nat → Prop) (m : Memories) : Memories → Prop where
  | serve {c : Cache} (h : m.cache.Serves c) : m.Step mayWrite { m with cache := c }
  | grant {f : Fill} (h : m.cache.nextGrant = some f) :
      m.Step mayWrite { m with cache := m.cache.grant f (m.sector f.tile f.sector) }
  | complete {r : GrantedRead} {rest : List GrantedRead} (h : m.cache.reads = r :: rest) :
      m.Step mayWrite { m with cache := m.cache.complete r rest }
  | load {t n : Nat} {bs : List Byte} (hn : n < 4) (hlen : bs.length = 256) (hmay : ∀ a, mayWrite a) :
      m.Step mayWrite (m.written t n bs)
  | refuse {u : Upload} {rest : List Upload} (h : m.library.uploads = u :: rest)
      (hcredit : m.library.creditRemains = true) : m.Step mayWrite (m.tookUpload rest)
  | upload {u : Upload} {rest : List Upload} (h : m.library.uploads = u :: rest)
      (hcredit : m.library.creditRemains = true)
      (hmay : ∀ a, sectorAddr u.tile u.sector ≤ a → a < sectorAddr u.tile u.sector + u.bytes.length → mayWrite a) :
      m.Step mayWrite ((m.tookUpload rest).written u.tile u.sector u.bytes)
  | enqueue {u : Upload} (h : u.lawful) :
      m.Step mayWrite { m with library := { m.library with uploads := m.library.uploads ++ [u] } }
  | countLine (h : m.library.windowRuns) :
      m.Step mayWrite
        { m with
          library := { m.library with window := m.library.window.map fun w => { w with lines := w.lines + 1 } } }
  | restartWindow (h : m.library.window ≠ none) :
      m.Step mayWrite
        { m with
          library := { m.library with window := some ⟨m.library.creditLines, m.library.creditLimit, 0, 0⟩ } }
  | configure (mask : Nat) (data : List Byte) :
      m.Step mayWrite
        { m with
          library :=
            m.library.configureCredit (configFields mask data).creditLines (configFields mask data).creditLimit }
  | program {fl : List Host.Cell} (h : memWf flashFill m.flash = true → memWf flashFill fl = true) :
      m.Step mayWrite { m with flash := fl }
  | reset {mem fl : List Host.Cell} (hmem : mem = m.library.mem ∨ mem = [] ∧ ∀ a, mayWrite a)
      (hfl : memWf flashFill m.flash = true → memWf flashFill fl = true) :
      m.Step mayWrite ⟨.atReset, ⟨mem, [], 0, 255, none⟩, fl⟩

/-- Any number of these steps lead from the memories of one state to those of another. -/
abbrev State.MemorySteps (mayWrite : Nat → Prop) (s t : State) : Prop :=
  Relation.ReflTransGen (Memories.Step mayWrite) s.memories t.memories

theorem State.MemorySteps.of_eq {mayWrite : Nat → Prop} {s t : State} (h : t.memories = s.memories) :
    s.MemorySteps mayWrite t := by
  rw [State.MemorySteps, h]

/-- A law that each of these steps keeps, any number of them keeps. -/
theorem State.MemorySteps.invariant {mayWrite : Nat → Prop} {P : Memories → Prop}
    (hP : ∀ {m m' : Memories}, m.Step mayWrite m' → P m → P m') {s t : State} (h : s.MemorySteps mayWrite t)
    (hs : P s.memories) : P t.memories := by
  unfold State.MemorySteps at h
  generalize t.memories = m at h ⊢
  induction h with
  | refl => exact hs
  | tail _ hlast ih => exact hP hlast ih

/-! ### The credit window's law (R113) -/

/-- The law of R113 in the library. -/
def Library.creditLaw (l : Library) : Prop :=
  l.creditLines ≤ 4095 ∧ 1 ≤ l.creditLimit ∧ l.creditLimit ≤ 255 ∧ (l.window.isSome = true ↔ l.creditLines ≠ 0) ∧
    ∀ w, l.window = some w → 1 ≤ w.length ∧ w.lines ≤ w.length ∧ 1 ≤ w.limit ∧ w.limit ≤ 255 ∧ w.grants ≤ w.limit

theorem configFields_creditLines_le (mask : Nat) (data : List Byte) {v : Nat} (hv : v ≤ 4095) :
    (configFields mask data).creditLines.getD v ≤ 4095 := by
  unfold configFields
  cases maskedField mask data 5 with
  | none => exact hv
  | some bs => exact (clampTo_bounds 0 4095 _ (by decide)).2

theorem configFields_creditLimit_bounds (mask : Nat) (data : List Byte) {v : Nat} (hv : 1 ≤ v ∧ v ≤ 255) :
    1 ≤ (configFields mask data).creditLimit.getD v ∧ (configFields mask data).creditLimit.getD v ≤ 255 := by
  unfold configFields
  cases maskedField mask data 6 with
  | none => exact hv
  | some bs => exact clampTo_bounds 1 255 _ (by decide)

/-- A window that begins is within its law (R114). -/
theorem CreditWindow.begins {lines limit : Nat} (hlines : lines ≠ 0) (hlimit : 1 ≤ limit ∧ limit ≤ 255)
    (w : CreditWindow) (hw : some (⟨lines, limit, 0, 0⟩ : CreditWindow) = some w) :
    1 ≤ w.length ∧ w.lines ≤ w.length ∧ 1 ≤ w.limit ∧ w.limit ≤ 255 ∧ w.grants ≤ w.limit := by
  cases hw
  exact ⟨Nat.one_le_iff_ne_zero.2 hlines, Nat.zero_le _, hlimit.1, hlimit.2, Nat.zero_le _⟩

theorem Library.configureCredit_creditLaw {l : Library} (h : l.creditLaw) (mask : Nat) (data : List Byte) :
    (l.configureCredit (configFields mask data).creditLines (configFields mask data).creditLimit).creditLaw := by
  obtain ⟨hlines, hlimit, hlimit', hiff, hwindow⟩ := h
  have hnew := configFields_creditLines_le mask data hlines
  have hnew' := configFields_creditLimit_bounds mask data ⟨hlimit, hlimit'⟩
  unfold Library.configureCredit
  refine ⟨hnew, hnew'.1, hnew'.2, ?_, ?_⟩ <;> simp only <;> split
  · simp [*]
  · rename_i hne
    split
    · simpa using hne
    · rename_i hold
      simp [hne, hiff, hold]
  · rintro w ⟨⟩
  · rename_i hne
    split
    · exact CreditWindow.begins hne hnew'
    · exact hwindow

/-- A grant counts in the credit window, whether one runs or not (R113). -/
theorem Library.creditGrant_eq (l : Library) :
    l.creditGrant = { l with window := l.window.map fun w => { w with grants := w.grants + 1 } } := by
  unfold Library.creditGrant
  split <;> rename_i h
  · rw [h, Option.map_none, ← h]
  · simp [h]

/-- A grant with a credit left stays within the limit. -/
theorem Library.creditGrant_creditLaw {l : Library} (h : l.creditLaw) (hcredit : l.creditRemains = true)
    (uploads : List Upload) : ({ l with uploads := uploads } : Library).creditGrant.creditLaw := by
  obtain ⟨hlines, hlimit, hlimit', hiff, hwindow⟩ := h
  rw [Library.creditGrant_eq]
  refine ⟨hlines, hlimit, hlimit', by simpa using hiff, fun w' hw' => ?_⟩
  obtain ⟨w, hw, rfl⟩ := Option.map_eq_some_iff.1 hw'
  obtain ⟨h1, h2, h3, h4, -⟩ := hwindow w hw
  have hleft : w.grants < w.limit := by
    unfold Library.creditRemains at hcredit
    rw [hw] at hcredit
    simpa using hcredit
  exact ⟨h1, h2, h3, h4, hleft⟩

theorem Memories.Step.creditLaw {mayWrite : Nat → Prop} {m m' : Memories} (h : m.Step mayWrite m')
    (hm : m.library.creditLaw) : m'.library.creditLaw := by
  cases h with
  | serve | grant | complete | load | enqueue | program => exact hm
  | refuse _ hcredit => exact Library.creditGrant_creditLaw hm hcredit _
  | upload _ hcredit => exact Library.creditGrant_creditLaw hm hcredit _
  | configure mask data => exact Library.configureCredit_creditLaw hm mask data
  | reset =>
    refine ⟨Nat.zero_le _, ?_, le_rfl, by simp, by rintro w ⟨⟩⟩
    exact Nat.le_of_ble_eq_true rfl
  | countLine hruns =>
    obtain ⟨hlines, hlimit, hlimit', hiff, hwindow⟩ := hm
    refine ⟨hlines, hlimit, hlimit', by simpa using hiff, fun w' hw' => ?_⟩
    obtain ⟨w, hw, rfl⟩ := Option.map_eq_some_iff.1 hw'
    obtain ⟨h1, -, h3, h4, h5⟩ := hwindow w hw
    exact ⟨h1, hruns w hw h1, h3, h4, h5⟩
  | restartWindow hsome =>
    obtain ⟨hlines, hlimit, hlimit', hiff, hwindow⟩ := hm
    have hne := hiff.1 (Option.isSome_iff_ne_none.2 hsome)
    exact ⟨hlines, hlimit, hlimit', by simpa using hne, CreditWindow.begins hne ⟨hlimit, hlimit'⟩⟩

/-! ### The canonical form (log 10, log 11) -/

/-- Both byte memories in canonical form. -/
def Memories.canonical (m : Memories) : Prop :=
  memWf libraryFill m.library.mem = true ∧ memWf flashFill m.flash = true

@[simp] theorem Memories.tookUpload_mem (rest : List Upload) (m : Memories) :
    (m.tookUpload rest).library.mem = m.library.mem := by
  rw [Memories.tookUpload, Library.creditGrant_eq]

@[simp] theorem Memories.tookUpload_uploads (rest : List Upload) (m : Memories) :
    (m.tookUpload rest).library.uploads = rest := by
  rw [Memories.tookUpload, Library.creditGrant_eq]

theorem Memories.Step.canonical {mayWrite : Nat → Prop} {m m' : Memories} (h : m.Step mayWrite m')
    (hm : m.canonical) : m'.canonical := by
  obtain ⟨hmem, hflash⟩ := hm
  cases h with
  | serve | grant | complete | enqueue | countLine | restartWindow | configure => exact ⟨hmem, hflash⟩
  | load => exact ⟨memWf_memWriteBytes _ _ _ _ hmem, hflash⟩
  | refuse => exact ⟨by rwa [Memories.tookUpload_mem], hflash⟩
  | upload => exact ⟨memWf_memWriteBytes _ _ _ _ (by rwa [Memories.tookUpload_mem]), hflash⟩
  | program hfl => exact ⟨hmem, hfl hflash⟩
  | reset hmem' hfl =>
    refine ⟨?_, hfl hflash⟩
    rcases hmem' with rfl | ⟨rfl, -⟩
    · exact hmem
    · rfl

/-! ### Bytes that are not written (R97) -/

/-- A byte that may not be written reads as before. -/
theorem Memories.Step.unwritten {mayWrite : Nat → Prop} {m m' : Memories} (h : m.Step mayWrite m') {a : Nat}
    (ha : ¬mayWrite a) : memRead libraryFill m'.library.mem a = memRead libraryFill m.library.mem a := by
  cases h with
  | serve | grant | complete | enqueue | countLine | restartWindow | configure | program => rfl
  | load _ _ hmay => exact absurd (hmay a) ha
  | refuse => rw [Memories.tookUpload_mem]
  | @upload u rest _ _ hmay =>
    refine (memRead_memWriteBytes_out _ u.bytes _ _ a ?_).trans (by rw [Memories.tookUpload_mem])
    by_contra hin
    exact ha (hmay a (by omega) (by omega))
  | reset hmem =>
    rcases hmem with rfl | ⟨-, hmay⟩
    · rfl
    · exact absurd (hmay a) ha

/-! ### The waiting uploads (R110) -/

/-- Every waiting upload is lawful. -/
def Memories.uploadsLawful (m : Memories) : Prop := ∀ u ∈ m.library.uploads, u.lawful

theorem Memories.Step.uploadsLawful {mayWrite : Nat → Prop} {m m' : Memories} (h : m.Step mayWrite m')
    (hm : m.uploadsLawful) : m'.uploadsLawful := by
  have htook : ∀ {u rest}, m.library.uploads = u :: rest → (m.tookUpload rest).uploadsLawful := fun hhead v hv => by
    rw [Memories.tookUpload_uploads] at hv
    exact hm v (by rw [hhead]; exact List.mem_cons_of_mem _ hv)
  cases h with
  | serve | grant | complete | load | countLine | restartWindow | configure | program => exact hm
  | refuse hhead => exact htook hhead
  | upload hhead => exact htook hhead
  | enqueue hu => exact List.forall_mem_append.2 ⟨hm, List.forall_mem_singleton.2 hu⟩
  | reset => exact List.forall_mem_nil _

/-! ### The cache's law (R106) -/

/-- The law of R106 in the memories. -/
structure Memories.Coherent (m : Memories) : Prop where
  consistent : m.cache.Consistent
  valid : ∀ t n bs, m.cache.valid? t n = some bs → bs = m.sector t n
  reads : ∀ r ∈ m.cache.reads, m.cache.isVoid r.tile r.sector = false → r.bytes = m.sector r.tile r.sector

theorem State.cacheLaw_iff (s : State) : s.cacheLaw ↔ s.memories.uploadsLawful ∧ s.memories.Coherent := by
  unfold State.cacheLaw
  rw [Cache.lawful_iff_consistent]
  exact ⟨fun ⟨hcache, huploads, hvalid, hreads⟩ => ⟨huploads, hcache, hvalid, hreads⟩,
    fun ⟨huploads, h⟩ => ⟨h.consistent, huploads, h.valid, h.reads⟩⟩

/-- Another sector reads as before a sector was written. -/
theorem Memories.sector_written {t n t' n' : Nat} (hn : n < 4) (hn' : n' < 4) (hne : ¬(t' = t ∧ n' = n)) {bs : List Byte}
    (hlen : bs.length = 256) (m : Memories) : (m.written t n bs).sector t' n' = m.sector t' n' := by
  refine memReadBytes_congr _ _ _ _ _ fun a hle hlt => memRead_memWriteBytes_out _ _ _ _ _ ?_
  unfold sectorAddr at *
  omega

theorem Memories.Coherent.sector_lt_of_valid {m : Memories} (h : m.Coherent) {t n : Nat} {bs : List Byte}
    (hv : m.cache.valid? t n = some bs) : n < 4 := by
  by_contra hn
  rw [Cache.valid?_eq, h.consistent.shape.slotAt_of_le t (Nat.le_of_not_lt hn)] at hv
  cases hv

theorem Memories.Coherent.sector_lt_of_read {m : Memories} (h : m.Coherent) {r : GrantedRead}
    (hr : r ∈ m.cache.reads) : r.sector < 4 := by
  obtain ⟨l, hl, hlt⟩ := h.consistent.read_present hr
  rwa [h.consistent.shape.line_length hl] at hlt

theorem Memories.Coherent.written {m : Memories} (h : m.Coherent) {t n : Nat} (hn : n < 4) {bs : List Byte}
    (hlen : bs.length = 256) : (m.written t n bs).Coherent := by
  refine ⟨h.consistent.written t n, fun t' n' bs' hv => ?_, fun r hr hvoid => ?_⟩
  · by_cases hkey : t' = t ∧ n' = n
    · rw [hkey.1, hkey.2] at hv
      exact absurd (hv.symm.trans (m.cache.valid?_written_self t n)) (Option.some_ne_none _)
    · have hv' : m.cache.valid? t' n' = some bs' := (Cache.valid?_written_other hkey m.cache).symm.trans hv
      rw [Memories.sector_written hn (h.sector_lt_of_valid hv') hkey hlen]
      exact h.valid t' n' bs' hv'
  · by_cases hkey : r.tile = t ∧ r.sector = n
    · have hfill : (r.tile, r.sector) ∈ m.cache.fillKeys :=
        Cache.mem_fillKeys_of_granted (h.consistent.readsGranted _ (List.mem_map_of_mem hr))
      rw [hkey.1, hkey.2] at hfill hvoid
      exact absurd (hvoid.symm.trans (Cache.isVoid_written_self hfill)) Bool.false_ne_true
    · rw [Memories.sector_written hn (h.sector_lt_of_read hr) hkey hlen]
      exact h.reads r hr ((Cache.isVoid_written_other hkey m.cache).symm.trans hvoid)

/-- What moves neither the cache nor the contents of library memory keeps the law. -/
theorem Memories.Coherent.of_library {m : Memories} (h : m.Coherent) {l : Library} (hmem : l.mem = m.library.mem)
    (fl : List Host.Cell) : Memories.Coherent ⟨m.cache, l, fl⟩ := by
  have hsector : ∀ t n, Memories.sector ⟨m.cache, l, fl⟩ t n = m.sector t n := fun t n => by
    unfold Memories.sector
    rw [hmem]
  refine ⟨h.consistent, fun t n bs hv => ?_, fun r hr hvoid => ?_⟩
  · rw [hsector]
    exact h.valid t n bs hv
  · rw [hsector]
    exact h.reads r hr hvoid

theorem Memories.Step.coherent {mayWrite : Nat → Prop} {m m' : Memories} (h : m.Step mayWrite m')
    (huploads : m.uploadsLawful) (hm : m.Coherent) : m'.Coherent := by
  have htook : ∀ rest, (m.tookUpload rest).Coherent := fun rest =>
    hm.of_library (Memories.tookUpload_mem rest m) m.flash
  cases h with
  | serve hc =>
    refine ⟨hc.consistent hm.consistent, fun t n bs hv => hm.valid t n bs (hc.valid hm.consistent t n bs hv),
      fun r hr hvoid => hm.reads r (hc.reads ▸ hr) ?_⟩
    exact (hc.void r.tile r.sector).symm.trans hvoid
  | @grant f hf =>
    refine ⟨hm.consistent.grant hf _, hm.valid, fun r hr hvoid => ?_⟩
    rcases List.mem_append.1 hr with hr | hr
    · exact hm.reads r hr ((m.cache.isVoid_grant f _ r.tile r.sector).symm.trans hvoid)
    · rw [List.mem_singleton.1 hr]
      rfl
  | @complete r rest hr =>
    have hconsistent := hm.consistent.complete hr
    refine ⟨hconsistent, fun t n bs hv => ?_, fun q hq hvoid => ?_⟩
    · rw [Cache.valid?_eq, Cache.slotAt_complete hm.consistent hr] at hv
      split at hv
      · rename_i hkey
        rw [hkey.1, hkey.2]
        cases hvoid : m.cache.isVoid r.tile r.sector <;> rw [hvoid] at hv
        · cases hv
          exact hm.reads r (by rw [hr]; exact List.mem_cons_self ..) hvoid
        · exact hm.valid _ _ bs hv
      · rw [← Cache.valid?_eq] at hv
        exact hm.valid t n bs hv
    · have honce := hm.consistent.readsOnce
      rw [Cache.readKeys, hr, List.map_cons, List.nodup_cons] at honce
      refine hm.reads q (by rw [hr]; exact List.mem_cons_of_mem _ hq) ((Cache.isVoid_complete ?_).symm.trans hvoid)
      rintro ⟨ht, hn⟩
      exact honce.1 (by rw [← ht, ← hn]; exact List.mem_map_of_mem hq)
  | load hn hlen => exact hm.written hn hlen
  | refuse => exact htook _
  | @upload u rest hhead =>
    obtain ⟨-, hsector, hlen⟩ := huploads u (by rw [hhead]; exact List.mem_cons_self ..)
    exact (htook rest).written (Nat.lt_succ_of_le hsector) hlen
  | enqueue | countLine | restartWindow | configure =>
    refine hm.of_library ?_ m.flash
    rfl
  | program => exact hm.of_library rfl _
  | reset =>
    exact ⟨(Cache.lawful_iff_consistent _).1 Cache.atReset_lawful,
      fun t n bs hv => absurd ((Cache.atReset_valid? t n).symm.trans hv) (Option.some_ne_none _).symm,
      List.forall_mem_nil _⟩

end Sys2Proof.Machine

/-! SUPPORT. The overlay builder, the image and the serial store in steps of the memories. -/

namespace Sys2Proof.Machine

/-! ### The builder's reads (R99) -/

/-- A source pixel lies in one of its tile's four sectors (R96). -/
theorem LineEntry.source_sector_lt {e : LineEntry} {line x : Nat} {q : PixelSource} (h : e.source line x = some q) :
    q.sector < 4 := by
  have hpixel : ∀ (p : PhotoRef) (px py : Nat), (photoPixel p px py).sector < 4 := fun p px py => by
    simp only [photoPixel]
    omega
  unfold LineEntry.source at h
  cases hkind : e.kind <;> simp only [hkind] at h
  case off | fill => cases h
  case photo | badge =>
    obtain ⟨p, -, rfl⟩ := Option.map_eq_some_iff.1 h
    exact hpixel ..
  case price =>
    split at h
    · cases h
    · obtain ⟨g, -, rfl⟩ := Option.map_eq_some_iff.1 h
      exact hpixel ..

theorem State.readFor_serves {q : PixelSource} (hq : q.sector < 4) (s : State) : s.cache.Serves (s.readFor q).1.cache := by
  have hread := Cache.Serves.read s.cache q.tile hq
  have hfetch : s.cache.Serves ((s.cache.read q.tile q.sector).1.considerPrefetch q.photo q.tile q.sector) :=
    hread.trans (.considerPrefetch _ _ _ _)
  unfold State.readFor
  simp only
  cases (s.cache.read q.tile q.sector).2 with
  | hit | joined | demanded =>
    simp only
    split
    · exact hfetch
    · exact hread
  | noRoom | noWay => exact hread

theorem State.fetch_serves {src : Option PixelSource} (hsrc : ∀ q, src = some q → q.sector < 4) (s : State) :
    s.cache.Serves (s.fetch src).1.cache := by
  unfold State.fetch
  split
  · exact .refl _
  · rename_i q
    split
    · exact .refl _
    · exact s.readFor_serves (hsrc q rfl)

@[simp] theorem placeAll_cache (line x : Nat) (ms : List Sample) (s : State) :
    (placeAll line x ms s).cache = s.cache := by
  induction ms generalizing s with
  | nil => rfl
  | cons m ms ih => rw [placeAll, ih, State.place_cache]

theorem produce_serves (e : LineEntry) (line n x : Nat) (s : State) :
    s.cache.Serves (produce e line n x s).1.cache := by
  induction n generalizing x s with
  | zero => exact .refl _
  | succ n ih =>
    have hfetch := s.fetch_serves (src := e.source line x) fun q => LineEntry.source_sector_lt
    rw [produce]
    split <;> rename_i h <;> rw [h] at hfetch
    · exact hfetch
    · refine hfetch.trans (.trans ?_ (ih _ _))
      rw [placeAll_cache]
      exact .refl _

theorem workEntry_serves (line : Nat) (e : LineEntry) (s : State) :
    s.cache.Serves (workEntry line e s).2.1.cache := by
  unfold workEntry
  split
  · exact .refl _
  · exact .refl _
  · rename_i a b _ _
    have h := produce_serves e line (b + 1 - a) a s.readerIdle
    split <;> rename_i hp <;> rwa [hp] at h
  · rename_i next _ b _ _
    have h := produce_serves e line (b + 1 - next) next s
    split <;> rename_i hp <;> rwa [hp] at h

theorem workList_serves (line : Nat) (es : List LineEntry) (s : State) :
    s.cache.Serves (workList line es s).2.1.cache := by
  induction es generalizing s with
  | nil => exact .refl _
  | cons e es ih =>
    have he := workEntry_serves line e s
    rw [workList]
    split <;> rename_i h <;> rw [h] at he
    · exact he
    · exact he.trans (ih _)

theorem State.takeUp_cache {s t : State} (h : s.takeUp = some t) : t.cache = s.cache := by
  unfold State.takeUp at h
  split at h
  · cases h
  · split at h
    · cases h
      obtain ⟨v, hv⟩ := State.raiseAll_eq _ _
      rw [hv]
    · cases h

theorem runBuilder_serves (n : Nat) (s : State) : s.cache.Serves (runBuilder n s).cache := by
  induction n generalizing s with
  | zero => exact .refl _
  | succ n ih =>
    rw [runBuilder]
    split
    · rename_i w _
      have hw := workList_serves w.line w.entries s
      split
      · exact .refl _
      · split <;> rename_i s1 h <;> rw [h] at hw
        · exact hw.trans (ih { s1 with builder := { s1.builder with work := none, reader := .idle } })
        · exact hw
    · split
      · exact .refl _
      · rename_i t h
        have ht := ih t
        rwa [State.takeUp_cache h] at ht

theorem State.build_serves (s : State) : s.cache.Serves s.build.cache := runBuilder_serves 10 s

theorem State.wake_serves (tile sector : Nat) (s : State) : s.cache.Serves (s.wake tile sector).cache := by
  unfold State.wake
  split
  · exact .refl _
  · exact .refl _
  · exact .refl _
  · split
    · split
      · exact .use _ _
      · exact .refl _
    · exact .refl _

@[simp] theorem State.deadline_cache (y : Nat) (s : State) : (s.deadline y).cache = s.cache := by
  unfold State.deadline
  split
  · rfl
  · split <;> split
    · rfl
    · split <;> rfl
    · rfl
    · rfl

theorem State.settleScene_serves (s : State) : s.cache.Serves s.settleScene.cache := by
  have hpacket : s.completeStatus.freezeView.cache = s.cache := by
    unfold State.completeStatus
    split <;> rfl
  unfold State.settleScene
  have h := State.build_serves s.completeStatus.freezeView
  rwa [hpacket] at h

theorem State.outputFrameStart_serves (src : Source) (s : State) : s.cache.Serves (s.outputFrameStart src).cache := by
  rcases s.outputFrameStart_cases src with ⟨-, h⟩ | ⟨-, h⟩ <;> rw [h]
  · rw [State.beginFrame_cache]
    exact .refl _
  · have := State.settleScene_serves (s.beginFrame src)
    rwa [State.beginFrame_cache] at this

theorem State.composeLine_serves (background : List Rgb) (s : State) :
    s.cache.Serves (s.composeLine background).cache := by
  have hmix : ((s.deadline s.raster.nextLine).mix s.raster.nextLine background).cache = s.cache := by
    rw [State.mix_eq]
    exact s.deadline_cache _
  have h := State.build_serves
    (((s.deadline s.raster.nextLine).mix s.raster.nextLine background).freeLineBefore s.raster.nextLine)
  rwa [State.freeLineBefore_cache, hmix] at h

theorem State.outputLineStart_serves (background : List Rgb) (s : State) :
    s.cache.Serves (s.outputLineStart background).cache := by
  rw [State.outputLineStart_eq, State.clockLine_eq, (State.sampleFlip_controlsTo _).cache]
  exact s.composeLine_serves background

/-! ### The image (R116, R174) -/

/-- A sector that the loader writes is one of its tile's four, with its 256 bytes. -/
def ImageAct.sectored : ImageAct → Prop
  | .sector _ n bs => n < 4 ∧ bs.length = 256
  | .config _ | .entry _ _ _ => True

theorem sectorActs_sectored (first n k : Nat) (bs : List Byte) (hlen : n * 256 ≤ bs.length) :
    ∀ a ∈ sectorActs first n k bs, a.sectored := by
  induction n generalizing k bs with
  | zero => simp [sectorActs]
  | succ n ih =>
    rw [Nat.succ_mul] at hlen
    refine List.forall_mem_cons.2 ⟨⟨Nat.mod_lt _ (by decide), ?_⟩, ih (k + 1) _ ?_⟩
    · exact List.length_take_of_le (Nat.le_of_add_left_le hlen)
    · rw [List.length_drop]
      exact Nat.le_sub_of_add_le hlen

theorem sectionActs_sectored (kind : Nat) (payload : List Byte) : ∀ a ∈ (sectionActs kind payload).1, a.sectored := by
  intro a ha
  unfold sectionActs at ha
  simp only at ha
  split at ha
  · split at ha
    · rw [List.mem_singleton.1 ha]
      trivial
    · simp at ha
  iterate 4
    split at ha
    · obtain ⟨j, b, rfl⟩ := entryActs_entry _ _ _ _ _ ha
      trivial
    · simp at ha
  · split at ha
    · rename_i h
      obtain ⟨-, hlen, -⟩ := h
      refine sectorActs_sectored _ _ _ _ ?_ a ha
      rw [List.length_drop, hlen]
      omega
    · simp at ha
  · simp at ha

theorem State.imageRest_sectored (s : State) : ∀ a ∈ s.imageRest, a.sectored :=
  s.imageRest_forall sectionActs_sectored

/-- One application of the loader is one step of the memories at most, in a part that may write all of library memory. -/
theorem loadAct_memorySteps {mayWrite : Nat → Prop} (hmay : ∀ a, mayWrite a) {act : ImageAct} (hsector : act.sectored)
    (hconfig : ∀ f, act = .config f → ∃ mask data, f = configFields mask data) (s : State) :
    s.MemorySteps mayWrite (loadAct act s) := by
  cases act with
  | config f =>
    obtain ⟨mask, data, rfl⟩ := hconfig f rfl
    exact .single (.configure mask data)
  | entry table i bs =>
    simp only [loadAct]
    split <;> exact .of_eq rfl
  | sector t n bs => exact .single (.load hsector.1 hsector.2 hmay)

theorem recallAct_memories (act : ImageAct) (s : State) : (recallAct act s).memories = s.memories := by
  unfold recallAct
  repeat' split
  all_goals rfl

theorem State.applyImage_loadAct_memorySteps {mayWrite : Nat → Prop} (hmay : ∀ a, mayWrite a) (n : Nat) (s : State) :
    s.MemorySteps mayWrite (s.applyImage loadAct n) :=
  s.applyImage_keeps (P := s.MemorySteps mayWrite) n
    (fun a ha u hu => hu.trans (loadAct_memorySteps hmay (s.imageRest_sectored a ha)
      (fun f hf => s.imageRest_config f (hf ▸ ha)) u))
    (fun _ _ hu => hu) .refl

theorem State.applyImage_recallAct_memories (n : Nat) (s : State) :
    (s.applyImage recallAct n).memories = s.memories :=
  s.applyImage_keeps (P := fun u => u.memories = s.memories) n
    (fun a _ u hu => (recallAct_memories a u).trans hu) (fun _ _ hu => hu) rfl

/-! ### The serial store (R172, R177, R178) -/

/-- A save's program of a page keeps the store in canonical form. -/
theorem memWf_saveProgram (r : SaveJob × List Host.Cell) (h : memWf flashFill r.2 = true) :
    memWf flashFill (saveProgram r).2 = true := memWf_flashWritePage _ _ _ h

theorem memWf_savePiece (k : Bank) (r : SaveJob × List Host.Cell) (h : memWf flashFill r.2 = true) :
    memWf flashFill (savePiece k r).2 = true := by
  rcases savePiece_cases k r with ⟨-, hp⟩ | ⟨-, -, hp⟩ | ⟨u, us, -, -, hp⟩ <;> rw [hp]
  · exact memWf_saveProgram r h
  · exact h
  · exact h

theorem memWf_saveSome (k : Bank) (n : Nat) (r : SaveJob × List Host.Cell) (h : memWf flashFill r.2 = true) :
    memWf flashFill (saveSome k n r).2 = true := by
  induction n generalizing r with
  | zero => exact h
  | succ n ih => exact ih _ (memWf_savePiece k r h)

theorem memWf_programPages (n : Nat) (r : SaveJob × List Host.Cell) (h : memWf flashFill r.2 = true) :
    memWf flashFill (programPages n r).2 = true := by
  induction n generalizing r with
  | zero => exact h
  | succ n ih =>
    rw [programPages]
    split
    · exact ih _ (memWf_saveProgram r h)
    · exact h

theorem memWf_saveAll (k : Bank) (j : SaveJob) (m : List Host.Cell) (h : memWf flashFill m = true) :
    memWf flashFill (saveAll k j m).2 = true := memWf_programPages _ _ h

/-- The contents of the store stay in canonical form, and the other memories stand. -/
structure State.Programs (s t : State) : Prop where
  cache : t.cache = s.cache
  library : t.library = s.library
  wf : memWf flashFill s.store.flash = true → memWf flashFill t.store.flash = true

theorem State.Programs.refl (s : State) : s.Programs s := ⟨rfl, rfl, id⟩

theorem State.Programs.trans {s t u : State} (h : s.Programs t) (k : t.Programs u) : s.Programs u :=
  ⟨k.cache.trans h.cache, k.library.trans h.library, fun hwf => k.wf (h.wf hwf)⟩

theorem State.Programs.memorySteps {mayWrite : Nat → Prop} {s t : State} (h : s.Programs t) :
    s.MemorySteps mayWrite t := by
  have hstep : s.memories.Step mayWrite { s.memories with flash := t.store.flash } := .program h.wf
  have ht : t.memories = { s.memories with flash := t.store.flash } := by
    unfold State.memories
    rw [h.cache, h.library]
  rw [State.MemorySteps, ht]
  exact .single hstep

theorem State.saveGoesOn_programs (s : State) : s.Programs s.saveGoesOn := by
  rcases s.saveGoesOn_cases with ⟨-, h⟩ | ⟨j, -, -, -, h⟩ <;> rw [h]
  · exact .refl s
  · exact ⟨rfl, rfl, memWf_saveSome s.stagingBank _ (j, s.store.flash)⟩

theorem State.saveStops_programs (s : State) : s.Programs s.saveStops := by
  unfold State.saveStops
  split
  · exact .refl s
  · split
    · exact ⟨rfl, rfl, memWf_flashStopPage _ _ _ _⟩
    · exact ⟨rfl, rfl, id⟩

theorem State.protectStops_programs (s : State) : s.Programs s.protectStops := by
  unfold State.protectStops
  split
  · exact .refl s
  · exact ⟨rfl, rfl, memWf_flashProgramPage _ _ _⟩

theorem State.protectEnds_programs (s : State) : s.Programs s.protectEnds := by
  unfold State.protectEnds
  split
  · exact .refl s
  · exact ⟨rfl, rfl, memWf_flashProgramPage _ _ _⟩

theorem State.saveSector_programs (j : SaveJob) (area : Nat) (rest : List Nat) (s : State) :
    s.Programs (s.saveSector j area rest) := by
  unfold State.saveSector
  simp only
  split <;> exact ⟨rfl, rfl, memWf_saveAll _ _ _⟩

theorem State.saveEnds_programs (j : SaveJob) (s : State) : s.Programs (s.saveEnds j) := by
  refine ⟨rfl, rfl, fun hwf => memWf_flashProgramPage _ _ _ ?_⟩
  have hall := memWf_saveAll s.stagingBank j s.store.flash hwf
  split
  · exact hall
  · exact memWf_saveProgram _ hall

theorem State.programTimeout_programs (s : State) : s.Programs s.programTimeout := by
  unfold State.programTimeout
  split
  · split
    · exact s.saveStops_programs.trans ⟨rfl, rfl, id⟩
    · exact .refl s
  · exact s.protectStops_programs.trans ⟨rfl, rfl, id⟩
  · exact .refl s

end Sys2Proof.Machine

/-! SUPPORT. Every command as steps of the memories, behind what stands before it; and from it the laws of the credit
window, the tile cache and the byte memories. -/

namespace Sys2Proof.Machine

/-! ### What leaves the memories alone -/

theorem State.memories_congr {s t : State} (hcache : t.cache = s.cache) (hlibrary : t.library = s.library)
    (hstore : t.store = s.store) : t.memories = s.memories := by
  unfold State.memories
  rw [hcache, hlibrary, hstore]

theorem State.ControlsTo.memories {s t : State} (h : s.ControlsTo t) : t.memories = s.memories :=
  State.memories_congr h.cache h.library h.store

/-- The builder's reads are one step of the memories. -/
theorem State.MemorySteps.of_serves {mayWrite : Nat → Prop} {s t : State} (hcache : s.cache.Serves t.cache)
    (hlibrary : t.library = s.library) (hstore : t.store = s.store) : s.MemorySteps mayWrite t := by
  have ht : t.memories = { s.memories with cache := t.cache } := by
    unfold State.memories
    rw [hlibrary, hstore]
  rw [State.MemorySteps, ht]
  exact .single (.serve hcache)

section Steps
variable {mayWrite : Nat → Prop}

theorem State.settleScene_memorySteps (s : State) : s.MemorySteps mayWrite s.settleScene :=
  .of_serves s.settleScene_serves s.settleScene_library s.settleScene_store

theorem State.outputFrameStart_memorySteps (src : Source) (s : State) : s.MemorySteps mayWrite (s.outputFrameStart src) :=
  .of_serves (s.outputFrameStart_serves src) (s.outputFrameStart_library src) (s.outputFrameStart_store src)

/-- An output line start counts a line in a window that has one left (R113). -/
theorem State.outputLineStart_memorySteps (background : List Rgb) {s : State} (hruns : s.library.windowRuns) :
    s.MemorySteps mayWrite (s.outputLineStart background) := by
  have hline : (s.outputLineStart background).memories =
      { s.memories with
        cache := (s.outputLineStart background).cache
        library :=
          { s.library with window := s.library.window.map fun w => { w with lines := w.lines + 1 } } } := by
    unfold State.memories
    rw [State.outputLineStart_library, State.outputLineStart_store]
  rw [State.MemorySteps, hline]
  exact (Relation.ReflTransGen.single (.serve (s.outputLineStart_serves background))).tail (.countLine hruns)

theorem State.completeFill_memorySteps {r : GrantedRead} {rest : List GrantedRead} {s : State}
    (hr : s.cache.reads = r :: rest) : s.MemorySteps mayWrite (s.completeFill r rest) := by
  have hcomplete : s.MemorySteps mayWrite { s with cache := s.cache.complete r rest } := .single (.complete hr)
  have hreach := (State.wake_buildsTo r.tile r.sector { s with cache := s.cache.complete r rest }).trans
    (State.build_buildsTo _)
  exact hcomplete.trans
    (State.MemorySteps.of_serves ((State.wake_serves r.tile r.sector _).trans (State.build_serves _)) hreach.library
      hreach.store)

/-! ### What stands before a command -/

theorem State.settleHold_memorySteps (s : State) : s.MemorySteps mayWrite s.settleHold := by
  unfold State.settleHold
  split
  · exact (State.MemorySteps.of_eq s.holdPop_controlsTo.memories).trans (State.settleScene_memorySteps _)
  · exact .refl

theorem State.settleCredit_memorySteps (s : State) : s.MemorySteps mayWrite s.settleCredit := by
  unfold State.settleCredit
  split
  · rename_i hdue
    refine .single (.restartWindow fun hnone => ?_)
    unfold State.creditDue at hdue
    rw [show s.library.window = none from hnone] at hdue
    cases hdue
  · exact .refl

theorem State.settleCounters_memorySteps (s : State) : s.MemorySteps mayWrite s.settleCounters :=
  (State.MemorySteps.of_eq s.settleDrained_controlsTo.memories).trans
    ((State.settleCredit_memorySteps _).trans
      (State.MemorySteps.of_eq (((State.settlePulse_controlsTo _).trans (State.settleLeaderWindow_controlsTo _)).trans
        (State.settleMemberWindow_controlsTo _)).memories))

theorem State.loadEnds_memorySteps (hmay : ∀ a, mayWrite a) (s : State) : s.MemorySteps mayWrite s.loadEnds := by
  have himage : s.MemorySteps mayWrite (s.applyImageRest loadAct) := s.applyImage_loadAct_memorySteps hmay _
  unfold State.loadEnds
  generalize s.applyImageRest loadAct = u at himage ⊢
  cases s.imageOutcome <;> exact himage.trans (State.MemorySteps.of_eq rfl)

theorem State.settleLoad_memorySteps {s : State} (hmay : s.loading = true → ∀ a, mayWrite a) :
    s.MemorySteps mayWrite s.settleLoad := by
  unfold State.settleLoad
  split
  · rename_i hdue
    unfold State.loadDue at hdue
    exact s.loadEnds_memorySteps (hmay (Bool.and_eq_true_iff.1 hdue).1)
  · exact .refl

theorem State.background_memorySteps {s : State} (hmay : s.loading = true → ∀ a, mayWrite a) :
    s.MemorySteps mayWrite s.background := by
  unfold State.background
  split
  · rename_i hload
    exact s.applyImage_loadAct_memorySteps (hmay hload) _
  · split
    · exact State.MemorySteps.of_eq (s.applyImage_recallAct_memories _)
    · exact s.saveGoesOn_programs.memorySteps

end Steps

/-- Nothing of what is settled behind the load touches the store (log 4). -/
theorem State.settleHold_store (s : State) : s.settleHold.store = s.store := by
  unfold State.settleHold
  split
  · rw [State.settleScene_store, s.holdPop_controlsTo.store]
  · rfl

theorem State.settleCounters_store (s : State) : s.settleCounters.store = s.store := by
  have hcredit : ∀ u : State, u.settleCredit.store = u.store := fun u => by
    unfold State.settleCredit
    split <;> rfl
  have hrest := ((State.settlePulse_controlsTo s.settleDrained.settleCredit).trans
    (State.settleLeaderWindow_controlsTo _)).trans (State.settleMemberWindow_controlsTo _)
  exact (hrest.store.trans (hcredit _)).trans s.settleDrained_controlsTo.store

/-- A part that is not loading does not load behind what is settled before a command. -/
theorem State.settleLoad_loading {s : State} (h : s.settleLoad.loading = true) : s.loading = true := by
  by_contra hload
  rw [s.settleLoad_of_not_due (s.loadDue_of_not_loading (by simpa using hload))] at h
  exact hload h

theorem State.loading_congr {s t : State} (h : t.store = s.store) : t.loading = s.loading := by
  unfold State.loading
  rw [h]

theorem State.settleDue_loading {s : State} (h : s.settleDue.loading = true) : s.loading = true := by
  rw [State.settleDue, State.loading_congr (State.settleCounters_store _),
    State.loading_congr (State.settleHold_store _)] at h
  exact State.settleLoad_loading h

/-- The store controller's work does not end a load. -/
theorem State.background_loading (s : State) : s.background.loading = s.loading := by
  have hload : ∀ (a : ImageAct) (u : State), (loadAct a u).loading = u.loading := fun a u => by
    cases a with
    | config f => rfl
    | entry table i bs =>
      simp only [loadAct]
      split <;> rfl
    | sector t n bs => rfl
  have hrecall : ∀ (a : ImageAct) (u : State), (recallAct a u).loading = u.loading := fun a u => by
    unfold recallAct
    repeat' split
    all_goals rfl
  unfold State.background
  split
  · exact s.applyImage_keeps (P := fun u => u.loading = s.loading) _ (fun a _ u hu => (hload a u).trans hu)
      (fun _ _ hu => hu) rfl
  · split
    · exact s.applyImage_keeps (P := fun u => u.loading = s.loading) _ (fun a _ u hu => (hrecall a u).trans hu)
        (fun _ _ hu => hu) rfl
    · rcases s.saveGoesOn_cases with ⟨-, h⟩ | ⟨j, -, -, -, h⟩ <;> rw [h]
      rfl

theorem State.prelude_loading {s : State} (h : s.prelude.loading = true) : s.loading = true := by
  rw [State.prelude, State.background_loading] at h
  exact State.settleDue_loading h

/-- What stands before a command, in steps of the memories: only the loader writes library memory (R97, R116). -/
theorem State.Before.memorySteps {mayWrite : Nat → Prop} {s u : State} (hmay : s.loading = true → ∀ a, mayWrite a)
    (h : s.Before u) : s.MemorySteps mayWrite u := by
  have hload : s.MemorySteps mayWrite s.settleLoad := State.settleLoad_memorySteps hmay
  cases h with
  | settleLoad => exact hload
  | prelude =>
    have hsettled := (hload.trans (State.settleHold_memorySteps _)).trans (State.settleCounters_memorySteps _)
    exact hsettled.trans (State.background_memorySteps fun h => hmay (State.settleDue_loading h))
  | rasterPrelude =>
    refine (hload.trans (State.settleCounters_memorySteps _)).trans
      (State.background_memorySteps fun h => hmay (State.settleLoad_loading ?_))
    rwa [State.loading_congr (State.settleCounters_store _)] at h

/-! ### The credit window before a line (R113) -/

theorem Library.configureCredit_windowRuns {l : Library} (h : l.windowRuns) (lines limit : Option Nat) :
    (l.configureCredit lines limit).windowRuns := by
  intro w hw hlen
  simp only [Library.configureCredit] at hw
  split at hw
  · cases hw
  · split at hw
    · cases hw
      exact hlen
    · exact h w hw hlen

theorem loadAct_windowRuns (act : ImageAct) {s : State} (h : s.library.windowRuns) :
    (loadAct act s).library.windowRuns := by
  cases act with
  | config f => exact Library.configureCredit_windowRuns h _ _
  | entry table i bs =>
    simp only [loadAct]
    split <;> exact h
  | sector t n bs => exact h

theorem State.settleCredit_windowRuns (s : State) : s.settleCredit.library.windowRuns := by
  intro w hw hlen
  unfold State.settleCredit at hw
  split at hw
  · cases hw
    exact hlen
  · rename_i hdue
    unfold State.creditDue at hdue
    rw [hw] at hdue
    simpa using hdue

/-- Before a line of the raster the credit window has been restarted where it was at its end. -/
theorem State.rasterPrelude_windowRuns (s : State) : s.rasterPrelude.library.windowRuns := by
  have hsettled : s.settleLoad.settleCounters.library.windowRuns := by
    have hrest := ((State.settlePulse_controlsTo s.settleLoad.settleDrained.settleCredit).trans
      (State.settleLeaderWindow_controlsTo _)).trans (State.settleMemberWindow_controlsTo _)
    rw [State.settleCounters, hrest.library]
    exact State.settleCredit_windowRuns _
  unfold State.rasterPrelude State.background
  generalize s.settleLoad.settleCounters = u at hsettled ⊢
  split
  · exact u.applyImage_keeps (P := fun v => v.library.windowRuns) _ (fun a _ v hv => loadAct_windowRuns a hv)
      (fun _ _ hv => hv) hsettled
  · split
    · have hkeep : (u.applyImage recallAct (Config.loaderPace u.tick)).library = u.library :=
        congrArg Memories.library (u.applyImage_recallAct_memories _)
      rwa [State.nextTick_library, hkeep]
    · rwa [u.saveGoesOn_programs.library]

/-! ### The table queue's commands -/

@[simp] theorem State.takeHead_memories (s : State) : s.takeHead.memories = s.memories := rfl

theorem State.openStage_memories (s : State) : s.openStage.memories = s.memories := by
  unfold State.openStage
  split <;> rfl

theorem State.writeTable_memories (w : TableWriteCmd) (s : State) : (s.writeTable w).memories = s.memories := by
  unfold State.writeTable
  repeat' split
  all_goals rfl

theorem State.armFlip_memories (f : FlipArmCmd) (s : State) : (s.armFlip f).memories = s.memories := by
  unfold State.armFlip
  split
  · rfl
  · split
    · rfl
    · split
      · rfl
      · simp only
        split
        · exact (State.enterArmed_controlsTo _).memories
        · rfl

theorem State.cancelFlip_memories (s : State) : s.cancelFlip.memories = s.memories := by
  unfold State.cancelFlip
  split <;> rfl

theorem State.discardStage_memories (s : State) : s.discardStage.memories = s.memories := by
  unfold State.discardStage
  split <;> rfl

theorem State.startSave_memories (s : State) : s.startSave.memories = s.memories := by
  unfold State.startSave
  repeat' split
  all_goals rfl

theorem State.startRecall_memories (s : State) : s.startRecall.memories = s.memories := by
  unfold State.startRecall
  repeat' split
  all_goals rfl

theorem State.startProtect_memories (named : BitVec 16) (s : State) : (s.startProtect named).memories = s.memories := by
  unfold State.startProtect
  repeat' split
  all_goals rfl

theorem execStageOpen_memories {s t : State} (h : execStageOpen s = .next t) : t.memories = s.prelude.memories := by
  unfold execStageOpen at h
  generalize s.prelude = u at h ⊢
  simp only at h
  split at h <;> cases h
  · exact State.openStage_memories _
  · rfl

theorem execTableWrite_memories {s t : State} (h : execTableWrite s = .next t) : t.memories = s.prelude.memories := by
  unfold execTableWrite at h
  generalize s.prelude = u at h ⊢
  simp only at h
  split at h <;> cases h
  · exact State.writeTable_memories _ _
  · rfl

theorem execFlipArm_memories {s t : State} (h : execFlipArm s = .next t) : t.memories = s.prelude.memories := by
  unfold execFlipArm at h
  generalize s.prelude = u at h ⊢
  simp only at h
  split at h <;> cases h
  · exact State.armFlip_memories _ _
  · rfl

theorem execFlipCancel_memories {s t : State} (h : execFlipCancel s = .next t) : t.memories = s.prelude.memories := by
  unfold execFlipCancel at h
  generalize s.prelude = u at h ⊢
  simp only at h
  split at h <;> cases h
  · exact State.cancelFlip_memories _
  · rfl

theorem execStageDiscard_memories {s t : State} (h : execStageDiscard s = .next t) :
    t.memories = s.prelude.memories := by
  unfold execStageDiscard at h
  generalize s.prelude = u at h ⊢
  simp only at h
  split at h <;> cases h
  · exact State.discardStage_memories _
  · rfl

theorem execStoreSave_memories {s t : State} (h : execStoreSave s = .next t) : t.memories = s.prelude.memories := by
  unfold execStoreSave at h
  generalize s.prelude = u at h ⊢
  simp only at h
  split at h <;> cases h
  · exact State.startSave_memories _
  · rfl

theorem execStoreRecall_memories {s t : State} (h : execStoreRecall s = .next t) : t.memories = s.prelude.memories := by
  unfold execStoreRecall at h
  generalize s.prelude = u at h ⊢
  simp only at h
  split at h <;> cases h
  · exact State.startRecall_memories _
  · rfl

theorem execStoreProtect_memories {s t : State} (h : execStoreProtect s = .next t) :
    t.memories = s.prelude.memories := by
  unfold execStoreProtect at h
  generalize s.prelude = u at h ⊢
  simp only at h
  split at h <;> cases h
  · exact State.startProtect_memories _ _
  · rfl

theorem execConfigWrite_memorySteps {mayWrite : Nat → Prop} {s t : State} (h : execConfigWrite s = .next t) :
    s.prelude.MemorySteps mayWrite t := by
  unfold execConfigWrite at h
  generalize s.prelude = u at h ⊢
  simp only at h
  split at h <;> cases h
  · unfold State.writeConfig
    split
    · exact State.MemorySteps.of_eq rfl
    · exact .single (.configure _ _)
  · exact .refl

/-! ### The library's commands, and the ends of the store controller's operations -/

theorem execFillGrant_memorySteps {mayWrite : Nat → Prop} {s t : State} (h : execFillGrant s = .next t) :
    s.prelude.MemorySteps mayWrite t := by
  unfold execFillGrant at h
  generalize s.prelude = u at h ⊢
  simp only at h
  split at h <;> cases h
  · exact .refl
  · rename_i f hf
    exact .single (.grant hf)

theorem execFillCompletion_memorySteps {mayWrite : Nat → Prop} {s t : State} (h : execFillCompletion s = .next t) :
    s.prelude.MemorySteps mayWrite t := by
  unfold execFillCompletion at h
  generalize s.prelude = u at h ⊢
  simp only at h
  split at h <;> cases h
  · exact .refl
  · rename_i r rest hr
    exact State.completeFill_memorySteps hr

/-- The bytes that the head of the upload queue writes: those of its sector, where its area is not pinned (R111). -/
def State.uploadWrites (s : State) (a : Nat) : Prop :=
  ∃ u rest, s.library.uploads = u :: rest ∧ s.pinned (tileArea u.tile) = false ∧ sectorAddr u.tile u.sector ≤ a ∧
    a < sectorAddr u.tile u.sector + u.bytes.length

theorem execTileWrite_memorySteps {mayWrite : Nat → Prop} {s t : State} (hmay : ∀ a, s.prelude.uploadWrites a → mayWrite a)
    (h : execTileWrite s = .next t) : s.prelude.MemorySteps mayWrite t := by
  unfold execTileWrite at h
  generalize s.prelude = v at h hmay ⊢
  simp only at h
  split at h
  · rename_i u rest _ hhead
    split at h <;> cases h
    · rename_i hcredit
      unfold State.grantUpload
      simp only
      split
      · exact .single (.refuse hhead hcredit)
      · rename_i hpinned
        exact .single (.upload hhead hcredit fun a hle hlt =>
          hmay a ⟨u, rest, hhead, by simpa [State.pinned] using hpinned, hle, hlt⟩)
    · exact .refl
  · cases h
    exact .refl

theorem execSaveReadGrant_programs {s t : State} (h : execSaveReadGrant s = .next t) : s.prelude.Programs t := by
  unfold execSaveReadGrant at h
  generalize s.prelude = u at h ⊢
  simp only at h
  split at h
  · split at h
    · cases h
      exact .refl _
    · split at h <;> cases h
      · exact State.saveSector_programs ..
      · exact .refl _
  · cases h
    exact .refl _

theorem execSaveCompletion_programs {s t : State} (h : execSaveCompletion s = .next t) : s.prelude.Programs t := by
  unfold execSaveCompletion at h
  generalize s.prelude = u at h ⊢
  simp only at h
  split at h
  · split at h <;> cases h
    · exact State.saveEnds_programs _ _
    · exact .refl _
  · cases h
    exact .refl _

theorem execSeedCompletion_programs {s t : State} (h : execSeedCompletion s = .next t) : s.prelude.Programs t := by
  unfold execSeedCompletion at h
  generalize s.prelude = u at h ⊢
  simp only at h
  split at h
  · cases h
    exact ⟨rfl, rfl, id⟩
  · split at h <;> cases h
    · exact .refl _
    · exact ⟨rfl, rfl, memWf_flashErase _ _⟩
  · cases h
    exact .refl _

theorem State.recallEnds_memories (s : State) : s.recallEnds.memories = s.memories := by
  have himage : (s.applyImageRest recallAct).memories = s.memories := s.applyImage_recallAct_memories _
  unfold State.recallEnds
  generalize s.applyImageRest recallAct = u at himage ⊢
  cases s.imageOutcome <;> exact himage

theorem execRecallCompletion_memories {s t : State} (h : execRecallCompletion s = .next t) :
    t.memories = s.prelude.memories := by
  unfold execRecallCompletion at h
  generalize s.prelude = u at h ⊢
  simp only at h
  split at h <;> cases h
  · exact State.recallEnds_memories _
  · rfl

theorem execStoreReadCompletion_memories {s t : State} (h : execStoreReadCompletion s = .next t) :
    t.memories = s.prelude.memories := by
  unfold execStoreReadCompletion at h
  generalize s.prelude = u at h ⊢
  simp only at h
  split at h <;> cases h <;> rfl

/-! ### The receiver and the raster -/

/-- An upload that the parser accepts is lawful (R110, check 5 of R154). -/
theorem packetOf_upload_lawful {ahead type : Nat} {p : List Byte} {u : Upload}
    (h : packetOf ahead type p = some (.upload u)) : u.lawful := by
  unfold packetOf at h
  split at h
  case h_18 =>
    split at h
    · rename_i hfields
      simp only [sized, Option.ite_none_right_eq_some, Option.some.injEq, Packet.upload.injEq] at h
      obtain ⟨hlen, rfl⟩ := h
      exact ⟨hfields.1, hfields.2, by rw [List.length_drop, hlen]⟩
    · cases h
  all_goals simp [sized] at h

end Sys2Proof.Machine

/-! SUPPORT. The commands of the receiver, the raster and the reset as steps of the memories; the laws of the credit
window, of the tile cache and of the byte memories, and the bytes of library memory that are not written. -/

namespace Sys2Proof.Machine

/-! ### The receiver -/

/-- What a raised flag and a packet's check keep, the packet parser keeps (R153). -/
theorem parseFrom_keeps_of_check {P : State → Prop} (hraise : ∀ f s, P s → P (s.raise f))
    (hcheck : ∀ type target p s, P s → P (checkPacket type target p s)) (n : Nat) (bs : List Byte) {s : State}
    (hs : P s) : P (parseFrom n bs s) := by
  induction n generalizing bs s with
  | zero => exact hs
  | succ n ih =>
    cases bs with
    | nil => exact hs
    | cons b bs =>
      have hbad := hraise .packetBad s hs
      simp only [parseFrom]
      split
      · exact hs
      · split
        · exact hbad
        · split
          · exact hbad
          · split
            · exact hbad
            · split
              · exact hbad
              · exact ih _ (hcheck _ _ _ s hs)

section Steps
variable {mayWrite : Nat → Prop}

/-- A packet's check queues a lawful upload at most (R154, R155). -/
theorem checkPacket_memorySteps (type target : Nat) (p : List Byte) (s : State) :
    s.MemorySteps mayWrite (checkPacket type target p s) := by
  rcases checkPacket_cases type target p s with h | h | ⟨k, hk, h⟩ <;> rw [h]
  · exact State.MemorySteps.of_eq rfl
  · rcases dispatch_cases k s with ⟨c, -, -, hd⟩ | ⟨c, -, -, hd⟩ | ⟨u, rfl, -, hd⟩ | ⟨r, -, -, hd⟩ | ⟨f, hd⟩ <;> rw [hd]
    · exact State.MemorySteps.of_eq rfl
    · exact State.MemorySteps.of_eq rfl
    · exact .single (.enqueue (packetOf_upload_lawful hk))
    · exact State.MemorySteps.of_eq rfl
    · exact State.MemorySteps.of_eq rfl

theorem State.receiveControl_memorySteps (f : InFrame) (cols : List Rgb) (s : State) :
    s.MemorySteps mayWrite (s.receiveControl f cols) := by
  unfold State.receiveControl
  simp only
  split
  · exact State.MemorySteps.of_eq rfl
  · split
    · exact State.MemorySteps.of_eq rfl
    · exact parseFrom_keeps_of_check (P := s.MemorySteps mayWrite) (fun _ _ hu => hu)
        (fun type target p u hu => hu.trans (checkPacket_memorySteps type target p u)) _ _
        (State.MemorySteps.of_eq rfl)

theorem State.blankIfInput_memories (s : State) : s.blankIfInput.memories = s.memories := by
  obtain ⟨p, h⟩ := s.blankIfInput_eq
  rw [h]
  rfl

theorem execControlLine_memorySteps {cols : List Rgb} {s t : State} (h : execControlLine cols s = .next t) :
    s.rasterPrelude.MemorySteps mayWrite t := by
  unfold execControlLine at h
  generalize s.rasterPrelude = u at h ⊢
  simp only at h
  split at h <;> cases h
  · exact .refl
  · exact (State.receiveControl_memorySteps _ _ _).trans (State.MemorySteps.of_eq (State.blankIfInput_memories _))

theorem execBlankingLine_memories {s t : State} (h : execBlankingLine s = .next t) :
    t.memories = s.rasterPrelude.memories := by
  unfold execBlankingLine at h
  generalize s.rasterPrelude = u at h ⊢
  simp only at h
  split at h <;> cases h
  · rfl
  · exact State.blankIfInput_memories _

/-! ### Lines and frame starts -/

theorem execFallbackBlankingLinePeriod_memories {s t : State} (h : execFallbackBlankingLinePeriod s = .next t) :
    t.memories = s.rasterPrelude.memories := by
  unfold execFallbackBlankingLinePeriod at h
  generalize s.rasterPrelude = u at h ⊢
  simp only at h
  split at h <;> cases h <;> rfl

theorem execActiveLine_memorySteps {cols : List Rgb} {flip : Bool} {s t : State}
    (h : execActiveLine cols flip s = .next t) : s.rasterPrelude.MemorySteps mayWrite t := by
  have hruns := s.rasterPrelude_windowRuns
  unfold execActiveLine at h
  generalize s.rasterPrelude = u at h hruns ⊢
  simp only at h
  split at h
  · cases h
    exact State.MemorySteps.of_eq rfl
  · split at h <;> cases h
    · exact (State.MemorySteps.of_eq (t := (u.seeFlip flip).measureLine _ cols.length) rfl).trans
        (State.outputLineStart_memorySteps cols hruns)
    · exact State.MemorySteps.of_eq rfl

theorem execFallbackLineStart_memorySteps {flip : Bool} {s t : State} (h : execFallbackLineStart flip s = .next t) :
    s.rasterPrelude.MemorySteps mayWrite t := by
  have hruns := s.rasterPrelude_windowRuns
  unfold execFallbackLineStart at h
  generalize s.rasterPrelude = u at h hruns ⊢
  simp only at h
  split at h <;> cases h
  · exact State.MemorySteps.of_eq rfl
  · exact State.outputLineStart_memorySteps
      (s := { u.seeFlip flip with raster := { u.raster with linePeriods := u.raster.linePeriods + 1 } }) _ hruns

theorem execFallbackFrameStart_memorySteps {ready : Bool} {s t : State}
    (h : execFallbackFrameStart ready s = .next t) : s.rasterPrelude.MemorySteps mayWrite t := by
  unfold execFallbackFrameStart at h
  generalize s.rasterPrelude = u at h ⊢
  simp only at h
  split at h <;> cases h
  · exact State.MemorySteps.of_eq rfl
  · exact State.outputFrameStart_memorySteps .fallback (u.seeReady ready)

theorem State.cutLine_memories (s : State) : s.cutLine.memories = s.memories := by
  obtain ⟨p, k, r, h⟩ := s.cutLine_eq
  rw [h]
  rfl

theorem State.loseInput_memorySteps (s : State) : s.MemorySteps mayWrite s.loseInput := by
  cases hlock : s.raster.lock.follows
  · rw [State.loseInput_of_not_follows hlock]
    exact State.MemorySteps.of_eq rfl
  · rw [State.loseInput_of_follows hlock]
    exact (State.MemorySteps.of_eq (t := s.lockLost) (State.cutLine_memories _)).trans
      (State.outputFrameStart_memorySteps .fallback _)

theorem execLossIntervalExpiry_memorySteps {ready : Bool} {s t : State}
    (h : execLossIntervalExpiry ready s = .next t) : s.rasterPrelude.MemorySteps mayWrite t := by
  unfold execLossIntervalExpiry at h
  generalize s.rasterPrelude = u at h ⊢
  simp only at h
  split at h <;> cases h
  · exact State.MemorySteps.of_eq rfl
  · exact State.loseInput_memorySteps (u.seeReady ready)

theorem State.judgeFrame_memories (s : State) : s.judgeFrame.memories = s.memories := by
  obtain ⟨v, h⟩ := s.judgeFrame_eq
  rw [h]
  rfl

theorem State.inputFrameOutput_memorySteps (before : Lock) (s : State) :
    s.MemorySteps mayWrite (s.inputFrameOutput before) := by
  unfold State.inputFrameOutput
  split
  · split
    · exact s.outputFrameStart_memorySteps .input
    · exact (State.MemorySteps.of_eq s.cutLine_memories).trans (State.outputFrameStart_memorySteps .input _)
  · split
    · exact s.outputFrameStart_memorySteps .fallback
    · exact .refl

theorem execInputFrameStart_memorySteps {ready : Bool} {s t : State}
    (h : execInputFrameStart ready s = .next t) : s.rasterPrelude.MemorySteps mayWrite t := by
  unfold execInputFrameStart at h
  generalize s.rasterPrelude = u at h ⊢
  cases h
  exact (State.MemorySteps.of_eq (State.judgeFrame_memories (u.seeReady ready))).trans
    (State.inputFrameOutput_memorySteps _ _)

/-! ### POWER_ON, RESTART, LOAD_COMPLETION -/

/-- A reset behind the store operations stopped, with the contents of library memory or without (R173, R179). -/
theorem State.resetBlocks_memorySteps {s u : State}
    (hmem : u.library.mem = s.library.mem ∨ u.library.mem = [] ∧ ∀ a, mayWrite a)
    (hwf : memWf flashFill s.store.flash = true → memWf flashFill u.store.flash = true) :
    s.MemorySteps mayWrite (u.resetBlocks.outputFrameStart .fallback) :=
  (Relation.ReflTransGen.single (.reset hmem hwf)).trans (State.outputFrameStart_memorySteps .fallback u.resetBlocks)

theorem execPowerOn_memorySteps (hmay : ∀ a, mayWrite a) {p : Straps} {s t : State} (h : execPowerOn p s = .next t) :
    s.MemorySteps mayWrite t := by
  have hstops := (s.saveGoesOn_programs.trans (State.protectStops_programs _)).trans (State.saveStops_programs _)
  unfold execPowerOn at h
  split at h
  · rw [← Host.Outcome.next.inj h]
    exact State.resetBlocks_memorySteps (.inr ⟨rfl, hmay⟩) hstops.wf
  · cases h

theorem execRestart_memorySteps {s t : State} (h : execRestart s = .next t) : s.rasterPrelude.MemorySteps mayWrite t := by
  unfold execRestart at h
  generalize s.rasterPrelude = u at h ⊢
  have hstops := u.protectStops_programs.trans (State.saveStops_programs _)
  simp only at h
  split at h <;> cases h
  · refine State.resetBlocks_memorySteps (.inl ?_) fun hwf => ?_
    · rw [State.cutLine_library, hstops.library]
    · rw [State.cutLine_store]
      exact hstops.wf hwf
  · exact .refl

theorem execLoadCompletion_memorySteps {s t : State} (hmay : s.loading = true → ∀ a, mayWrite a)
    (h : execLoadCompletion s = .next t) : s.MemorySteps mayWrite t := by
  have hpre : s.MemorySteps mayWrite s.prelude := State.Before.prelude.memorySteps hmay
  have hload : s.prelude.loading = true → ∀ a, mayWrite a := fun hl => hmay (State.prelude_loading hl)
  unfold execLoadCompletion at h
  generalize s.prelude = u at h hpre hload
  split at h
  · cases h
    exact State.settleLoad_memorySteps hmay
  · simp only at h
    split at h <;> cases h
    · rename_i hl
      exact hpre.trans (u.loadEnds_memorySteps (hload hl))
    · exact hpre

end Steps

/-! ### Every command -/

/-- The addresses of library memory that a command may write: any while the start-up load runs and at a power-on, and at
a TILE_WRITE those of the upload granted (R97, R111, R116). -/
def mayWriteLibrary (c : Instr) (s : State) (a : Nat) : Prop :=
  s.loading = true ∨ (∃ p, c = .powerOn p) ∨ (c = .tileWrite ∧ s.prelude.uploadWrites a)

/-- Every command is a sequence of steps of the memories. -/
theorem exec_memorySteps {c : Instr} {s t : State} (h : exec c s = .next t) :
    s.MemorySteps (mayWriteLibrary c s) t := by
  have hmay : s.loading = true → ∀ a, mayWriteLibrary c s a := fun hl _ => .inl hl
  have hload : s.MemorySteps (mayWriteLibrary c s) s.settleLoad := State.settleLoad_memorySteps hmay
  have hpre : s.MemorySteps (mayWriteLibrary c s) s.prelude := State.Before.prelude.memorySteps hmay
  have hraster : s.MemorySteps (mayWriteLibrary c s) s.rasterPrelude := State.Before.rasterPrelude.memorySteps hmay
  have hkeeps : t.memories = s.prelude.memories → s.MemorySteps (mayWriteLibrary c s) t :=
    fun heq => hpre.trans (State.MemorySteps.of_eq heq)
  unfold exec at h
  cases c with
  | powerOn p => exact execPowerOn_memorySteps (fun _ => .inr (.inl ⟨p, rfl⟩)) h
  | restart => exact hraster.trans (execRestart_memorySteps h)
  | loadCompletion => exact execLoadCompletion_memorySteps hmay h
  | inputFrameStart ready => exact hraster.trans (execInputFrameStart_memorySteps h)
  | lossIntervalExpiry ready => exact hraster.trans (execLossIntervalExpiry_memorySteps h)
  | fallbackFrameStart ready => exact hraster.trans (execFallbackFrameStart_memorySteps h)
  | activeLine cols flip => exact hraster.trans (execActiveLine_memorySteps h)
  | fallbackLineStart flip => exact hraster.trans (execFallbackLineStart_memorySteps h)
  | controlLine cols => exact hraster.trans (execControlLine_memorySteps h)
  | blankingLine => exact hraster.trans (State.MemorySteps.of_eq (execBlankingLine_memories h))
  | fallbackBlankingLinePeriod =>
    exact hraster.trans (State.MemorySteps.of_eq (execFallbackBlankingLinePeriod_memories h))
  | fillGrant => exact hpre.trans (execFillGrant_memorySteps h)
  | fillCompletion => exact hpre.trans (execFillCompletion_memorySteps h)
  | tileWrite => exact hpre.trans (execTileWrite_memorySteps (fun _ ha => .inr (.inr ⟨rfl, ha⟩)) h)
  | configWrite => exact hpre.trans (execConfigWrite_memorySteps h)
  | saveReadGrant => exact hpre.trans (execSaveReadGrant_programs h).memorySteps
  | saveCompletion => exact hpre.trans (execSaveCompletion_programs h).memorySteps
  | seedCompletion => exact hpre.trans (execSeedCompletion_programs h).memorySteps
  | stageOpen => exact hkeeps (execStageOpen_memories h)
  | tableWrite => exact hkeeps (execTableWrite_memories h)
  | flipArm => exact hkeeps (execFlipArm_memories h)
  | flipCancel => exact hkeeps (execFlipCancel_memories h)
  | stageDiscard => exact hkeeps (execStageDiscard_memories h)
  | storeSave => exact hkeeps (execStoreSave_memories h)
  | storeRecall => exact hkeeps (execStoreRecall_memories h)
  | storeProtect => exact hkeeps (execStoreProtect_memories h)
  | recallCompletion => exact hkeeps (execRecallCompletion_memories h)
  | storeReadCompletion => exact hkeeps (execStoreReadCompletion_memories h)
  | protectProgramCompletion =>
    cases h
    exact hpre.trans (State.protectEnds_programs _).memorySteps
  | storeProgramTimeout =>
    cases h
    exact hpre.trans (State.programTimeout_programs _).memorySteps
  | pageHoldExpiry =>
    cases h
    exact hload.trans (State.settleHold_memorySteps _)
  | uploadsAheadDrained =>
    cases h
    exact hload.trans (State.MemorySteps.of_eq (State.settleDrained_controlsTo _).memories)
  | creditWindowRestart =>
    cases h
    exact hload.trans (State.settleCredit_memorySteps _)
  | leaderWindowEnd =>
    cases h
    exact hload.trans (State.MemorySteps.of_eq (State.settleLeaderWindow_controlsTo _).memories)
  | memberWindowEnd =>
    cases h
    exact hload.trans (State.MemorySteps.of_eq (State.settleMemberWindow_controlsTo _).memories)
  | pulseEnd =>
    cases h
    exact hload.trans (State.MemorySteps.of_eq (State.settlePulse_controlsTo _).memories)

/-- A law that each of these steps keeps, every step of the part keeps. -/
theorem step_memories_invariant {P : Memories → Prop}
    (hP : ∀ {mayWrite : Nat → Prop} {m m' : Memories}, m.Step mayWrite m' → P m → P m') {s t : State}
    (hs : P s.memories) (h : step s = .next t) : P t.memories := by
  rcases step_cases s t h with ⟨-, rfl⟩ | ⟨c, rest, -, hexec⟩
  · exact hs
  · exact (exec_memorySteps hexec).invariant hP hs

/-! ### O10, O13 and O14: the laws that every step keeps -/

/-- Settles O10: a grant needs a credit left, a line needs a window that runs, and a window begins with both counts
at 0. -/
theorem uploadGrantsStayWithinTheWindowLimit : Obligations.UploadGrantsStayWithinTheWindowLimit :=
  fun _ _ hs h => step_memories_invariant (P := fun m => m.library.creditLaw) Memories.Step.creditLaw hs h

/-- Settles O13: a sector becomes valid by a completion alone, whose bytes a write in between makes void, and a write
drops the sector that it writes and no other. -/
theorem cachedSectorsEqualLibraryMemory : Obligations.CachedSectorsEqualLibraryMemory := by
  intro s t hs h
  rw [State.cacheLaw_iff] at hs ⊢
  exact step_memories_invariant (P := fun m => m.uploadsLawful ∧ m.Coherent)
    (fun hstep hm => ⟨hstep.uploadsLawful hm.1, hstep.coherent hm.1 hm.2⟩) hs h

/-- Settles O14: every write of library memory and every erase and program of the store keeps the canonical form. -/
theorem memoriesStayCanonical : Obligations.MemoriesStayCanonical :=
  fun _ _ hs h => step_memories_invariant (P := Memories.canonical) Memories.Step.canonical hs h

/-! ### O16: library bytes that are not written -/

/-- In a part that is not loading, what stands before a command leaves the active bank as it was: a RECALL writes
staging (R175). -/
theorem State.prelude_activeBank {s : State} (hload : s.loading = false) : s.prelude.activeBank = s.activeBank := by
  have hsettled : s.settleDue.tables = s.tables := by
    have hdue := s.settleLoad_of_not_due (s.loadDue_of_not_loading hload)
    rw [State.settleDue, hdue]
    exact ((State.settleHold_keepsTables s).trans (State.settleCounters_keepsTables _)).tables
  have hquiet : s.settleDue.loading = false := by
    by_contra h
    rw [State.settleDue_loading (by simpa using h)] at hload
    cases hload
  have hactive : s.settleDue.activeBank = s.activeBank := by
    unfold State.activeBank
    rw [hsettled]
  rw [State.prelude, ← hactive]
  generalize s.settleDue = u at hquiet
  unfold State.background
  rw [hquiet, if_neg Bool.false_ne_true]
  split
  · refine u.applyImage_keeps (P := fun v => v.activeBank = u.activeBank) _ (fun a _ v hv => Eq.trans ?_ hv)
      (fun _ _ hv => hv) rfl
    cases a with
    | config f => rfl
    | entry table i bs =>
      simp only [recallAct]
      split
      · exact v.setStaging_activeBank _
      · rfl
    | sector t n bs => rfl
  · rcases u.saveGoesOn_cases with ⟨-, h⟩ | ⟨j, -, -, -, h⟩ <;> rw [h]
    rfl

/-- A command but POWER_ON leaves a byte of library memory as it was that no upload granted by it covers (R97). -/
theorem exec_libByte {c : Instr} {s t : State} (hpower : ∀ p, c ≠ .powerOn p) (hload : s.loading = false)
    (h : exec c s = .next t) {a : Nat} (ha : c = .tileWrite → ¬s.prelude.uploadWrites a) : t.libByte a = s.libByte a := by
  have hmay : ¬mayWriteLibrary c s a := by
    rintro (hl | ⟨p, hp⟩ | ⟨hc, hw⟩)
    · rw [hload] at hl
      cases hl
    · exact hpower p hp
    · exact ha hc hw
  exact (exec_memorySteps h).invariant
    (P := fun m => memRead libraryFill m.library.mem a = memRead libraryFill s.library.mem a)
    (fun hstep hm => (hstep.unwritten hmay).trans hm) rfl

/-- Settles O16: only an upload granted writes, and its sector lies in the area that its grant found not pinned. -/
theorem pinnedLibraryBytesAreNotWritten : Obligations.PinnedLibraryBytesAreNotWritten := by
  refine ⟨fun c s t hpower hload huploads h a hpinned => exec_libByte hpower hload h ?_,
    fun c s t hpower htile hload h a => exec_libByte hpower hload h fun hc => absurd hc htile⟩
  rintro - ⟨u, rest, hhead, hfree, hle, hlt⟩
  have hsteps : s.MemorySteps (fun _ => True) s.prelude := State.Before.prelude.memorySteps fun _ _ => trivial
  have hlawful : s.prelude.memories.uploadsLawful := hsteps.invariant Memories.Step.uploadsLawful huploads
  obtain ⟨-, hsector, hlen⟩ := hlawful u (by
    rw [show s.prelude.memories.library.uploads = u :: rest from hhead]
    exact List.mem_cons_self ..)
  have harea : a / 1048576 = tileArea u.tile := by
    unfold sectorAddr at hle hlt
    unfold tileArea
    omega
  rw [harea] at hpinned
  unfold State.pinned at hpinned hfree
  rw [State.prelude_activeBank hload, hpinned] at hfree
  cases hfree

end Sys2Proof.Machine

/-! SUPPORT. A read by the builder and a considered prefetch, outcome by outcome, way by way (R96 to R108). -/

namespace Sys2Proof.Machine

/-! ### The ways behind an entry and behind an allocation -/

/-- Where no way holds the tile, a change of its lines behind an allocation is a change of the line allocated. -/
theorem map_tagged_set_allocated {t : Nat} {ws : List CacheLine} (h : ∀ l ∈ ws, l.tag ≠ some t) (i : Nat)
    (f : CacheLine → CacheLine) :
    (ws.set i (.allocated t)).map (fun l => if l.tag = some t then f l else l) = ws.set i (f (.allocated t)) := by
  have hsame : ws.map (fun l => if l.tag = some t then f l else l) = ws :=
    (List.map_congr_left fun l hl => if_neg (h l hl)).trans (List.map_id' ws)
  have htag : (CacheLine.allocated t).tag = some t := rfl
  rw [List.map_set, hsame, if_pos htag]

theorem Cache.ways_addFill (c : Cache) (t n : Nat) (d : Bool) :
    (c.addFill t n d).ways t =
      (c.ways t).map fun l => if l.tag = some t then l.mapSlot n fun d => { d with inFlight := true } else l :=
  c.ways_mapLine_same t _

theorem Cache.ways_addFill_other {t t' : Nat} (h : setOf t' ≠ setOf t) (c : Cache) (n : Nat) (d : Bool) :
    (c.addFill t n d).ways t' = c.ways t' := Cache.ways_mapLine_other h c _

/-- The line of a tile allocated for one of its sectors: nothing valid, that sector's mark set, counter 1 (R99). -/
def CacheLine.awaiting (t n : Nat) : CacheLine := ⟨some t, (List.replicate 4 ⟨none, false⟩).set n ⟨none, true⟩, 1⟩

theorem CacheLine.allocated_marked (t n : Nat) :
    (CacheLine.allocated t).mapSlot n (fun d => { d with inFlight := true }) = .awaiting t n := by
  unfold CacheLine.mapSlot
  rw [CacheLine.slot_allocated]
  rfl

/-- The set of an absent tile behind the allocation of a way and the entry it is made for. -/
theorem Cache.ways_allocated_addFill {c : Cache} (hshape : c.shapely) {t : Nat} {ws : List CacheLine}
    (habsent : ∀ l ∈ ws, l.tag ≠ some t) (i n : Nat) (d : Bool) :
    ((c.setWays t (ws.set i (.allocated t))).addFill t n d).ways t =
      ws.set i (.awaiting t n) := by
  rw [Cache.ways_addFill, Cache.ways_setWays_same (hshape.setOf_lt t), map_tagged_set_allocated habsent,
    CacheLine.allocated_marked]

/-- An absent tile with a way given to it has its line, and with it the mark of its entry. -/
theorem Cache.inFlight_allocate_addFill {c : Cache} (hshape : c.shapely) {t n : Nat} (habsent : c.line? t = none)
    (hn : n < 4) {k : CacheLine → Nat} (hk : ∀ l, k l ≤ l.confidence) {i : Nat} (hi : i < 4) (d : Bool) :
    ((c.allocate t k i).addFill t n d).inFlight t n = true := by
  refine Cache.inFlight_addFill_self (Cache.allocate_shapely hshape habsent hk) ?_ hn d
  rw [Cache.line?_allocate hshape habsent hk hi]
  exact Option.some_ne_none _

/-! ### A considered prefetch (R107, R108) -/

theorem Cache.prefetch_of_unwanted {c : Cache} {t n : Nat}
    (h : c.valid? t n ≠ none ∨ c.inFlight t n = true ∨ 4 < c.fills.length) : c.prefetch t n = c := by
  unfold Cache.prefetch
  rw [if_pos h]

section Wanted
variable {c : Cache} {t n : Nat}
  (h : ¬(c.valid? t n ≠ none ∨ c.inFlight t n = true ∨ 4 < c.fills.length))
include h

theorem Cache.prefetch_of_present (hline : c.line? t ≠ none) : c.prefetch t n = c.addFill t n false := by
  obtain ⟨l, hl⟩ := Option.ne_none_iff_exists'.1 hline
  unfold Cache.prefetch
  rw [if_neg h]
  simp only [hl]

theorem Cache.prefetch_of_noWay (habsent : c.line? t = none) (hway : freeZeroWay (c.ways t) = none) :
    c.prefetch t n = c := by
  unfold Cache.prefetch
  rw [if_neg h]
  simp only [habsent, hway]

theorem Cache.prefetch_of_way (habsent : c.line? t = none) {i : Nat} (hway : freeZeroWay (c.ways t) = some i) :
    c.prefetch t n = (c.setWays t ((c.ways t).set i (.allocated t))).addFill t n false := by
  unfold Cache.prefetch
  rw [if_neg h]
  simp only [habsent, hway]

end Wanted

/-- The third condition of R108. -/
theorem freeZeroWay_eq_none_iff_not (ws : List CacheLine) :
    freeZeroWay ws = none ↔ ¬∃ l ∈ ws, l.busy = false ∧ l.confidence = 0 := by
  rw [freeZeroWay_eq_none_iff]
  push Not
  exact forall₂_congr fun l _ => by cases l.busy <;> simp

/-- The tile row of a tile of a photo. -/
theorem tileRow_eq {p : PhotoRef} {row col : Nat} (h : col < p.width) :
    (p.base + row * p.width + col - p.base) / p.width = row := by
  rw [show p.base + row * p.width + col - p.base = col + p.width * row by rw [Nat.mul_comm row]; omega,
    Nat.add_mul_div_left _ _ (by omega), Nat.div_eq_of_lt h, Nat.zero_add]

/-- Settles O37: the target by the tile's row, then the three conditions in the order in which they are tried. -/
theorem prefetchIsMadeOnThreeConditions : Obligations.PrefetchIsMadeOnThreeConditions := by
  refine ⟨fun p row col n hcol hn => ?_, fun c t n hc hn => ⟨fun hdrop => ?_, fun hvalid hfree hroom hplace => ?_⟩⟩
  · dsimp only
    unfold prefetchTarget
    rw [tileRow_eq hcol]
    refine ⟨fun h => if_pos h, fun h h3 => ?_, fun h h3 => ?_⟩
    · rw [if_neg (by omega), if_pos h3]
    · rw [if_neg (by omega), if_neg (by omega)]
  · by_cases hwanted : c.valid? t n ≠ none ∨ c.inFlight t n = true ∨ 4 < c.fills.length
    · exact Cache.prefetch_of_unwanted hwanted
    · obtain ⟨habsent, hway⟩ : c.line? t = none ∧ ¬∃ l ∈ c.ways t, l.busy = false ∧ l.confidence = 0 := by
        rw [← or_assoc, ← or_assoc, or_assoc (a := c.valid? t n ≠ none)] at hdrop
        exact hdrop.resolve_left hwanted
      exact Cache.prefetch_of_noWay hwanted habsent ((freeZeroWay_eq_none_iff_not _).2 hway)
  · have hshape := (c.lawful_iff_consistent.1 hc).shape
    have hwanted : ¬(c.valid? t n ≠ none ∨ c.inFlight t n = true ∨ 4 < c.fills.length) := by
      simp [hvalid, hfree, hroom]
    cases hline : c.line? t with
    | some l =>
      have hpresent : c.line? t ≠ none := by simp [hline]
      rw [Cache.prefetch_of_present hwanted hpresent]
      exact ⟨rfl, Cache.inFlight_addFill_self hshape hpresent hn _, nofun⟩
    | none =>
      have hway : ∃ l ∈ c.ways t, l.busy = false ∧ l.confidence = 0 := hplace.resolve_left fun h => h hline
      obtain ⟨i, hi⟩ := Option.ne_none_iff_exists'.1 fun h => (freeZeroWay_eq_none_iff_not _).1 h hway
      obtain ⟨hbusy, hallocate⟩ := Cache.allocate_of_freeZeroWay hi
      have hi4 := hshape.way_lt hbusy
      have hways := Cache.ways_allocated_addFill hshape ((c.line?_eq_none_iff t).1 hline) i n false
      rw [Cache.prefetch_of_way hwanted hline hi]
      refine ⟨rfl, ?_, fun _ => ⟨i, hi, .awaiting t n, ?_, rfl, rfl, fun j hj => ?_⟩⟩
      · rw [hallocate]
        exact Cache.inFlight_allocate_addFill hshape hline hn (fun _ => le_rfl) hi4 false
      · rw [hways, List.getElem?_set_self (by rw [(hshape.ways t).1]; exact hi4)]
      · rw [hways, List.getElem?_set_ne hj.symm]

end Sys2Proof.Machine

/-! SUPPORT. A read by the builder, outcome by outcome (R96, R99 to R107). -/

namespace Sys2Proof.Machine

/-! ### The outcome of a read (R99) -/

section ReadOutcome
variable {c : Cache} {t n : Nat}

theorem Cache.read_of_valid (h : c.valid? t n ≠ none) : c.read t n = (c.use t, .hit) := by
  unfold Cache.valid? at h
  unfold Cache.read
  cases hl : c.line? t with
  | none => simp [hl] at h
  | some l => exact if_pos (by simpa [hl] using h)

theorem Cache.read_of_inFlight (hvalid : c.valid? t n = none) (h : c.inFlight t n = true) :
    c.read t n = (c.upgrade t n, .joined) := by
  unfold Cache.valid? at hvalid
  unfold Cache.inFlight at h
  unfold Cache.read
  cases hl : c.line? t with
  | none => simp [hl] at h
  | some l =>
    simp only [hl] at hvalid h
    simp [hvalid, h]

theorem Cache.read_of_present (hvalid : c.valid? t n = none) (hfree : c.inFlight t n = false) (hline : c.line? t ≠ none) :
    c.read t n = if c.fills.length < 8 then (c.addFill t n true, .demanded) else (c, .noRoom) := by
  unfold Cache.valid? at hvalid
  unfold Cache.inFlight at hfree
  unfold Cache.read
  obtain ⟨l, hl⟩ := Option.ne_none_iff_exists'.1 hline
  simp only [hl] at hvalid hfree ⊢
  simp [hvalid, hfree]

theorem Cache.read_of_victim (habsent : c.line? t = none) (hroom : c.fills.length < 8) {ws : List CacheLine} {i : Nat}
    (hv : victim (c.ways t) = some (ws, i)) :
    c.read t n = ((c.setWays t (ws.set i (.allocated t))).addFill t n true, .demanded) := by
  unfold Cache.read
  simp [habsent, hv, Nat.not_le.2 hroom]

theorem Cache.read_of_noRoom (hvalid : c.valid? t n = none) (hfree : c.inFlight t n = false) (h : 8 ≤ c.fills.length) :
    c.read t n = (c, .noRoom) := by
  by_cases hline : c.line? t = none
  · unfold Cache.read
    simp [hline, h]
  · rw [Cache.read_of_present hvalid hfree hline, if_neg (by omega)]

theorem Cache.read_of_noWay (habsent : c.line? t = none) (hroom : c.fills.length < 8) (hv : victim (c.ways t) = none) :
    c.read t n = (c, .noWay) := by
  unfold Cache.read
  simp [habsent, hv, Nat.not_le.2 hroom]

end ReadOutcome

theorem Cache.line?_use (c : Cache) (t : Nat) :
    (c.use t).line? t = (c.line? t).map fun l => { l with confidence := min 3 (l.confidence + 1) } :=
  Cache.line?_mapLine_same (f := fun l => { l with confidence := min 3 (l.confidence + 1) }) (fun _ => rfl) c t

/-- A read changes no set but the tile's. -/
theorem Cache.ways_read_other {t t' : Nat} (h : setOf t' ≠ setOf t) (c : Cache) (n : Nat) :
    (c.read t n).1.ways t' = c.ways t' := by
  rcases c.read_cases t n with ⟨hr, -⟩ | ⟨hr, -, -⟩ | ⟨hr, -, -, -⟩ | ⟨ws, i, -, -, -, hr⟩ | ⟨hr, -⟩ <;> rw [hr]
  · exact Cache.ways_mapLine_other h c _
  · rfl
  · exact Cache.ways_addFill_other h c n true
  · rw [Cache.ways_addFill_other h, Cache.ways_setWays_other h]

/-- No byte of a line just allocated is valid. -/
theorem CacheLine.awaiting_data {t n : Nat} {d : SectorSlot} (h : d ∈ (CacheLine.awaiting t n).sectors) :
    d.data = none := by
  rcases List.mem_or_eq_of_mem_set h with h | rfl
  · rw [List.eq_of_mem_replicate h]
  · rfl

section LawfulRead
variable {c : Cache} (hshape : c.shapely) {t n : Nat} (hn : n < 4)
include hshape

/-- The entry for a sector of a present tile that is neither valid nor in flight, way by way. -/
theorem Cache.ways_addFill_of_free (hvalid : c.valid? t n = none) (d : Bool) :
    (c.addFill t n d).ways t =
      (c.ways t).map fun l => if l.tag = some t then { l with sectors := l.sectors.set n ⟨none, true⟩ } else l := by
  rw [Cache.ways_addFill]
  refine List.map_congr_left fun l hl => ?_
  split
  · rename_i htag
    have hdata : (l.slot n).data = none := by
      rw [← Cache.slotAt_of_line ((hshape.line?_eq_some_iff t l).2 ⟨hl, htag⟩), ← Cache.valid?_eq, hvalid]
    rw [CacheLine.mapSlot, hdata]
  · rfl

include hn

/-- A demand on an absent tile takes the victim way: its set, its mark and its line (R99, R101). -/
theorem Cache.victim_addFill (habsent : c.line? t = none) {ws : List CacheLine} {i : Nat}
    (hv : victim (c.ways t) = some (ws, i)) :
    let c' := (c.setWays t (ws.set i (.allocated t))).addFill t n true
    c'.inFlight t n = true ∧ c'.ways t = ws.set i (.awaiting t n) ∧ c'.line? t = some (.awaiting t n) := by
  obtain ⟨k, hk, hbusy, heq⟩ := Cache.allocate_of_victim hv
  have hi := hshape.way_lt hbusy
  obtain ⟨-, k', -, hws⟩ := victim_spec hv
  have htags : ∀ l ∈ ws, l.tag ≠ some t := by
    rw [hws, List.forall_mem_map]
    exact (c.line?_eq_none_iff t).1 habsent
  refine ⟨?_, Cache.ways_allocated_addFill hshape htags i n true, ?_⟩
  · rw [heq]
    exact Cache.inFlight_allocate_addFill hshape habsent hn hk hi true
  · rw [heq, Cache.line?_addFill, Cache.line?_allocate hshape habsent hk hi, Option.map_some,
      CacheLine.allocated_marked]

end LawfulRead

/-! ### O35 -/

/-- R96 in numbers. -/
theorem photoPixel_spec (p : PhotoRef) (px py : Nat) :
    let q := photoPixel p px py
    q.photo = p ∧ q.tile = p.base + py / 16 * p.width + px / 16 ∧ q.sector < 4 ∧ q.byte + 4 ≤ 256 ∧
      sectorAddr q.tile q.sector + q.byte = q.tile * 1024 + py % 16 * 64 + px % 16 * 4 := by
  refine ⟨rfl, rfl, ?_, ?_, ?_⟩
  · change py % 16 / 4 < 4
    omega
  · change (py % 4 * 16 + px % 16) * 4 + 4 ≤ 256
    omega
  · unfold sectorAddr photoPixel
    dsimp only
    omega

/-- R102 and R107: what the builder has and owes behind its read. -/
theorem readFor_spec (s : State) (q : PixelSource) :
    let first := !s.builder.reader.seen.contains (q.tile, q.sector)
    let owes := first || s.builder.reader.owed
    let out := s.cache.read q.tile q.sector
    let t := (s.readFor q).1
    ((s.readFor q).2 = true ↔ out.2 = .hit) ∧
    t.builder.reader.seen =
      (if first = true then (q.tile, q.sector) :: s.builder.reader.seen else s.builder.reader.seen) ∧
    (out.2 = .hit →
      t.builder.reader.held = some (q.tile, q.sector) ∧ t.builder.reader.wait = .nothing) ∧
    (out.2 = .joined ∨ out.2 = .demanded → t.builder.reader.wait = .fill q.tile q.sector) ∧
    (out.2 = .noRoom → t.builder.reader.wait = .room) ∧ (out.2 = .noWay → t.builder.reader.wait = .way) ∧
    (out.2 = .noRoom ∨ out.2 = .noWay → t.cache = out.1 ∧ t.builder.reader.owed = owes) ∧
    (out.2 = .hit ∨ out.2 = .joined ∨ out.2 = .demanded →
      t.builder.reader.owed = false ∧
      t.cache = if owes = true then out.1.considerPrefetch q.photo q.tile q.sector else out.1) ∧
    t.builder.ring = s.builder.ring ∧ t.builder.work = s.builder.work ∧ t.status = s.status := by
  unfold State.readFor
  dsimp only
  generalize s.cache.read q.tile q.sector = out
  obtain ⟨c, o⟩ := out
  cases o <;> simp

/-- Settles O35: the place of a pixel, the outcomes of a read, and what the builder has of each. -/
theorem sectorReadHasItsOutcomes : Obligations.SectorReadHasItsOutcomes := by
  refine ⟨photoPixel_spec, fun c t n hc hn => ?_, readFor_spec⟩
  have hshape := (c.lawful_iff_consistent.1 hc).shape
  refine ⟨fun hvalid => ?hit, fun hvalid hflight => ?joined, fun hvalid hfree hline hroom => ?demanded,
    fun habsent hroom hv => ?victim, fun hfree hvalid hroom => Cache.read_of_noRoom hvalid hfree hroom,
    fun habsent hroom hv => Cache.read_of_noWay habsent hroom hv, fun t' h => Cache.ways_read_other h c n,
    (Cache.Serves.read c t hn).reads⟩
  case hit =>
    rw [Cache.read_of_valid hvalid]
    refine ⟨rfl, rfl, Cache.valid?_congr (c.slotAt_use t t n), c.ways_mapLine_same t _, fun l hl =>
      ⟨{ l with confidence := min 3 (l.confidence + 1) }, ?_, rfl⟩⟩
    dsimp only
    rw [Cache.line?_use, hl, Option.map_some]
  case joined =>
    rw [Cache.read_of_inFlight hvalid hflight]
    exact ⟨rfl, rfl, rfl⟩
  case demanded =>
    rw [Cache.read_of_present hvalid hfree hline, if_pos hroom]
    exact ⟨rfl, Cache.inFlight_addFill_self hshape hline hn _, Cache.ways_addFill_of_free hshape hvalid _, rfl⟩
  case victim =>
    obtain ⟨⟨ws, i⟩, hws⟩ := Option.ne_none_iff_exists'.1 hv
    obtain ⟨hflight, hways, hline⟩ := Cache.victim_addFill hshape hn habsent hws
    rw [Cache.read_of_victim habsent hroom hws]
    refine ⟨rfl, hflight, rfl, fun ws' i' h => ?_, _, hline, rfl, fun d => CacheLine.awaiting_data⟩
    cases hws.symm.trans h
    exact hways

end Sys2Proof.Machine

/-! SUPPORT. The grant of an upload, refused or written (R111, R113, R115). -/

namespace Sys2Proof.Machine

/-- A refusal sets REFUSED (R121). -/
theorem State.flagged_refused_refuse (packet : Nat) (why : Reason) (table index : Nat) (s : State) :
    (s.refuse packet why table index).flagged .refused = true := by
  simp [State.flagged, State.refuse, Flag.mask, Flag.bit]

/-- With no fill waiting and a credit left, the head of the upload queue is granted. -/
theorem execTileWrite_of_granted {s : State} (hquiet : s.quiet = true) (hfills : s.cache.nextGrant = none) {u : Upload}
    {rest : List Upload} (hu : s.library.uploads = u :: rest) (hcredit : s.library.creditRemains = true) :
    exec .tileWrite s = .next (s.grantUpload u rest) := by
  change execTileWrite s = _
  unfold execTileWrite
  rw [s.prelude_of_quiet hquiet]
  simp only [hfills, hu, hcredit, if_true]

/-- A canonical memory behind a write of bytes, address by address. -/
theorem memRead_memWriteBytes {d : Byte} {m : List Host.Cell} (hm : memWf d m = true) (bs : List Byte) (base a : Nat) :
    memRead d (memWriteBytes d m base bs) a =
      if base ≤ a ∧ a < base + bs.length then bs.getD (a - base) 0 else memRead d m a := by
  split
  · rename_i hin
    obtain ⟨i, rfl⟩ := Nat.exists_eq_add_of_le hin.1
    have hi : i < bs.length := by omega
    rw [memRead_memWriteBytes_in _ _ _ _ _ hm hi, Nat.add_sub_cancel_left, List.getD_eq_getElem _ _ hi]
  · exact memRead_memWriteBytes_out _ _ _ _ _ (by omega)

/-! ### O39 -/

section GrantUpload
variable (u : Upload) (rest : List Upload) (s : State)

/-- A grant in a pinned area: refused (R111). -/
theorem State.grantUpload_of_pinned (h : s.pinned (u.tile / 1024) = true) :
    s.grantUpload u rest =
      ({ s with library := { s.library with uploads := rest }.creditGrant }.refuse 0x30 .areaPinned 0 u.tile).dispose :=
  congrArg State.dispose (if_pos h)

/-- A grant elsewhere: written (R111). -/
theorem State.grantUpload_of_unpinned (h : s.pinned (u.tile / 1024) = false) :
    s.grantUpload u rest =
      ({ s with library := { s.library with uploads := rest }.creditGrant }.writeSector u.tile u.sector u.bytes).dispose :=
  congrArg State.dispose (if_neg (ne_true_of_eq_false h))

/-- What a grant does whether it is refused or not: one credit used, one disposal reported (R113, R115). -/
theorem State.grantUpload_spec :
    (s.grantUpload u rest).library.uploads = rest ∧
    (s.grantUpload u rest).library.window = s.library.window.map (fun w => { w with grants := w.grants + 1 }) ∧
    (s.grantUpload u rest).scene =
      { s.scene with
        tableQ := s.scene.tableQ.map TableCmd.disposed
        armed := s.scene.armed.map fun r => { r with uploadsAhead := r.uploadsAhead - 1 } } ∧
    (s.grantUpload u rest).tables = s.tables ∧ (s.grantUpload u rest).store = s.store := by
  cases h : s.pinned (u.tile / 1024) with
  | true =>
    rw [State.grantUpload_of_pinned u rest s h, Library.creditGrant_eq]
    exact ⟨rfl, rfl, rfl, rfl, rfl⟩
  | false =>
    rw [State.grantUpload_of_unpinned u rest s h, Library.creditGrant_eq]
    exact ⟨rfl, rfl, rfl, rfl, rfl⟩

end GrantUpload

/-- Settles O39: what every grant does, then the refusal and the write. -/
theorem tileWriteIsRefusedOrWritten : Obligations.TileWriteIsRefusedOrWritten := by
  intro s u rest hquiet huploads hmem hfills hu hcredit
  obtain ⟨-, -, hlen⟩ := huploads u (by rw [hu]; exact List.mem_cons_self ..)
  obtain ⟨hrest, hwindow, hscene, htables, hstore⟩ := s.grantUpload_spec u rest
  refine ⟨_, execTileWrite_of_granted hquiet hfills hu hcredit, hrest, hwindow, ?_, ?_, ?_, htables, hstore,
    fun hpinned => ?_, fun hfree => ?_⟩
  · rw [hscene]
  · rw [hscene]
    exact List.map_congr_left fun c _ => by cases c <;> rfl
  · rw [hscene]
  · rw [State.grantUpload_of_pinned u rest s hpinned, Library.creditGrant_eq]
    exact ⟨rfl, rfl, State.flagged_refused_refuse .., rfl⟩
  · rw [State.grantUpload_of_unpinned u rest s hfree, Library.creditGrant_eq]
    refine ⟨rfl, fun a => ?_, Cache.valid?_written_self ..,
      fun f hf htile hsector => Cache.void_of_written hf htile hsector, rfl⟩
    have hbytes := memRead_memWriteBytes hmem.1 u.bytes (sectorAddr u.tile u.sector) a
    rw [hlen] at hbytes
    exact hbytes

end Sys2Proof.Machine

/-! SUPPORT. The fill unit's grants and completions, and how far the builder goes on behind one (R48, R59, R102, R105,
R109). -/

namespace Sys2Proof.Machine

/-! ### The grant of a fill (R109) -/

/-- The oldest waiting DEMAND, else the oldest waiting PREFETCH. -/
theorem Cache.nextGrant_of_rank {c : Cache} {before after : List Fill} {f : Fill} (hfills : c.fills = before ++ f :: after)
    (hwaits : f.granted = false)
    (hrank : if f.demand = true then ∀ g ∈ before, g.granted = true ∨ g.demand = false
      else (∀ g ∈ before, g.granted = true) ∧ ∀ g ∈ after, g.granted = true ∨ g.demand = false) :
    c.nextGrant = some f := by
  have hnone : ∀ gs : List Fill, (∀ g ∈ gs, g.granted = true ∨ g.demand = false) →
      gs.find? (fun f => !f.granted && f.demand) = none := fun gs h =>
    List.find?_eq_none.2 fun g hg => by rcases h g hg with h | h <;> simp [h]
  unfold Cache.nextGrant
  rw [hfills]
  by_cases hdemand : f.demand = true
  · rw [if_pos hdemand] at hrank
    rw [List.find?_append, hnone before hrank, Option.none_or, List.find?_cons_of_pos (by simp [hwaits, hdemand])]
  · rw [if_neg hdemand] at hrank
    obtain ⟨hbefore, hafter⟩ := hrank
    have hdemands : (before ++ f :: after).find? (fun f => !f.granted && f.demand) = none := by
      refine hnone _ fun g hg => ?_
      rcases List.mem_append.1 hg with hg | hg
      · exact .inl (hbefore g hg)
      · rcases List.mem_cons.1 hg with rfl | hg
        · exact .inr (by simpa using hdemand)
        · exact hafter g hg
    have hwaiting : before.find? (fun f => !f.granted) = none :=
      List.find?_eq_none.2 fun g hg => by simp [hbefore g hg]
    rw [hdemands]
    dsimp only
    rw [List.find?_append, hwaiting, Option.none_or, List.find?_cons_of_pos (by simp [hwaits])]

theorem execFillGrant_of_quiet {s : State} (hquiet : s.quiet = true) {f : Fill} (hf : s.cache.nextGrant = some f) :
    exec .fillGrant s = .next { s with cache := s.cache.grant f (s.librarySector f.tile f.sector) } := by
  change execFillGrant s = _
  unfold execFillGrant
  rw [s.prelude_of_quiet hquiet]
  simp only [hf]

/-! ### The completion of a fill (R102, R105) -/

theorem execFillCompletion_of_quiet {s : State} (hquiet : s.quiet = true) {r : GrantedRead} {rest : List GrantedRead}
    (hr : s.cache.reads = r :: rest) : exec .fillCompletion s = .next (s.completeFill r rest) := by
  change execFillCompletion s = _
  unfold execFillCompletion
  rw [s.prelude_of_quiet hquiet]
  simp only [hr]

theorem State.completeFill_reads (r : GrantedRead) (rest : List GrantedRead) (s : State) :
    (s.completeFill r rest).cache.reads = rest :=
  ((State.wake_serves r.tile r.sector { s with cache := s.cache.complete r rest }).trans (State.build_serves _)).reads

/-- A completion moves the builder's reader alone in the builder. -/
theorem State.wake_builder (tile sector : Nat) (s : State) :
    (s.wake tile sector).builder = { s.builder with reader := (s.wake tile sector).builder.reader } := by
  unfold State.wake
  split
  · rfl
  · rfl
  · rfl
  · split
    · split <;> rfl
    · rfl

/-- The cache behind it is the one before, or, for a builder that waited, that of a use. -/
theorem State.wake_cache_cases (tile sector : Nat) (s : State) :
    (s.wake tile sector).cache = s.cache ∨
      ((s.wake tile sector).cache = s.cache.use tile ∧ s.builder.reader.wait ≠ .nothing) := by
  unfold State.wake
  split
  · exact .inl rfl
  · exact .inl rfl
  · exact .inl rfl
  · rename_i hwait
    split
    · split
      · exact .inr ⟨rfl, by simp [hwait]⟩
      · exact .inl rfl
    · exact .inl rfl

/-- With no view and no line in hand the builder does not go on behind a completion. -/
theorem State.completeFill_of_idle (r : GrantedRead) (rest : List GrantedRead) {s : State}
    (hview : s.builder.view = none) (hwork : s.builder.work = none) :
    s.completeFill r rest = { s with cache := s.cache.complete r rest }.wake r.tile r.sector := by
  unfold State.completeFill
  apply State.build_of_no_view <;> rw [State.wake_builder]
  · exact hview
  · exact hwork

theorem Cache.line?_complete (c : Cache) (r : GrantedRead) (rest : List GrantedRead) {l : CacheLine}
    (h : c.line? r.tile = some l) :
    ∃ l', (c.complete r rest).line? r.tile = some l' ∧ l'.confidence = l.confidence := by
  refine ⟨_, ?_, CacheLine.mapSlot_confidence r.sector
    (fun d => { data := if !c.isVoid r.tile r.sector then some r.bytes else d.data, inFlight := false }) l⟩
  refine (Cache.line?_mapLine_same (f := CacheLine.mapSlot r.sector fun d =>
    { data := if !c.isVoid r.tile r.sector then some r.bytes else d.data, inFlight := false })
    (fun _ => rfl) c r.tile).trans ?_
  rw [h, Option.map_some]

/-- What a completion leaves of its sector where the builder does not go on (R105). -/
theorem State.completeFill_of_idle_spec {s : State} {r : GrantedRead} {rest : List GrantedRead}
    (hr : s.cache.reads = r :: rest) (hlawful : s.cache.lawful) (hview : s.builder.view = none)
    (hwork : s.builder.work = none) :
    let t := s.completeFill r rest
    t.cache.inFlight r.tile r.sector = false ∧
    t.cache.fills = s.cache.fills.filter (fun f => !decide (f.tile = r.tile ∧ f.sector = r.sector)) ∧
    (s.cache.isVoid r.tile r.sector = false → t.cache.valid? r.tile r.sector = some r.bytes) ∧
    (s.cache.isVoid r.tile r.sector = true →
      t.cache.valid? r.tile r.sector = s.cache.valid? r.tile r.sector) ∧
    ∀ l, s.cache.line? r.tile = some l →
      ∃ l', t.cache.line? r.tile = some l' ∧ (l'.confidence = l.confidence ∨ s.builder.reader.wait ≠ .nothing) := by
  have hslot := Cache.slotAt_complete (s.cache.lawful_iff_consistent.1 hlawful) hr r.tile r.sector
  rw [if_pos ⟨rfl, rfl⟩] at hslot
  rw [State.completeFill_of_idle r rest hview hwork]
  have hsector : ({ s with cache := s.cache.complete r rest }.wake r.tile r.sector).cache.slotAt r.tile r.sector =
      ⟨if s.cache.isVoid r.tile r.sector then s.cache.valid? r.tile r.sector else some r.bytes, false⟩ := by
    rcases State.wake_cache_cases r.tile r.sector { s with cache := s.cache.complete r rest } with h | ⟨h, -⟩ <;> rw [h]
    · exact hslot
    · exact (Cache.slotAt_use ..).trans hslot
  refine ⟨?_, ?_, fun hvoid => ?_, fun hvoid => ?_, fun l hl => ?_⟩
  · rw [Cache.inFlight_eq, hsector]
  · rcases State.wake_cache_cases r.tile r.sector { s with cache := s.cache.complete r rest } with h | ⟨h, -⟩ <;> rw [h] <;>
      rfl
  · rw [Cache.valid?_eq, hsector, hvoid]
    rfl
  · rw [Cache.valid?_eq, hsector, hvoid]
    rfl
  · obtain ⟨l', hl', hconf⟩ := Cache.line?_complete s.cache r rest hl
    rcases State.wake_cache_cases r.tile r.sector { s with cache := s.cache.complete r rest } with h | ⟨h, hwait⟩ <;>
      rw [h]
    · exact ⟨l', hl', .inl hconf⟩
    · exact ⟨_, (Cache.line?_use _ _).trans (by rw [hl', Option.map_some]), .inr hwait⟩

/-- What a completion is to the builder, by what it waits for (R102). -/
theorem State.wake_spec (s : State) (tile sector : Nat) :
    let reading : Reader → State := fun r => { s with builder := { s.builder with reader := r } }
    let again := reading { s.builder.reader with wait := .nothing }
    (s.builder.reader.wait = .nothing → s.wake tile sector = s) ∧
    (s.builder.reader.wait = .room ∨ s.builder.reader.wait = .way → s.wake tile sector = again) ∧
    ∀ t n, s.builder.reader.wait = .fill t n →
      (t ≠ tile ∨ n ≠ sector → s.wake tile sector = s) ∧
      (t = tile → n = sector → s.cache.valid? tile sector = none → s.wake tile sector = again) ∧
      (t = tile → n = sector → s.cache.valid? tile sector ≠ none →
        s.wake tile sector =
          { reading { s.builder.reader with held := some (tile, sector), wait := .nothing } with
            cache := s.cache.use tile }) := by
  refine ⟨fun h => ?_, ?_, fun t n h => ⟨fun hother => ?_, ?_, ?_⟩⟩
  · simp only [State.wake, h]
  · rintro (h | h) <;> simp only [State.wake, h]
  · simp only [State.wake, h]
    exact if_neg (by tauto)
  · rintro rfl rfl hvalid
    simp [State.wake, h, hvalid]
  · rintro rfl rfl hvalid
    simp [State.wake, h, hvalid]

end Sys2Proof.Machine

/-! SUPPORT. The builder goes on until it waits or has no line to take up (R48, R56, R59). -/

namespace Sys2Proof.Machine

/-! ### Where the builder stops, it waits (R56, R102) -/

theorem State.fetch_waits {src : Option PixelSource} {s : State} (h : (s.fetch src).2 = false) :
    (s.fetch src).1.builder.reader.wait ≠ .nothing := by
  cases src with
  | none => cases h
  | some q =>
    unfold State.fetch at h ⊢
    dsimp only at h ⊢
    split at h
    · cases h
    · rename_i hheld
      rw [if_neg hheld]
      obtain ⟨hhit, -, -, hfill, hroom, hway, -⟩ := readFor_spec s q
      cases hout : (s.cache.read q.tile q.sector).2 with
      | hit =>
        rw [hhit.2 hout] at h
        cases h
      | joined => rw [hfill (.inl hout)]; nofun
      | demanded => rw [hfill (.inr hout)]; nofun
      | noRoom => rw [hroom hout]; nofun
      | noWay => rw [hway hout]; nofun

theorem produce_stops_waiting {e : LineEntry} {line n x : Nat} {s : State} (h : (produce e line n x s).2 ≠ none) :
    (produce e line n x s).1.builder.reader.wait ≠ .nothing := by
  induction n generalizing x s with
  | zero => exact absurd rfl h
  | succ n ih =>
    cases hfetch : (s.fetch (e.source line x)).2 with
    | false =>
      rw [produce_waits hfetch]
      exact State.fetch_waits hfetch
    | true =>
      rw [produce_goes_on hfetch] at h ⊢
      exact ih h

/-- An entry left undone has the builder waiting; one that is done says so. -/
theorem workEntry_spec (line : Nat) (e : LineEntry) (s : State) :
    ((workEntry line e s).2.2 = false → (workEntry line e s).2.1.builder.reader.wait ≠ .nothing) ∧
      ((workEntry line e s).2.2 = true → (workEntry line e s).1.progress = .done) := by
  unfold workEntry
  split
  · rename_i hdone
    exact ⟨nofun, fun _ => hdone⟩
  · exact ⟨nofun, fun _ => rfl⟩
  · rename_i a b _ _
    have hwaits := produce_stops_waiting (e := e) (line := line) (n := b + 1 - a) (x := a) (s := s.readerIdle)
    split <;> rename_i hp <;> rw [hp] at hwaits
    · exact ⟨nofun, fun _ => rfl⟩
    · exact ⟨fun _ => hwaits nofun, nofun⟩
  · rename_i next _ b _ _
    have hwaits := produce_stops_waiting (e := e) (line := line) (n := b + 1 - next) (x := next) (s := s)
    split <;> rename_i hp <;> rw [hp] at hwaits
    · exact ⟨nofun, fun _ => rfl⟩
    · exact ⟨fun _ => hwaits nofun, nofun⟩

theorem workList_cons_of_waits {line : Nat} {e : LineEntry} {s : State} (h : (workEntry line e s).2.2 = false)
    (es : List LineEntry) :
    workList line (e :: es) s = ((workEntry line e s).1 :: es, (workEntry line e s).2.1, false) := by
  rw [workList]
  generalize workEntry line e s = r at h ⊢
  obtain ⟨e1, s1, ok⟩ := r
  cases h
  rfl

theorem workList_cons_of_done {line : Nat} {e : LineEntry} {s : State} (h : (workEntry line e s).2.2 = true)
    (es : List LineEntry) :
    workList line (e :: es) s =
      ((workEntry line e s).1 :: (workList line es (workEntry line e s).2.1).1,
        (workList line es (workEntry line e s).2.1).2) := by
  rw [workList]
  generalize workEntry line e s = r at h ⊢
  obtain ⟨e1, s1, ok⟩ := r
  cases h
  rfl

theorem workList_stops_waiting {line : Nat} {es : List LineEntry} {s : State} (h : (workList line es s).2.2 = false) :
    (workList line es s).2.1.builder.reader.wait ≠ .nothing := by
  induction es generalizing s with
  | nil => cases h
  | cons e es ih =>
    cases hentry : (workEntry line e s).2.2 with
    | false =>
      rw [workList_cons_of_waits hentry]
      exact (workEntry_spec line e s).1 hentry
    | true =>
      rw [workList_cons_of_done hentry] at h ⊢
      exact ih h

/-! ### The lines in the ring are as many as were taken up (R60) -/

theorem State.place_ring_length (line x : Nat) (m : Sample) (s : State) :
    (s.place line x m).builder.ring.length = s.builder.ring.length := by
  rcases s.place_cases line x m with h | h | ⟨p, -, h⟩ <;> rw [h]
  · rfl
  · exact List.length_map ..

theorem placeAll_ring_length (line x : Nat) (ms : List Sample) (s : State) :
    (placeAll line x ms s).builder.ring.length = s.builder.ring.length := by
  induction ms generalizing s with
  | nil => rfl
  | cons m ms ih => rw [placeAll, ih, State.place_ring_length]

theorem State.fetch_ring_length (src : Option PixelSource) (s : State) :
    (s.fetch src).1.builder.ring.length = s.builder.ring.length := by
  rw [State.fetch_builder]

theorem produce_ring_length (e : LineEntry) (line n x : Nat) (s : State) :
    (produce e line n x s).1.builder.ring.length = s.builder.ring.length := by
  induction n generalizing x s with
  | zero => rfl
  | succ n ih =>
    cases hfetch : (s.fetch (e.source line x)).2 with
    | false => rw [produce_waits hfetch, State.fetch_ring_length]
    | true => rw [produce_goes_on hfetch, ih, placeAll_ring_length, State.fetch_ring_length]

theorem workEntry_ring_length (line : Nat) (e : LineEntry) (s : State) :
    (workEntry line e s).2.1.builder.ring.length = s.builder.ring.length := by
  unfold workEntry
  split
  · rfl
  · rfl
  · rename_i a b _ _
    have h := produce_ring_length e line (b + 1 - a) a s.readerIdle
    split <;> rename_i hp <;> rwa [hp] at h
  · rename_i next _ b _ _
    have h := produce_ring_length e line (b + 1 - next) next s
    split <;> rename_i hp <;> rwa [hp] at h

theorem workList_ring_length (line : Nat) (es : List LineEntry) (s : State) :
    (workList line es s).2.1.builder.ring.length = s.builder.ring.length := by
  induction es generalizing s with
  | nil => rfl
  | cons e es ih =>
    cases hentry : (workEntry line e s).2.2 with
    | false => rw [workList_cons_of_waits hentry, workEntry_ring_length]
    | true =>
      rw [workList_cons_of_done hentry]
      exact (ih _).trans (workEntry_ring_length ..)

/-- A line taken up found a free ring entry and takes it. -/
theorem State.takeUp_ring_length {s t : State} (h : s.takeUp = some t) :
    s.builder.ring.length < 4 ∧ t.builder.ring.length = s.builder.ring.length + 1 ∧ t.builder.work ≠ none := by
  cases hview : s.builder.view with
  | none =>
    rw [State.takeUp_of_no_view hview] at h
    cases h
  | some v =>
    rw [State.takeUp_of_view hview] at h
    split at h
    · rename_i hroom
      cases h
      obtain ⟨f, hf⟩ := s.tookUp_eq v
      rw [hf]
      exact ⟨hroom.2, by simp, nofun⟩
    · cases h

/-! ### The builder comes to rest (log 6) -/

/-- The builder waits with a line in hand, or can take up no line. -/
def State.atRest (s : State) : Prop :=
  (∃ w, s.builder.work = some w ∧ s.builder.reader.wait ≠ .nothing) ∨ (s.builder.work = none ∧ s.takeUp = none)

/-- A bound on the steps that the builder still makes: each free ring entry can be taken up and worked off. -/
def State.stepsLeft (s : State) : Nat := 2 * (4 - s.builder.ring.length) + if s.builder.work = none then 0 else 1

theorem runBuilder_atRest {n : Nat} {s : State} (h : s.stepsLeft ≤ n) : (runBuilder n s).atRest := by
  induction n generalizing s with
  | zero =>
    unfold State.stepsLeft at h
    have hwork : s.builder.work = none := by
      by_contra hwork
      rw [if_neg hwork] at h
      omega
    refine .inr ⟨hwork, ?_⟩
    cases htake : s.takeUp with
    | none => exact htake
    | some t =>
      have := (State.takeUp_ring_length htake).1
      omega
  | succ n ih =>
    rw [runBuilder]
    split
    · rename_i w hwork
      split
      · rename_i hwait
        exact .inl ⟨w, hwork, hwait⟩
      · have hring := workList_ring_length w.line w.entries s
        have hwaits := workList_stops_waiting (line := w.line) (es := w.entries) (s := s)
        split <;> rename_i hlist <;> rw [hlist] at hring hwaits
        · refine ih ?_
          unfold State.stepsLeft at h ⊢
          rw [hwork, if_neg nofun] at h
          simp only [if_true] at hring ⊢
          omega
        · exact .inl ⟨_, rfl, hwaits rfl⟩
    · rename_i hwork
      split
      · rename_i htake
        exact .inr ⟨hwork, htake⟩
      · rename_i t htake
        obtain ⟨hroom, hring, hwork'⟩ := State.takeUp_ring_length htake
        refine ih ?_
        unfold State.stepsLeft at h ⊢
        rw [if_pos hwork] at h
        rw [if_neg hwork']
        omega

theorem State.build_atRest (s : State) : s.build.atRest := by
  refine runBuilder_atRest ?_
  unfold State.stepsLeft
  split <;> omega

/-! ### O38 -/

/-- Settles O38: the rank of a grant, what a completion leaves, what it is to the builder, and the builder's going on. -/
theorem fillsAreGrantedByRankAndInstalled : Obligations.FillsAreGrantedByRankAndInstalled := by
  refine ⟨fun s hquiet before f after hfills hwaits hrank => ?_, fun s r rest hquiet hr => ?_, State.wake_spec,
    fun line e es s => ?_, State.build_atRest⟩
  · exact execFillGrant_of_quiet hquiet (Cache.nextGrant_of_rank hfills hwaits hrank)
  · have hbuilds := State.completeFill_buildsTo r rest s
    have hexec := execFillCompletion_of_quiet hquiet hr
    exact ⟨hexec, _, hexec, s.completeFill_reads r rest, hbuilds.library, hbuilds.tables, hbuilds.scene, hbuilds.store,
      hbuilds.group, hbuilds.raster, hbuilds.panel, State.completeFill_of_idle_spec hr⟩
  · obtain ⟨hwaits, hdone⟩ := workEntry_spec line e s
    exact ⟨rfl, fun h => ⟨workList_cons_of_waits h es, hwaits h⟩, fun h => ⟨hdone h, workList_cons_of_done h es⟩⟩

end Sys2Proof.Machine

/-! SUPPORT. A save in progress: its end does not depend on what it has written by then, and its programs leave the
header's place alone (R176, R177). -/

namespace Sys2Proof.Machine

/-! ### The pieces of an image (R165, R176) -/

/-- The pieces of a table section, by its table and that table's size. -/
def sectionUnits (kind table n size : Nat) : List SaveUnit :=
  SaveUnit.start (beBytes 1 kind ++ beBytes 4 (4 + n * size) ++ [0, 0] ++ beBytes 2 n)
    :: (List.range n).map (fun i => SaveUnit.entry table i) ++ [SaveUnit.crc]

theorem tableUnits_eq {kind table n size : Nat} (htable : sectionTable kind = table) (hn : tableSize table = n)
    (hsize : (fieldSizes table).sum = size) : tableUnits kind = sectionUnits kind table n size := by
  unfold tableUnits
  subst htable hn hsize
  rfl

/-- The CONFIG section but for its check value. -/
theorem configStart_eq (s : State) :
    sectionStart 1 15 ++ s.configPayload =
      [0x01, 0, 0, 0, 15, 0, 0x7F] ++ beBytes 2 s.raster.settings.wAct ++ beBytes 2 s.raster.settings.hAct ++
        beBytes 2 s.raster.settings.lossMs ++ beBytes 1 s.raster.settings.periodMs ++
        [s.raster.settings.colour.r, s.raster.settings.colour.g, s.raster.settings.colour.b] ++
        beBytes 2 s.library.creditLines ++ beBytes 1 s.library.creditLimit := by
  have hopening : sectionStart 1 15 ++ beBytes 2 0x7F = [0x01, 0, 0, 0, 15, 0, 0x7F] := by decide
  rw [← hopening]
  simp only [State.configPayload, rgbBytes, List.append_assoc]

theorem State.saveUnits_eq (s : State) :
    s.saveUnits =
      [SaveUnit.start (sectionStart 1 15 ++ s.configPayload), SaveUnit.crc] ++ sectionUnits 2 3 16 20 ++
        sectionUnits 3 2 256 16 ++ sectionUnits 4 1 128 19 ++ sectionUnits 5 4 512 6 := by
  rw [State.saveUnits, tableUnits_eq (kind := 2) rfl rfl rfl, tableUnits_eq (kind := 3) rfl rfl rfl,
    tableUnits_eq (kind := 4) rfl rfl rfl, tableUnits_eq (kind := 5) rfl rfl rfl]
  simp only [List.append_assoc, List.cons_append, List.nil_append]
  rfl

/-! ### Forming units -/

/-- A unit is formed behind whatever stands in the page, whether that is programmed before or not. -/
theorem formUnit_behind (k : Bank) (u : SaveUnit) (j : SaveJob) (p : List Byte) (a : Nat) (us : List SaveUnit) :
    formUnit k u { j with page := p ++ j.page, addr := a, units := us } =
      { formUnit k u j with page := p ++ (formUnit k u j).page, addr := a, units := us } := by
  cases u <;> simp [formUnit, formBytes]

theorem formAll_behind (k : Bank) (us : List SaveUnit) (j : SaveJob) (p : List Byte) (a : Nat) (us' : List SaveUnit) :
    formAll k us { j with page := p ++ j.page, addr := a, units := us' } =
      { formAll k us j with page := p ++ (formAll k us j).page, addr := a } := by
  induction us generalizing j with
  | nil => rfl
  | cons u us ih => rw [formAll, formAll, formUnit_behind, ih]

/-- The units that a job lists beside those formed do not matter. -/
theorem formAll_units (k : Bank) (us : List SaveUnit) (j : SaveJob) (us' : List SaveUnit) :
    formAll k us { j with units := us' } = formAll k us j := by
  induction us generalizing j with
  | nil => rfl
  | cons u us ih =>
    have hunit : formUnit k u { j with units := us' } = { formUnit k u j with units := us' } := by cases u <;> rfl
    rw [formAll, formAll, hunit, ih]

/-- What a job still has to read, which its work on what it has does not move. -/
def SaveJob.toRead (j : SaveJob) : Bool × List Nat × Nat × Nat := (j.seeded, j.areas, j.sector, j.nAreas)

theorem formUnit_toRead (k : Bank) (u : SaveUnit) (j : SaveJob) :
    (formUnit k u j).toRead = j.toRead ∧ (formUnit k u j).addr = j.addr := by
  cases u <;> exact ⟨rfl, rfl⟩

theorem formAll_toRead (k : Bank) (us : List SaveUnit) (j : SaveJob) :
    (formAll k us j).toRead = j.toRead ∧ (formAll k us j).addr = j.addr := by
  induction us generalizing j with
  | nil => exact ⟨rfl, rfl⟩
  | cons u us ih =>
    obtain ⟨hread, haddr⟩ := ih (formUnit k u j)
    obtain ⟨hread', haddr'⟩ := formUnit_toRead k u j
    exact ⟨hread.trans hread', haddr.trans haddr'⟩

/-! ### Programming pages -/

theorem pageRoom_pos (a : Nat) : 0 < pageRoom a := Nat.sub_pos_of_lt (Nat.mod_lt a (by decide))

theorem SaveJob.pageFull_iff (j : SaveJob) : j.pageFull = true ↔ pageRoom j.addr ≤ j.page.length := decide_eq_true_iff

theorem saveProgram_page_length {r : SaveJob × List Host.Cell} (h : r.1.pageFull = true) :
    (saveProgram r).1.page.length < r.1.page.length := by
  obtain ⟨-, hpage, -⟩ := saveProgram_fields r
  rw [hpage, List.length_drop]
  have := pageRoom_pos r.1.addr
  have := r.1.pageFull_iff.1 h
  omega

/-- Once the page in hand is not full, nothing more is programmed. -/
theorem programPages_of_not_full (n : Nat) {r : SaveJob × List Host.Cell} (h : r.1.pageFull = false) :
    programPages n r = r := by
  cases n with
  | zero => rfl
  | succ n => rw [programPages, if_neg (ne_true_of_eq_false h)]

theorem programPages_of_full (n : Nat) {r : SaveJob × List Host.Cell} (h : r.1.pageFull = true) :
    programPages (n + 1) r = programPages n (saveProgram r) := by
  rw [programPages, if_pos h]

/-- As many steps as there are bytes in hand suffice. -/
theorem programPages_of_le {n m : Nat} {r : SaveJob × List Host.Cell} (hn : r.1.page.length ≤ n)
    (hm : r.1.page.length ≤ m) : programPages n r = programPages m r := by
  induction n generalizing m r with
  | zero =>
    have hroom := pageRoom_pos r.1.addr
    have hfull : r.1.pageFull = false := decide_eq_false (by omega)
    rw [programPages_of_not_full _ hfull, programPages_of_not_full _ hfull]
  | succ n ih =>
    cases hfull : r.1.pageFull with
    | false => rw [programPages_of_not_full _ hfull, programPages_of_not_full _ hfull]
    | true =>
      have hless := saveProgram_page_length hfull
      cases m with
      | zero => omega
      | succ m =>
        rw [programPages_of_full _ hfull, programPages_of_full _ hfull]
        exact ih (by omega) (by omega)

/-- Behind the last full page the page in hand is not full. -/
theorem programPages_pageFull {n : Nat} {r : SaveJob × List Host.Cell} (h : r.1.page.length ≤ n) :
    (programPages n r).1.pageFull = false := by
  induction n generalizing r with
  | zero =>
    have hroom := pageRoom_pos r.1.addr
    have hempty : ¬pageRoom r.1.addr ≤ r.1.page.length := by omega
    exact decide_eq_false hempty
  | succ n ih =>
    cases hfull : r.1.pageFull with
    | false => rwa [programPages_of_not_full _ hfull]
    | true =>
      rw [programPages_of_full _ hfull]
      have := saveProgram_page_length hfull
      exact ih (by omega)

/-- What the programs of a save keep: what is still to be read; addresses do not fall; and from address 11 on they
leave the header's place alone. -/
structure SaveKeeps (r r' : SaveJob × List Host.Cell) : Prop where
  toRead : r'.1.toRead = r.1.toRead
  addr : r.1.addr ≤ r'.1.addr
  header : 11 ≤ r.1.addr → ∀ a, a < 11 → memRead flashFill r'.2 a = memRead flashFill r.2 a

theorem SaveKeeps.refl (r : SaveJob × List Host.Cell) : SaveKeeps r r := ⟨rfl, le_rfl, fun _ _ _ => rfl⟩

theorem SaveKeeps.trans {r r' r'' : SaveJob × List Host.Cell} (h : SaveKeeps r r') (k : SaveKeeps r' r'') :
    SaveKeeps r r'' :=
  ⟨k.toRead.trans h.toRead, h.addr.trans k.addr, fun haddr a ha =>
    (k.header (haddr.trans h.addr) a ha).trans (h.header haddr a ha)⟩

/-- Programs of a page from address 11 on keep the first 11 bytes, for address 11 starts no sector (R177). -/
theorem memRead_flashWritePage_low {m : List Host.Cell} {a : Nat} (ha : 11 ≤ a) (bs : List Byte) {c : Nat} (hc : c < 11) :
    memRead flashFill (flashWritePage m a bs) c = memRead flashFill m c := by
  rw [flashWritePage, memRead_flashProgramPage_out _ _ _ _ (by omega)]
  split
  · rw [memRead_flashErase, if_neg (by omega)]
  · rfl

theorem saveProgram_keeps (r : SaveJob × List Host.Cell) : SaveKeeps r (saveProgram r) :=
  ⟨rfl, Nat.le_add_right _ _, fun haddr _ hc => memRead_flashWritePage_low haddr _ hc⟩

theorem programPages_keeps (n : Nat) (r : SaveJob × List Host.Cell) : SaveKeeps r (programPages n r) := by
  induction n generalizing r with
  | zero => exact .refl r
  | succ n ih =>
    rw [programPages]
    split
    · exact (saveProgram_keeps r).trans (ih _)
    · exact .refl r

theorem savePiece_keeps (k : Bank) (r : SaveJob × List Host.Cell) : SaveKeeps r (savePiece k r) := by
  rcases savePiece_cases k r with ⟨-, h⟩ | ⟨-, -, h⟩ | ⟨u, us, -, -, h⟩ <;> rw [h]
  · exact saveProgram_keeps r
  · exact .refl r
  · obtain ⟨hread, haddr⟩ := formUnit_toRead k u { r.1 with units := us }
    exact ⟨hread, haddr.ge, fun _ _ _ => rfl⟩

theorem saveSome_keeps (k : Bank) (n : Nat) (r : SaveJob × List Host.Cell) : SaveKeeps r (saveSome k n r) := by
  induction n generalizing r with
  | zero => exact .refl r
  | succ n ih => exact (savePiece_keeps k r).trans (ih _)

theorem saveAll_keeps (k : Bank) (j : SaveJob) (m : List Host.Cell) : SaveKeeps (j, m) (saveAll k j m) := by
  obtain ⟨hread, haddr⟩ := formAll_toRead k j.units j
  exact SaveKeeps.trans (r' := (formAll k j.units j, m)) ⟨hread, haddr.ge, fun _ _ _ => rfl⟩ (programPages_keeps _ _)

/-! ### The end does not depend on the pace (log 16) -/

/-- The program of a page that is full takes its bytes off the front. -/
theorem saveProgram_of_front (j : SaveJob) (m : List Host.Cell) {a : Nat} {p : List Byte} (hp : p.length = pageRoom a)
    (haddr : j.addr = a + p.length) :
    saveProgram ({ j with page := p ++ j.page, addr := a }, m) = (j, flashWritePage m a p) := by
  have htake : (p ++ j.page).take (pageRoom a) = p := by rw [← hp, List.take_left]
  simp only [saveProgram, htake, List.drop_left, ← haddr]

theorem programPages_front (j : SaveJob) (m : List Host.Cell) {a : Nat} {p : List Byte} (hp : p.length = pageRoom a)
    (haddr : j.addr = a + p.length) :
    programPages (p ++ j.page).length ({ j with page := p ++ j.page, addr := a }, m) =
      programPages j.page.length (j, flashWritePage m a p) := by
  have hfull : ({ j with page := p ++ j.page, addr := a } : SaveJob).pageFull = true := by
    rw [SaveJob.pageFull_iff, List.length_append, hp]
    exact Nat.le_add_right _ _
  have hpos := pageRoom_pos a
  obtain ⟨n, hn⟩ : ∃ n, (p ++ j.page).length = n + 1 := Nat.exists_eq_succ_of_ne_zero (by rw [List.length_append]; omega)
  have hle : j.page.length ≤ n := by
    rw [List.length_append] at hn
    omega
  rw [hn, programPages_of_full _ hfull, saveProgram_of_front j m hp haddr]
  exact programPages_of_le hle le_rfl

/-- A full page programmed before the units left are formed, or behind them. -/
theorem saveAll_saveProgram (k : Bank) {j : SaveJob} (m : List Host.Cell) (hfull : j.pageFull = true) :
    saveAll k (saveProgram (j, m)).1 (saveProgram (j, m)).2 = saveAll k j m := by
  have hroom : (j.page.take (pageRoom j.addr)).length = pageRoom j.addr :=
    List.length_take_of_le (j.pageFull_iff.1 hfull)
  have hsplit : (saveProgram (j, m)).1 =
      { j with page := j.page.drop (pageRoom j.addr), addr := j.addr + (j.page.take (pageRoom j.addr)).length } := by
    simp only [saveProgram, hroom]
  obtain ⟨-, -, -, -, hflash⟩ := saveProgram_fields (j, m)
  rw [hflash, hsplit]
  dsimp only
  generalize hfront : j.page.take (pageRoom j.addr) = p at hroom
  generalize hrest : j.page.drop (pageRoom j.addr) = rest
  have hpage : j.page = p ++ rest := by rw [← hfront, ← hrest, List.take_append_drop]
  have hformed := formAll_behind k j.units { j with page := rest, addr := j.addr + p.length } p j.addr j.units
  obtain ⟨-, haddr⟩ := formAll_toRead k j.units { j with page := rest, addr := j.addr + p.length }
  simp only [← hpage] at hformed
  unfold saveAll
  dsimp only
  rw [hformed]
  generalize formAll k j.units { j with page := rest, addr := j.addr + p.length } = f at haddr
  exact (programPages_front f m hroom haddr).symm

theorem saveAll_savePiece (k : Bank) (r : SaveJob × List Host.Cell) :
    saveAll k (savePiece k r).1 (savePiece k r).2 = saveAll k r.1 r.2 := by
  rcases savePiece_cases k r with ⟨hfull, h⟩ | ⟨-, -, h⟩ | ⟨u, us, -, hunits, h⟩ <;> rw [h]
  · exact saveAll_saveProgram k r.2 hfull
  · have hkept : (formUnit k u { r.1 with units := us }).units = us := by cases u <;> rfl
    have hunit : formUnit k u { r.1 with units := us } = { formUnit k u r.1 with units := us } := by cases u <;> rfl
    unfold saveAll
    dsimp only
    rw [hkept, hunit, formAll_units, hunits, formAll]

/-- Whatever had been done by then, the work left comes to one end. -/
theorem saveAll_saveSome (k : Bank) (n : Nat) (r : SaveJob × List Host.Cell) :
    saveAll k (saveSome k n r).1 (saveSome k n r).2 = saveAll k r.1 r.2 := by
  induction n generalizing r with
  | zero => rfl
  | succ n ih => exact (ih (savePiece k r)).trans (saveAll_savePiece k r)

end Sys2Proof.Machine

/-! SUPPORT. The next read of a save and its end, from whatever it has written by then (R117, R177). -/

namespace Sys2Proof.Machine

/-! ### What stands before the read and before the end (log 16) -/

/-- The save at work, behind the pieces that it gets done before a command. -/
def State.saved (s : State) (j : SaveJob) : SaveJob × List Host.Cell :=
  saveSome s.stagingBank (Config.storePace s.tick) (j, s.store.flash)

theorem State.prelude_of_saving {s : State} {j : SaveJob} (hdue : s.nothingDue = true) (hload : s.loading = false)
    (hphase : s.scene.phase = .saving) (hj : s.store.save = some j) (hseeded : j.seeded = true) :
    s.prelude = s.nextTick.setSave (s.saved j) := by
  rw [s.prelude_of_nothingDue hdue]
  have hwork : s.saveGoesOn = s.nextTick.setSave (s.saved j) := by
    simp only [State.saveGoesOn, hphase, hj, hseeded, if_true]
    rfl
  simp [State.background, hload, hphase, hwork]

theorem State.saved_toRead (s : State) (j : SaveJob) :
    (s.saved j).1.seeded = j.seeded ∧ (s.saved j).1.areas = j.areas ∧ (s.saved j).1.sector = j.sector ∧
      (s.saved j).1.nAreas = j.nAreas := by
  have hkept : (s.saved j).1.toRead = j.toRead := (saveSome_keeps s.stagingBank _ (j, s.store.flash)).toRead
  simpa only [SaveJob.toRead, Prod.mk.injEq] using hkept

theorem State.saveAll_saved (s : State) (j : SaveJob) :
    saveAll s.stagingBank (s.saved j).1 (s.saved j).2 = saveAll s.stagingBank j s.store.flash :=
  saveAll_saveSome ..

/-- The next read of a save is the same whatever it has written by then. -/
theorem State.saveSector_saved (s : State) (j : SaveJob) (area : Nat) (rest : List Nat) :
    (s.nextTick.setSave (s.saved j)).saveSector (s.saved j).1 area rest = s.nextTick.saveSector j area rest := by
  obtain ⟨-, -, hsector, -⟩ := s.saved_toRead j
  have hall := s.saveAll_saved j
  change (saveAll (s.nextTick.setSave (s.saved j)).stagingBank (s.saved j).1
    (s.nextTick.setSave (s.saved j)).store.flash) = saveAll s.nextTick.stagingBank j s.nextTick.store.flash at hall
  unfold State.saveSector
  rw [hall, hsector]
  dsimp only
  split <;> rfl

/-- So is its end. -/
theorem State.saveEnds_saved (s : State) (j : SaveJob) :
    (s.nextTick.setSave (s.saved j)).saveEnds (s.saved j).1 = s.nextTick.saveEnds j := by
  obtain ⟨-, -, -, hareas⟩ := s.saved_toRead j
  have hall := s.saveAll_saved j
  change (saveAll (s.nextTick.setSave (s.saved j)).stagingBank (s.saved j).1
    (s.nextTick.setSave (s.saved j)).store.flash) = saveAll s.nextTick.stagingBank j s.nextTick.store.flash at hall
  unfold State.saveEnds
  rw [hall, hareas]
  rfl

section Exec
variable {s : State} {j : SaveJob} (hdue : s.nothingDue = true) (hload : s.loading = false)
  (hphase : s.scene.phase = .saving) (hj : s.store.save = some j) (hseeded : j.seeded = true)
include hdue hload hphase hj hseeded

theorem execSaveReadGrant_of_saving {area : Nat} {rest : List Nat} (hareas : j.areas = area :: rest)
    (hfills : s.cache.nextGrant = none) (huploads : s.uploadEligible = false) :
    exec .saveReadGrant s = .next (s.nextTick.saveSector j area rest) := by
  obtain ⟨hseeded', hareas', -⟩ := s.saved_toRead j
  have hphase' : (s.nextTick.setSave (s.saved j)).scene.phase = .saving := hphase
  have hsave : (s.nextTick.setSave (s.saved j)).store.save = some (s.saved j).1 := rfl
  have hfills' : (s.nextTick.setSave (s.saved j)).cache.nextGrant = none := hfills
  have huploads' : (s.nextTick.setSave (s.saved j)).uploadEligible = false := huploads
  change execSaveReadGrant s = _
  unfold execSaveReadGrant
  rw [State.prelude_of_saving hdue hload hphase hj hseeded, ← State.saveSector_saved]
  generalize s.nextTick.setSave (s.saved j) = u at hphase' hsave hfills' huploads' ⊢
  simp [hphase', hsave, hareas', hareas, hseeded', hseeded, hfills', huploads']

theorem execSaveCompletion_of_saving (hareas : j.areas = []) :
    exec .saveCompletion s = .next (s.nextTick.saveEnds j) := by
  obtain ⟨hseeded', hareas', -⟩ := s.saved_toRead j
  have hphase' : (s.nextTick.setSave (s.saved j)).scene.phase = .saving := hphase
  have hsave : (s.nextTick.setSave (s.saved j)).store.save = some (s.saved j).1 := rfl
  change execSaveCompletion s = _
  unfold execSaveCompletion
  rw [State.prelude_of_saving hdue hload hphase hj hseeded, ← State.saveEnds_saved]
  generalize s.nextTick.setSave (s.saved j) = u at hphase' hsave ⊢
  simp [hphase', hsave, hareas', hareas, hseeded', hseeded]

end Exec

/-! ### The next read (R117) -/

/-- What a read leaves of the job and of the store. -/
theorem State.saveSector_spec (s : State) (j : SaveJob) (area : Nat) (rest : List Nat) (hareas : j.areas = area :: rest) :
    let r := saveAll s.stagingBank j s.store.flash
    let opening : List Byte := if j.sector = 0 then [6, 0, 0x10, 0, 4] ++ beBytes 2 (area * 1024) ++ [4, 0] else []
    let bytes := memReadBytes 0 s.library.mem (area * 1048576 + j.sector * 256) 256
    ∃ j', (s.saveSector j area rest).library = s.library ∧ (s.saveSector j area rest).cache = s.cache ∧
      (s.saveSector j area rest).scene = s.scene ∧ (s.saveSector j area rest).tables = s.tables ∧
      (s.saveSector j area rest).store.save = some j' ∧ j'.nAreas = j.nAreas ∧ j'.addr = r.1.addr ∧
      (s.saveSector j area rest).store.flash = r.2 ∧
      (j.sector + 1 < 4096 →
        j'.sector = j.sector + 1 ∧ j'.areas = area :: rest ∧ j'.page = r.1.page ++ opening ++ bytes) ∧
      (j.sector + 1 = 4096 →
        j'.sector = 0 ∧ j'.areas = rest ∧
        j'.page = r.1.page ++ bytes ++ crcBytes (crcMore r.1.crc bytes)) := by
  have hread := (saveAll_keeps s.stagingBank j s.store.flash).toRead
  simp only [SaveJob.toRead, Prod.mk.injEq] at hread
  obtain ⟨-, hkept, -, hcount⟩ := hread
  have hbytes : s.librarySector (area * 1024 + j.sector / 4) (j.sector % 4) =
      memReadBytes 0 s.library.mem (area * 1048576 + j.sector * 256) 256 := by
    have haddr : sectorAddr (area * 1024 + j.sector / 4) (j.sector % 4) = area * 1048576 + j.sector * 256 := by
      unfold sectorAddr
      omega
    rw [State.librarySector, haddr]
    rfl
  have hopening : sectionStart 6 1048580 ++ beBytes 2 (area * 1024) ++ beBytes 2 1024 =
      [6, 0, 0x10, 0, 4] ++ beBytes 2 (area * 1024) ++ [4, 0] := rfl
  unfold State.saveSector
  rw [hbytes, hopening]
  dsimp only
  generalize memReadBytes 0 s.library.mem (area * 1048576 + j.sector * 256) 256 = bytes
  generalize saveAll s.stagingBank j s.store.flash = r at hkept hcount ⊢
  by_cases hlast : j.sector + 1 = 4096
  · have hmid : j.sector ≠ 0 := by omega
    rw [if_pos hlast, if_neg hmid]
    exact ⟨_, rfl, rfl, rfl, rfl, rfl, hcount, rfl, rfl, fun h => absurd hlast h.ne, fun _ => ⟨rfl, rfl, rfl⟩⟩
  · rw [if_neg hlast]
    refine ⟨_, rfl, rfl, rfl, rfl, rfl, ?_, ?_, rfl, fun _ => ⟨rfl, ?_, ?_⟩, fun h => absurd h hlast⟩ <;>
      by_cases hfirst : j.sector = 0 <;> simp [formUnit, formBytes, hfirst, hcount, hkept, hareas]

/-! ### The end (R177) -/

theorem imageHeader_length (len tag n : Nat) : (imageHeader len tag n).length = 11 := rfl

/-- What is left in hand when a save ends is programmed whole. -/
theorem saveProgram_of_not_full {r : SaveJob × List Host.Cell} (h : r.1.pageFull = false) :
    (saveProgram r).1.addr = r.1.addr + r.1.page.length := by
  obtain ⟨haddr, -⟩ := saveProgram_fields r
  have hroom : r.1.page.length ≤ pageRoom r.1.addr := (Nat.lt_of_not_le (of_decide_eq_false h)).le
  rw [haddr, List.take_of_length_le hroom]

/-- The header stands in the first 11 bytes, with the end address of the image as its length. -/
theorem State.saveEnds_header {s : State} {j : SaveJob} (hwf : memWf flashFill s.store.flash = true) (haddr : 11 ≤ j.addr)
    (hfree : ∀ a, a < 11 → s.flashByte a = 0xFF) {i : Nat} (hi : i < 11) :
    let r := saveAll s.stagingBank j s.store.flash
    (s.saveEnds j).flashByte i =
      (imageHeader (r.1.addr + r.1.page.length) s.scene.tag (5 + j.nAreas)).getD i 0 := by
  have hkeeps := saveAll_keeps s.stagingBank j s.store.flash
  have hwf' := memWf_saveAll s.stagingBank j s.store.flash hwf
  have hfull : (saveAll s.stagingBank j s.store.flash).1.pageFull = false := programPages_pageFull le_rfl
  unfold State.saveEnds State.flashByte
  dsimp only
  generalize saveAll s.stagingBank j s.store.flash = r0 at hkeeps hwf' hfull ⊢
  obtain ⟨r, hr, hend, hrwf, hrkeeps⟩ : ∃ r, (if r0.1.page.isEmpty then r0 else saveProgram r0) = r ∧
      r.1.addr = r0.1.addr + r0.1.page.length ∧ memWf flashFill r.2 = true ∧ SaveKeeps (j, s.store.flash) r := by
    by_cases hempty : r0.1.page.isEmpty = true
    · exact ⟨r0, if_pos hempty, by simp [List.isEmpty_iff.1 hempty], hwf', hkeeps⟩
    · exact ⟨saveProgram r0, if_neg hempty, saveProgram_of_not_full hfull, memWf_saveProgram r0 hwf',
        hkeeps.trans (saveProgram_keeps r0)⟩
  rw [hr, hend]
  generalize hheader : imageHeader (r0.1.addr + r0.1.page.length) s.scene.tag (5 + j.nAreas) = header
  have hlen : i < header.length := by rwa [← hheader, imageHeader_length]
  have hin := memRead_flashProgramPage_in header r.2 0 i hrwf hlen
  rw [Nat.zero_add, hrkeeps.header haddr i hi] at hin
  have hbyte : memRead flashFill s.store.flash i = 0xFF := hfree i hi
  rw [hin, hbyte, List.getD_eq_getElem _ _ hlen]
  exact BitVec.allOnes_and

/-! ### O58 -/

/-- Settles O58: the pieces of the image, then the next read and the end of a save at work. -/
theorem saveReadsOnAndEndsWithItsHeader : Obligations.SaveReadsOnAndEndsWithItsHeader := by
  refine ⟨fun s => ?_, fun k i table len tag n => ⟨fun h => if_neg h, fun h => ?_, fun h => ?_, rfl⟩,
    fun k j table i bs => ⟨⟨rfl, rfl⟩, ⟨rfl, rfl⟩, rfl⟩,
    fun s j hdue hload hphase hj hseeded => ⟨fun area rest hareas hfills huploads => ?_, fun hareas => ?_⟩⟩
  · exact s.saveUnits_eq.trans (by rw [configStart_eq]; rfl)
  · simp only [savedEntry, h, if_true]
    rw [← h]
  · simp only [savedEntry, h, if_true, if_false]
  · obtain ⟨j', hlibrary, hcache, hscene, htables, hsave, hrest⟩ := s.nextTick.saveSector_spec j area rest hareas
    exact ⟨_, j', execSaveReadGrant_of_saving hdue hload hphase hj hseeded hareas hfills huploads, rfl, hlibrary,
      hcache, hscene, htables, hsave, hrest⟩
  · exact ⟨_, execSaveCompletion_of_saving hdue hload hphase hj hseeded hareas, rfl, rfl, rfl, rfl, rfl, rfl, rfl, rfl,
      fun hwf haddr hfree i hi => State.saveEnds_header (s := s.nextTick) hwf haddr hfree hi⟩

end Sys2Proof.Machine

/-! SUPPORT. Scene controller, group sync unit and the store controller's jobs: all that can befall them, and the laws
of Sections 7 and 8 that each of these steps keeps. -/

namespace Sys2Proof.Machine

/-! ### The controls and their steps -/

/-- The records of the scene controller, the group sync unit and the store controller, and the two other queues that are
empty during the start-up load. -/
structure Controls where
  scene : Scene
  group : Group
  store : Store
  uploads : List Upload
  readQ : List ReadReq

/-- The controls of a state. -/
def State.controls (s : State) : Controls := ⟨s.scene, s.group, s.store, s.library.uploads, s.status.readQ⟩

namespace Controls

/-- The start-up load is running, R174. -/
def loading (c : Controls) : Bool := c.store.state == .loading

/-- No queue holds anything (R155). -/
def queuesEmpty (c : Controls) : Prop :=
  c.scene.tableQ = [] ∧ c.scene.hotQ = [] ∧ c.uploads = [] ∧ c.readQ = []

/-- The page stack with its current page, threshold and timer replaced. -/
def turned (page threshold : Nat) (stack : List StackEntry) (hold : Option Nat) (c : Controls) : Controls :=
  { c with scene := { c.scene with page := page, threshold := threshold, stack := stack, hold := hold } }

/-- The four queues replaced. -/
def queued (tableQ : List TableCmd) (hotQ : List HotCmd) (uploads : List Upload) (readQ : List ReadReq) (c : Controls) :
    Controls :=
  { c with scene := { c.scene with tableQ := tableQ, hotQ := hotQ }, uploads := uploads, readQ := readQ }

/-- The scene controller in another state, with another armed record and window. -/
def moved (phase : Phase) (armed : Option Armed) (window : Option Nat) (c : Controls) : Controls :=
  { c with
    scene := { c.scene with phase := phase, armed := armed }
    group := { c.group with window := window } }

/-- The save job and the contents of the store replaced. -/
def saved (j : Option SaveJob) (m : List Host.Cell) (st : StoreState) (c : Controls) : Controls :=
  { c with store := { c.store with save := j, flash := m, state := st } }

end Controls

/-- All that can befall the controls, each with what is known where it happens. -/
inductive Controls.Step (c : Controls) : Controls → Prop where
  /-- The queues are filled and served; during the load nothing is filled (R121, R130, R155, R169). -/
  | queue {tableQ : List TableCmd} {hotQ : List HotCmd} {uploads : List Upload} {readQ : List ReadReq}
      (h : c.loading = true → c.queuesEmpty → tableQ = [] ∧ hotQ = [] ∧ uploads = [] ∧ readQ = []) :
      c.Step (c.queued tableQ hotQ uploads readQ)
  /-- A disposal report counts at the armed record (R126). -/
  | dispose :
      c.Step
        { c with
          scene :=
            { c.scene with armed := c.scene.armed.map fun r => { r with uploadsAhead := r.uploadsAhead - 1 } } }
  /-- The active tag is that of the image loaded, or of the flip (R131, R174). -/
  | tag (n : Nat) : c.Step { c with scene := { c.scene with tag := n } }
  /-- The hold timer runs, or is cleared (R136). -/
  | hold (t : Option Nat) : c.Step (c.turned c.scene.page c.scene.threshold c.scene.stack t)
  /-- THRESHOLD_SET, R133. -/
  | threshold {t : Nat} (h : t ≤ 7) : c.Step (c.turned c.scene.page t c.scene.stack c.scene.hold)
  /-- PAGE_SET, and the entry page of a flip (R131, R134). -/
  | setPage {p : Nat} (h : p ≤ 7 ∨ ∃ r, c.scene.armed = some r ∧ r.entryPage = some p) :
      c.Step (c.turned p c.scene.threshold [] none)
  /-- PAGE_PUSH, R134. -/
  | push {p t : Nat} {kept : List StackEntry} {hold : Option Nat} (hp : p ≤ 7) (ht : t = c.scene.threshold ∨ t ≤ 7)
      (hlen : kept.length ≤ 7) (hkept : ∀ e ∈ kept, e ∈ c.scene.stack) :
      c.Step (c.turned p t (⟨c.scene.page, c.scene.hold, c.scene.threshold⟩ :: kept) hold)
  /-- A pop, R135, R136. -/
  | pop {e : StackEntry} {rest : List StackEntry} (h : c.scene.stack = e :: rest) :
      c.Step (c.turned e.page e.threshold rest e.hold)
  /-- The scene controller goes between states in which no flip is armed and no save runs (R122, R175). -/
  | enter {p : Phase} (hfrom : c.scene.phase ∈ [.settled, .seeding, .recalling])
      (hto : p ∈ [.settled, .seeding, .editing, .recalling]) (hhead : c.scene.phase = .settled → c.scene.tableQ ≠ []) :
      c.Step (c.moved p c.scene.armed c.group.window)
  /-- A FLIP_ARM is accepted, R125. -/
  | arm {r : Armed} (hphase : c.scene.phase = .editing) (hpage : ∀ p, r.entryPage = some p → p ≤ 7)
      (hgroup : r.mode = .group → c.group.participation = true) : c.Step (c.moved .draining (some r) c.group.window)
  /-- The uploads ahead of a local flip are disposed of (R126). -/
  | armLocal {r : Armed} (hphase : c.scene.phase = .draining) (harmed : c.scene.armed = some r)
      (hcount : r.uploadsAhead = 0) (hmode : r.mode = .localOnly) :
      c.Step (c.moved .armedLocal c.scene.armed c.group.window)
  /-- The uploads ahead of a group flip are disposed of, and the window begins (R126, R141). -/
  | armGroup {r : Armed} (hphase : c.scene.phase = .draining) (harmed : c.scene.armed = some r)
      (hcount : r.uploadsAhead = 0) (hmode : r.mode = .group) : c.Step (c.moved .armedGroup c.scene.armed (some 0))
  /-- A frame start counts in the window (R141). -/
  | countFrame (n : Nat) (hphase : c.scene.phase = .armedGroup) : c.Step (c.moved .armedGroup c.scene.armed (some n))
  /-- The leader begins its pulse (R144). -/
  | pulse (hphase : c.scene.phase = .armedGroup) (hrole : c.group.role = .leader) :
      c.Step { c with group := { c.group with pulse := some 8 } }
  /-- The controller commits to a group flip (R142, R143, R147). -/
  | commit (hphase : c.scene.phase = .armedGroup) : c.Step (c.moved .committed c.scene.armed none)
  /-- A preparation ends without a flip (R127, R143, R145). -/
  | disarm {p : Phase} (hfrom : c.scene.phase.armed = true ∨ c.scene.phase = .editing)
      (hto : p = .editing ∨ p = .settled) : c.Step (c.moved p none none)
  /-- A flip, but for its tag and its entry page (R131, R137). -/
  | flip (hphase : c.scene.phase = .armedLocal ∨ c.scene.phase = .committed) :
      c.Step
        { c with
          scene :=
            { c.scene with phase := .settled, armed := none, generation := (c.scene.generation + 1) % 65536 } }
  /-- Role and participation are written; while a flip is armed neither is (R128, R140, R174). -/
  | configure {role : Option Role} {participation : Option Bool}
      (h : c.scene.phase.armed = true → c.loading = false → role = none ∧ participation = none) :
      c.Step { c with group := c.group.configure role participation }
  /-- The group lines are seen and sampled, and the pulse timer counts or ends (R139, R144, R146). -/
  | sense {g : Group} (hrole : g.role = c.group.role) (hpart : g.participation = c.group.participation)
      (hwindow : g.window = c.group.window) (hpulse : ∀ n, g.pulse = some n → ∃ m, c.group.pulse = some m ∧ n ≤ m) :
      c.Step { c with group := g }
  /-- The image is read on (R174, R175). -/
  | read (k : Nat) : c.Step { c with store := { c.store with imagePos := k } }
  /-- The reading of an image has its outcome (R174, R175). -/
  | outcome {st : StoreState} (h : st ≠ .loading) : c.Step { c with store := { c.store with state := st } }
  /-- A protect program begins, ends or stops (R178). -/
  | protect {st : Store} (hfree : c.scene.phase ≠ .saving ∨ c.store.protectJob ≠ none) (hsave : st.save = c.store.save)
      (hstate : st.state = c.store.state) : c.Step { c with store := st }
  /-- A STORE_SAVE is accepted, R176. -/
  | beginSave {j : SaveJob} (hphase : c.scene.phase = .settled) (hhead : c.scene.tableQ ≠ [])
      (hfree : c.store.protectJob = none) (hj : j.seeded = false) :
      c.Step ((c.moved .saving c.scene.armed c.group.window).saved (some j) c.store.flash c.store.state)
  /-- The seed copy of a save ends, its first sector erased (R176, R177). -/
  | seedSave {j j' : SaveJob} {m : List Host.Cell} (hj : c.store.save = some j) (haddr : 11 ≤ j'.addr)
      (hm : ∀ a, a < 11 → memRead flashFill m a = 0xFF) : c.Step (c.saved (some j') m .unprogrammed)
  /-- A save that writes goes on (R176, R177). -/
  | program {j j' : SaveJob} {m : List Host.Cell} (hj : c.store.save = some j) (hseeded : j.seeded = true)
      (hkeeps : 11 ≤ j.addr → 11 ≤ j'.addr ∧ ∀ a, a < 11 → memRead flashFill m a = memRead flashFill c.store.flash a) :
      c.Step (c.saved (some j') m c.store.state)
  /-- A save ends or stops (R177). -/
  | endSave {m : List Host.Cell} {st : StoreState} (hphase : c.scene.phase = .saving)
      (hst : st = c.store.state ∨ st ≠ .loading) :
      c.Step ((c.moved .settled c.scene.armed c.group.window).saved none m st)
  /-- Every block at its reset values (R138, R151, R171, R173, R179). -/
  | reset {group : Group} {store : Store} (hwindow : group.window = none) (hpulse : group.pulse = none)
      (hsave : store.save = none) : c.Step ⟨.atReset, group, store, [], []⟩

/-- Any number of these steps lead from the controls of one state to those of another. -/
abbrev State.ControlSteps (s t : State) : Prop := Relation.ReflTransGen Controls.Step s.controls t.controls

theorem State.ControlSteps.of_eq {s t : State} (h : t.controls = s.controls) : s.ControlSteps t := by
  rw [State.ControlSteps, h]

/-- A law that each of these steps keeps, any number of them keeps. -/
theorem State.ControlSteps.invariant {P : Controls → Prop} (hP : ∀ {c c' : Controls}, c.Step c' → P c → P c')
    {s t : State} (h : s.ControlSteps t) (hs : P s.controls) : P t.controls := by
  unfold State.ControlSteps at h
  generalize t.controls = c at h ⊢
  induction h with
  | refl => exact hs
  | tail _ hlast ih => exact hP hlast ih

/-! ### The law of the page stack (R26, R134, R137) -/

/-- `State.pageLaw` at the controls. -/
structure Controls.pageLaw (c : Controls) : Prop where
  page : c.scene.page ≤ 7
  threshold : c.scene.threshold ≤ 7
  depth : c.scene.stack.length ≤ 8
  stack : ∀ e ∈ c.scene.stack, e.page ≤ 7 ∧ e.threshold ≤ 7
  generation : c.scene.generation < 65536
  entryPage : ∀ r, c.scene.armed = some r → ∀ p, r.entryPage = some p → p ≤ 7

theorem State.pageLaw_iff (s : State) : s.pageLaw ↔ s.controls.pageLaw :=
  ⟨fun ⟨hpage, hthreshold, hdepth, hstack, hgeneration, hentry⟩ =>
    ⟨hpage, hthreshold, hdepth, hstack, hgeneration, hentry⟩,
   fun h => ⟨h.page, h.threshold, h.depth, h.stack, h.generation, h.entryPage⟩⟩

/-- Every step keeps the law of the page stack: a page and a threshold come from a checked change or from the stack. -/
theorem Controls.Step.pageLaw {c c' : Controls} (h : c.Step c') (hc : c.pageLaw) : c'.pageLaw := by
  cases h with
  | queue _ => exact { hc with }
  | dispose =>
    refine { hc with entryPage := fun r hr => ?_ }
    obtain ⟨r', hr', rfl⟩ := Option.map_eq_some_iff.1 hr
    exact hc.entryPage r' hr'
  | tag n => exact { hc with }
  | hold t => exact { hc with }
  | threshold ht => exact { hc with threshold := ht }
  | @setPage p hp =>
    have hpage : p ≤ 7 := by
      rcases hp with hp | ⟨r, hr, hp⟩
      · exact hp
      · exact hc.entryPage r hr p hp
    exact { hc with page := hpage, depth := Nat.zero_le _, stack := by rintro e ⟨⟩ }
  | push hp ht hlen hkept =>
    refine { hc with page := hp, threshold := ?_, depth := Nat.succ_le_succ hlen, stack := fun e he => ?_ }
    · rcases ht with rfl | ht
      · exact hc.threshold
      · exact ht
    · rcases List.mem_cons.1 he with rfl | he
      · exact ⟨hc.page, hc.threshold⟩
      · exact hc.stack e (hkept e he)
  | @pop e rest hstack =>
    have hmem : ∀ e' ∈ e :: rest, e'.page ≤ 7 ∧ e'.threshold ≤ 7 := hstack ▸ hc.stack
    have hdepth : (e :: rest).length ≤ 8 := hstack ▸ hc.depth
    obtain ⟨hpage, hthreshold⟩ := hmem e (List.mem_cons_self ..)
    exact { hc with
      page := hpage
      threshold := hthreshold
      depth := (Nat.le_succ _).trans hdepth
      stack := fun e' he' => hmem e' (List.mem_cons_of_mem e he') }
  | enter _ _ _ => exact { hc with }
  | arm _ hpage _ => exact { hc with entryPage := fun r hr => by cases hr; exact hpage }
  | armLocal _ _ _ _ => exact { hc with }
  | armGroup _ _ _ _ => exact { hc with }
  | countFrame n _ => exact { hc with }
  | pulse _ _ => exact { hc with }
  | commit _ => exact { hc with }
  | disarm _ _ => exact { hc with entryPage := by rintro r ⟨⟩ }
  | flip _ => exact { hc with generation := Nat.mod_lt _ (by decide), entryPage := by rintro r ⟨⟩ }
  | configure _ => exact { hc with }
  | sense _ _ _ _ => exact { hc with }
  | read k => exact { hc with }
  | outcome _ => exact { hc with }
  | protect _ _ _ => exact { hc with }
  | beginSave _ _ _ _ => exact { hc with }
  | seedSave _ _ _ => exact { hc with }
  | program _ _ _ => exact { hc with }
  | endSave _ _ => exact { hc with }
  | reset _ _ _ =>
    exact ⟨Nat.zero_le _, Nat.zero_le _, Nat.zero_le _, by rintro e ⟨⟩, Nat.succ_pos _, by rintro r ⟨⟩⟩

/-! ### The law of the armed record (R120, R126, R141, R144, R176) -/

/-- An armed record fits a scene state and the participation of its part (R120, R125, R126, R128). -/
structure Armed.Fits (r : Armed) (phase : Phase) (participation : Bool) : Prop where
  drained : phase ≠ .draining → r.uploadsAhead = 0
  localMode : phase = .armedLocal → r.mode = .localOnly
  groupMode : phase = .armedGroup ∨ phase = .committed → r.mode = .group
  takesPart : r.mode = .group → participation = true

/-- `State.flipLaw` at the controls. -/
structure Controls.flipLaw (c : Controls) : Prop where
  armed : c.scene.armed.isSome = c.scene.phase.armed
  window : c.group.window.isSome = (c.scene.phase == .armedGroup)
  fits : ∀ r, c.scene.armed = some r → r.Fits c.scene.phase c.group.participation
  pulse : ∀ n, c.group.pulse = some n → n ≤ 8 ∧ c.group.role = .leader ∧ c.group.participation = true
  saving : c.store.save.isSome = (c.scene.phase == .saving)
  load : c.loading = true → c.scene.phase = .settled ∧ c.queuesEmpty
  alone : ∀ j, c.store.save = some j → c.store.protectJob = none
  header : ∀ j, c.store.save = some j → j.seeded = true →
    11 ≤ j.addr ∧ ∀ a, a < 11 → memRead flashFill c.store.flash a = 0xFF

theorem State.flipLaw_iff (s : State) : s.flipLaw ↔ s.controls.flipLaw :=
  ⟨fun ⟨harmed, hwindow, hfits, hpulse, hsaving, hload, hsave⟩ =>
    { armed := harmed
      window := hwindow
      fits := fun r hr =>
        let ⟨hdrained, hlocal, hgroup, hpart⟩ := hfits r hr
        ⟨hdrained, hlocal, hgroup, hpart⟩
      pulse := hpulse
      saving := hsaving
      load := hload
      alone := fun j hj => (hsave j hj).1
      header := fun j hj => (hsave j hj).2 },
   fun h =>
    ⟨h.armed, h.window,
      fun r hr =>
        let ⟨hdrained, hlocal, hgroup, hpart⟩ := h.fits r hr
        ⟨hdrained, hlocal, hgroup, hpart⟩,
      h.pulse, h.saving, h.load, fun j hj => ⟨h.alone j hj, h.header j hj⟩⟩⟩

namespace Controls.flipLaw

variable {c : Controls} (h : c.flipLaw)
include h

/-- Away from the four armed states there is no armed record. -/
theorem armed_none (hphase : c.scene.phase.armed = false) : c.scene.armed = none := by
  rw [← Option.not_isSome_iff_eq_none, h.armed, hphase]
  exact Bool.false_ne_true

theorem window_none (hphase : c.scene.phase ≠ .armedGroup) : c.group.window = none := by
  rw [← Option.not_isSome_iff_eq_none, h.window]
  simpa using hphase

theorem save_none (hphase : c.scene.phase ≠ .saving) : c.store.save = none := by
  rw [← Option.not_isSome_iff_eq_none, h.saving]
  simpa using hphase

theorem phase_of_save {j : SaveJob} (hj : c.store.save = some j) : true = (c.scene.phase == .saving) := by
  rw [← h.saving, hj]
  rfl

/-- A controller that is not SETTLED, or has a command waiting, belongs to a part that is not loading. -/
theorem not_loading (hbusy : c.scene.phase = .settled → c.scene.tableQ ≠ []) : c.loading = false := by
  by_contra hload
  obtain ⟨hsettled, htable, -⟩ := h.load (by simpa using hload)
  exact hbusy hsettled htable

end Controls.flipLaw

/-- A pulse that a write of role or participation leaves running is that of before, of a part that is a leader taking
part behind the write (R140, R144). -/
theorem Group.configure_pulse_eq_some {g : Group} {role : Option Role} {participation : Option Bool} {n : Nat}
    (h : (g.configure role participation).pulse = some n) :
    g.pulse = some n ∧ (g.configure role participation).role = .leader ∧
      (g.configure role participation).participation = true := by
  unfold Group.configure Group.reconfigure at h ⊢
  simp only [Option.ite_none_right_eq_some, Bool.and_eq_true, beq_iff_eq] at h
  exact ⟨h.2, h.1.2, h.1.1⟩

/-- A change of scene state keeps the law where armed record and window fit the new state. -/
theorem Controls.flipLaw.moved {c : Controls} (h : c.flipLaw) {p : Phase} {armed : Option Armed} {window : Option Nat}
    (harmed : armed.isSome = p.armed) (hwindow : window.isSome = (p == .armedGroup))
    (hfits : ∀ r, armed = some r → r.Fits p c.group.participation)
    (hbusy : c.scene.phase = .settled → c.scene.tableQ ≠ []) (hfrom : c.scene.phase ≠ .saving) (hto : p ≠ .saving) :
    (c.moved p armed window).flipLaw :=
  { armed := harmed
    window := hwindow
    fits := hfits
    pulse := h.pulse
    saving := by
      have hnone := h.save_none hfrom
      simpa [Controls.moved, hnone] using hto
    load := fun hload => absurd hload (ne_true_of_eq_false (h.not_loading hbusy))
    alone := h.alone
    header := h.header }

/-- Every step keeps the law of the armed record. -/
theorem Controls.Step.flipLaw {c c' : Controls} (h : c.Step c') (hc : c.flipLaw) : c'.flipLaw := by
  cases h with
  | queue hempty => exact { hc with load := fun hload => ⟨(hc.load hload).1, hempty hload (hc.load hload).2⟩ }
  | dispose =>
    refine { hc with armed := Option.isSome_map.trans hc.armed, fits := fun r hr => ?_ }
    obtain ⟨r', hr', rfl⟩ := Option.map_eq_some_iff.1 hr
    have hfits := hc.fits r' hr'
    exact { hfits with drained := fun hphase => by rw [hfits.drained hphase] }
  | tag n => exact { hc with }
  | hold t => exact { hc with }
  | threshold _ => exact { hc with }
  | setPage _ => exact { hc with }
  | push _ _ _ _ => exact { hc with }
  | pop _ => exact { hc with }
  | enter hfrom hto hhead =>
    simp only [List.mem_cons, List.not_mem_nil, or_false] at hfrom hto
    have hold : c.scene.phase.armed = false ∧ c.scene.phase ≠ .armedGroup ∧ c.scene.phase ≠ .saving := by
      rcases hfrom with h | h | h <;> simp [h, Phase.armed]
    have hnew : ∀ p : Phase, p = .settled ∨ p = .seeding ∨ p = .editing ∨ p = .recalling →
        p.armed = false ∧ p ≠ .armedGroup ∧ p ≠ .saving := by
      rintro p (rfl | rfl | rfl | rfl) <;> decide
    obtain ⟨harmed, hgroup, hsaving⟩ := hold
    obtain ⟨harmed', hgroup', hsaving'⟩ := hnew _ hto
    rw [hc.armed_none harmed, hc.window_none hgroup]
    exact hc.moved harmed'.symm (by simpa using hgroup') (by rintro r ⟨⟩) hhead hsaving hsaving'
  | arm hphase _ hgroup =>
    rw [hc.window_none (by simp [hphase])]
    refine hc.moved rfl rfl ?_ (by simp [hphase]) (by simp [hphase]) (by decide)
    rintro r ⟨⟩
    exact ⟨fun h => absurd rfl h, by rintro ⟨⟩, by rintro (⟨⟨⟩⟩ | ⟨⟨⟩⟩), hgroup⟩
  | armLocal hphase harmed hcount hmode =>
    rw [hc.window_none (by simp [hphase]), harmed]
    refine hc.moved rfl rfl ?_ (by simp [hphase]) (by simp [hphase]) (by decide)
    rintro r ⟨⟩
    exact ⟨fun _ => hcount, fun _ => hmode, by rintro (⟨⟨⟩⟩ | ⟨⟨⟩⟩), (hc.fits _ harmed).takesPart⟩
  | armGroup hphase harmed hcount hmode =>
    rw [harmed]
    refine hc.moved rfl rfl ?_ (by simp [hphase]) (by simp [hphase]) (by decide)
    rintro r ⟨⟩
    exact ⟨fun _ => hcount, by rintro ⟨⟩, fun _ => hmode, (hc.fits _ harmed).takesPart⟩
  | countFrame n hphase =>
    refine hc.moved (hphase ▸ hc.armed) rfl (fun r hr => ?_) (by simp [hphase]) (by simp [hphase]) (by decide)
    have hfits := hc.fits r hr
    rwa [hphase] at hfits
  | pulse hphase hrole =>
    refine { hc with pulse := ?_ }
    rintro n ⟨⟩
    have harmed : c.scene.armed.isSome = true := by rw [hc.armed, hphase]; rfl
    obtain ⟨r, hr⟩ := Option.isSome_iff_exists.1 harmed
    have hfits := hc.fits r hr
    exact ⟨le_rfl, hrole, hfits.takesPart (hfits.groupMode (.inl hphase))⟩
  | commit hphase =>
    have harmed : c.scene.armed.isSome = Phase.committed.armed := by rw [hc.armed, hphase]; rfl
    refine hc.moved harmed rfl (fun r hr => ?_) (by simp [hphase]) (by simp [hphase]) (by decide)
    have hfits := hc.fits r hr
    exact ⟨fun _ => hfits.drained (by simp [hphase]), by rintro ⟨⟩, fun _ => hfits.groupMode (.inl hphase),
      hfits.takesPart⟩
  | disarm hfrom hto =>
    have hold : c.scene.phase ≠ .settled ∧ c.scene.phase ≠ .saving := by
      rcases hfrom with h | h
      · constructor <;> intro hphase <;> simp [hphase, Phase.armed] at h
      · simp [h]
    obtain ⟨hsettled, hsaving⟩ := hold
    rcases hto with rfl | rfl <;>
      exact hc.moved rfl rfl (by rintro r ⟨⟩) (fun h => absurd h hsettled) hsaving (by decide)
  | flip hphase =>
    have hold : c.scene.phase ≠ .armedGroup ∧ c.scene.phase ≠ .settled ∧ c.scene.phase ≠ .saving := by
      rcases hphase with h | h <;> simp [h]
    obtain ⟨hgroup, hsettled, hsaving⟩ := hold
    have hmoved := hc.moved (p := .settled) (armed := none) (window := none) rfl rfl (by rintro r ⟨⟩)
      (fun h => absurd h hsettled) hsaving (by decide)
    exact { hmoved with window := by rw [hc.window_none hgroup]; rfl }
  | @configure role participation h =>
    refine { hc with fits := fun r hr => ?_, pulse := fun n hn => ?_ }
    · have harmed : c.scene.phase.armed = true := by rw [← hc.armed, hr]; rfl
      obtain ⟨-, rfl⟩ := h harmed (hc.not_loading fun hsettled => by rw [hsettled] at harmed; cases harmed)
      exact hc.fits r hr
    · obtain ⟨hold, hleader, htakes⟩ := Group.configure_pulse_eq_some hn
      exact ⟨(hc.pulse n hold).1, hleader, htakes⟩
  | sense hrole hpart hwindow hpulse =>
    refine { hc with window := hwindow ▸ hc.window, fits := fun r hr => hpart ▸ hc.fits r hr, pulse := fun n hn => ?_ }
    obtain ⟨m, hm, hle⟩ := hpulse n hn
    obtain ⟨hmax, hleader, htakes⟩ := hc.pulse m hm
    exact ⟨hle.trans hmax, hrole.trans hleader, hpart.trans htakes⟩
  | read k => exact { hc with }
  | outcome h => exact { hc with load := fun hload => absurd (by simpa [Controls.loading] using hload) h }
  | protect hfree hsave hstate =>
    have hnone : c.store.save = none := by
      rcases hfree with hphase | hjob
      · exact hc.save_none hphase
      · exact Option.eq_none_iff_forall_ne_some.2 fun j hj => hjob (hc.alone j hj)
    have hnone' := hsave.trans hnone
    refine { hc with
      saving := by rw [← hc.saving, hsave]
      load := fun hload => hc.load (by rwa [Controls.loading, hstate] at hload)
      alone := fun j hj => ?_
      header := fun j hj => ?_ } <;> cases hnone'.symm.trans hj
  | beginSave hphase hhead hfree hj =>
    have harmed := hc.armed_none (by rw [hphase]; rfl)
    have hwindow := hc.window_none (by simp [hphase])
    exact { hc with
      armed := by simp [Controls.saved, Controls.moved, harmed, Phase.armed]
      window := by simp [Controls.saved, Controls.moved, hwindow]
      fits := fun r hr => by cases harmed.symm.trans hr
      saving := rfl
      load := fun hload => absurd hload (ne_true_of_eq_false (hc.not_loading fun _ => hhead))
      alone := fun _ _ => hfree
      header := by
        rintro j ⟨⟩ hseeded
        rw [hj] at hseeded
        cases hseeded }
  | seedSave hj haddr hm =>
    exact { hc with
      saving := hc.phase_of_save hj
      load := by rintro ⟨⟩
      alone := fun _ _ => hc.alone _ hj
      header := by rintro j ⟨⟩ -; exact ⟨haddr, hm⟩ }
  | program hj hseeded hkeeps =>
    obtain ⟨haddr, hfree⟩ := hc.header _ hj hseeded
    obtain ⟨haddr', hm⟩ := hkeeps haddr
    exact { hc with
      saving := hc.phase_of_save hj
      alone := fun _ _ => hc.alone _ hj
      header := by rintro j ⟨⟩ -; exact ⟨haddr', fun a ha => (hm a ha).trans (hfree a ha)⟩ }
  | @endSave m st hphase hst =>
    have harmed := hc.armed_none (by rw [hphase]; rfl)
    have hwindow := hc.window_none (by simp [hphase])
    have hquiet : c.loading = false := hc.not_loading (by simp [hphase])
    exact { hc with
      armed := by simp [Controls.saved, Controls.moved, harmed, Phase.armed]
      window := by simp [Controls.saved, Controls.moved, hwindow]
      fits := fun r hr => by cases harmed.symm.trans hr
      saving := rfl
      load := fun hload => by
        have hst' : st = .loading := by simpa [Controls.loading, Controls.saved] using hload
        rcases hst with h | h
        · simp [Controls.loading, ← h, hst'] at hquiet
        · exact absurd hst' h
      alone := by rintro j ⟨⟩
      header := by rintro j ⟨⟩ }
  | reset hwindow hpulse hsave =>
    exact {
      armed := rfl
      window := by rw [hwindow]; rfl
      fits := by rintro r ⟨⟩
      pulse := fun n hn => by cases hpulse.symm.trans hn
      saving := by rw [hsave]; rfl
      load := fun _ => ⟨rfl, rfl, rfl, rfl, rfl⟩
      alone := fun j hj => by cases hsave.symm.trans hj
      header := fun j hj => by cases hsave.symm.trans hj }

end Sys2Proof.Machine

/-! SUPPORT. The scene controller and the group sync unit at work, as steps of the controls: the frame-start update,
the steps due, line starts and frame starts. -/

namespace Sys2Proof.Machine

/-! ### What leaves the controls alone -/

theorem State.BuildsTo.controls {s t : State} (h : s.BuildsTo t) : t.controls = s.controls := by
  obtain ⟨b, c, v, rfl, -, -⟩ := h
  rfl

theorem State.settleScene_controls (s : State) : s.settleScene.controls = s.controls := by
  obtain ⟨lane, d, h⟩ := s.settleScene_cases
  exact h.controls

theorem State.cutLine_controls (s : State) : s.cutLine.controls = s.controls := by
  obtain ⟨p, k, r, h⟩ := s.cutLine_eq
  rw [h]
  rfl

theorem State.judgeFrame_controls (s : State) : s.judgeFrame.controls = s.controls := by
  obtain ⟨v, h⟩ := s.judgeFrame_eq
  rw [h]
  rfl

theorem State.blankIfInput_controls (s : State) : s.blankIfInput.controls = s.controls := by
  obtain ⟨p, h⟩ := s.blankIfInput_eq
  rw [h]
  rfl

theorem State.composeLine_controls (background : List Rgb) (s : State) :
    (s.composeLine background).controls = s.controls := by
  obtain ⟨b, c, v, h, -⟩ := s.composeLine_cases background
  rw [h]
  rfl

theorem State.settleCredit_controls (s : State) : s.settleCredit.controls = s.controls := by
  unfold State.settleCredit
  split <;> rfl

/-! ### The frame-start update -/

theorem State.holdPop_controlSteps (s : State) : s.ControlSteps s.holdPop := by
  unfold State.holdPop
  split
  · rename_i e rest hstack
    exact .single (.pop hstack)
  · exact .single (.hold none)

theorem State.popIfDue_controlSteps (s : State) : s.ControlSteps s.popIfDue := by
  unfold State.popIfDue
  split
  · exact s.holdPop_controlSteps
  · exact .refl

/-- A due flip turns to the entry page of its record, takes its tag, and is SETTLED (R131). -/
theorem State.flipIfDue_controlSteps (s : State) : s.ControlSteps s.flipIfDue := by
  rcases s.flipIfDue_cases with ⟨hdue, h⟩ | ⟨-, h⟩
  · have hphase : s.scene.phase = .armedLocal ∨ s.scene.phase = .committed := by simpa [State.flipDue] using hdue
    cases harmed : s.scene.armed with
    | none =>
      have hflip := Relation.ReflTransGen.single (Controls.Step.flip (c := s.controls) hphase)
      rw [h]
      unfold State.flip
      simp only [harmed]
      exact hflip
    | some r =>
      rw [State.flipIfDue_of_armed hdue harmed]
      cases hpage : r.entryPage with
      | none =>
        have htag : s.ControlSteps { s with scene := { s.scene with tag := r.tag } } := .single (.tag r.tag)
        exact htag.tail (.flip hphase)
      | some p =>
        have htag : s.ControlSteps
            { s with scene := { s.scene with page := p, stack := [], hold := none, tag := r.tag } } :=
          .tail (.single (.setPage (.inr ⟨r, harmed, hpage⟩))) (.tag r.tag)
        exact htag.tail (.flip hphase)
  · rw [h]

theorem clampThreshold_le (t : Nat) : clampThreshold t ≤ 7 := min_le_left ..

/-- PAGE_PUSH with a page of 0 to 7 (R134). -/
theorem State.pushPage_controlSteps {page : Nat} (hpage : page ≤ 7) (duration threshold : Nat) (s : State) :
    s.ControlSteps (s.pushPage page duration threshold) := by
  have hthreshold : (if threshold = 0xFF then s.scene.threshold else clampThreshold threshold) = s.scene.threshold ∨
      (if threshold = 0xFF then s.scene.threshold else clampThreshold threshold) ≤ 7 := by
    split
    · exact .inl rfl
    · exact .inr (clampThreshold_le _)
  unfold State.pushPage
  by_cases hwraps : 8 ≤ s.scene.stack.length
  · simp only [hwraps, decide_true, if_true]
    exact .single (.push hpage hthreshold (List.length_take_le ..) fun e => List.mem_of_mem_take)
  · simp only [hwraps, decide_false, Bool.false_eq_true, if_false]
    exact .single (.push hpage hthreshold (by omega) fun e he => he)

/-- One hot change (R133 to R135). -/
theorem applyHot_controlSteps (c : HotCmd) (p : State × Bool) : p.1.ControlSteps (applyHot c p).1 := by
  cases c with
  | itemState item code =>
    simp only [applyHot]
    split <;> exact .refl
  | pageSet page =>
    simp only [applyHot]
    split
    · rename_i hpage
      exact .single (.setPage (.inl hpage))
    · exact .refl
  | pagePush page duration threshold =>
    simp only [applyHot]
    split
    · rename_i hpage
      exact State.pushPage_controlSteps hpage ..
    · exact .refl
  | pagePop =>
    simp only [applyHot]
    split
    · exact .refl
    · rename_i hstack
      exact .single (.pop hstack)
  | thresholdSet t => exact .single (.threshold (clampThreshold_le t))
  | watchSet r => exact .refl
  | eventClear mask => exact .refl

theorem applyHots_controlSteps (cs : List HotCmd) (p : State × Bool) : p.1.ControlSteps (applyHots cs p).1 := by
  induction cs generalizing p with
  | nil => exact .refl
  | cons c cs ih => exact (applyHot_controlSteps c p).trans (ih _)

theorem State.applyHotQueue_controlSteps (s : State) : s.ControlSteps s.applyHotQueue.1 := by
  have hemptied : s.ControlSteps { s with scene := { s.scene with hotQ := [] } } :=
    .single (.queue fun _ ⟨htable, _, huploads, hread⟩ => ⟨htable, rfl, huploads, hread⟩)
  exact hemptied.trans
    (applyHots_controlSteps s.scene.hotQ ({ s with scene := { s.scene with hotQ := [] } }, false))

theorem State.frameUpdate_controlSteps (s : State) : s.ControlSteps s.frameUpdate := by
  unfold State.frameUpdate
  rw [State.runHoldTimer_eq]
  exact (s.flipIfDue_controlSteps.trans (State.applyHotQueue_controlSteps _)).tail (.hold _)

/-! ### The group sync unit -/

theorem State.groupFrameStart_controlSteps (s : State) : s.ControlSteps s.groupFrameStart := by
  rcases s.groupFrameStart_cases with ⟨-, h⟩ | ⟨hphase, h⟩
  · rw [h]
  · have hcount : s.ControlSteps { s with group := { s.group with window := some (s.group.window.getD 0 + 1) } } := by
      have hstep := Controls.Step.countFrame (c := s.controls) (s.group.window.getD 0 + 1) hphase
      rw [← hphase] at hstep
      exact .single hstep
    rcases h with h | ⟨hrole, h⟩ <;> rw [h]
    · exact hcount
    · exact .tail (.tail hcount (.pulse hphase hrole)) (.commit hphase)

/-- The armed state of a record whose uploads ahead have been disposed of (R126). -/
theorem State.enterArmed_controlSteps {s : State} (hphase : s.scene.phase = .draining)
    (hcount : ∀ r, s.scene.armed = some r → r.uploadsAhead = 0) : s.ControlSteps s.enterArmed := by
  unfold State.enterArmed
  split
  · rename_i harmed
    exact .single (.armGroup hphase harmed (hcount _ harmed) rfl)
  · rename_i harmed
    exact .single (.armLocal hphase harmed (hcount _ harmed) rfl)
  · exact .refl

theorem State.disarm_controlSteps {p : Phase} {s : State}
    (hfrom : s.scene.phase.armed = true ∨ s.scene.phase = .editing) (hto : p = .editing ∨ p = .settled) :
    s.ControlSteps (s.disarm p) := .single (.disarm hfrom hto)

/-- The leader's window has ended in ARMED-group (R142). -/
theorem State.leaderWindowDue_phase {s : State} (h : s.leaderWindowDue = true) :
    s.scene.phase = .armedGroup ∧ s.group.role = .leader := by
  unfold State.leaderWindowDue at h
  simp only [Bool.and_eq_true, beq_iff_eq] at h
  exact h.1

theorem State.memberWindowDue_phase {s : State} (h : s.memberWindowDue = true) : s.scene.phase = .armedGroup := by
  unfold State.memberWindowDue at h
  simp only [Bool.and_eq_true, beq_iff_eq] at h
  exact h.1.1

theorem State.settleLeaderWindow_controlSteps (s : State) : s.ControlSteps s.settleLeaderWindow := by
  unfold State.settleLeaderWindow
  split
  · rename_i hdue
    obtain ⟨hphase, hrole⟩ := State.leaderWindowDue_phase hdue
    have hback : s.ControlSteps ((s.raise .flipTimeout).disarm .editing) :=
      .single (.disarm (.inl (by rw [State.controls, hphase]; rfl)) (.inl rfl))
    unfold State.leaderWindowEnds
    simp only
    split
    · split
      · exact .tail (.single (.pulse hphase hrole)) (.commit hphase)
      · exact hback
    · exact hback
  · exact .refl

theorem State.settleMemberWindow_controlSteps (s : State) : s.ControlSteps s.settleMemberWindow := by
  unfold State.settleMemberWindow
  split
  · rename_i hdue
    exact .single (.disarm (.inl (by rw [State.controls, State.memberWindowDue_phase hdue]; rfl)) (.inl rfl))
  · exact .refl

theorem State.settleDrained_controlSteps (s : State) : s.ControlSteps s.settleDrained := by
  unfold State.settleDrained
  split
  · rename_i hdue
    unfold State.drainedDue at hdue
    simp only [Bool.and_eq_true, beq_iff_eq] at hdue
    obtain ⟨hphase, hcount⟩ := hdue
    exact State.enterArmed_controlSteps hphase fun r hr => by simpa [hr] using hcount
  · exact .refl

theorem State.settlePulse_controlSteps (s : State) : s.ControlSteps s.settlePulse := by
  unfold State.settlePulse
  split
  · exact .single (.sense rfl rfl rfl (by rintro n ⟨⟩))
  · exact .refl

theorem State.settleCounters_controlSteps (s : State) : s.ControlSteps s.settleCounters :=
  ((s.settleDrained_controlSteps.trans (State.ControlSteps.of_eq (State.settleCredit_controls _))).trans
    (State.settlePulse_controlSteps _)).trans
    ((State.settleLeaderWindow_controlSteps _).trans (State.settleMemberWindow_controlSteps _))

theorem State.settleHold_controlSteps (s : State) : s.ControlSteps s.settleHold := by
  unfold State.settleHold
  split
  · exact s.holdPop_controlSteps.trans (State.ControlSteps.of_eq (State.settleScene_controls _))
  · exact .refl

/-- The line filter's sample, and the commitment that a recognized pulse brings (R146, R147). -/
theorem State.sampleFlip_controlSteps (s : State) : s.ControlSteps s.sampleFlip := by
  have hsense : ∀ (high : Bool) (run : Nat),
      s.ControlSteps { s with group := { s.group with filterHigh := high, filterRun := run } } :=
    fun high run => .single (.sense rfl rfl rfl fun n hn => ⟨n, hn, le_rfl⟩)
  have hpulse : ∀ u : State, u.ControlSteps u.pulseRecognized := by
    intro u
    unfold State.pulseRecognized
    split
    · rename_i hphase
      exact .single (.commit hphase)
    all_goals exact .refl
  unfold State.sampleFlip
  simp only
  split
  · split
    · exact hsense s.group.filterHigh 0
    · split
      · exact hsense s.group.filterHigh _
      · split
        · exact (hsense s.flipHigh 0).trans (hpulse _)
        · exact hsense s.flipHigh 0
  · exact .refl

/-! ### Line starts and frame starts -/

/-- An output line start composes its line, and the pulse timer counts and the filter samples (R15, R144, R146). -/
theorem State.outputLineStart_controlSteps (background : List Rgb) (s : State) :
    s.ControlSteps (s.outputLineStart background) := by
  rw [State.outputLineStart_eq, State.clockLine_eq]
  refine Relation.ReflTransGen.trans ?_ (State.sampleFlip_controlSteps _)
  have hcomposed := s.composeLine_controls background
  generalize s.composeLine background = u at hcomposed
  refine (State.ControlSteps.of_eq hcomposed).tail
    (.sense (g := { u.group with pulse := u.group.pulse.map (· - 1) }) rfl rfl rfl fun n hn => ?_)
  obtain ⟨m, hm, rfl⟩ := Option.map_eq_some_iff.1 hn
  exact ⟨m, hm, Nat.sub_le ..⟩

/-- The status unit takes a read request at most (R169). -/
theorem State.serveRead_readQ {s : State} (h : s.status.readQ = []) : s.serveRead.1.status.readQ = [] := by
  unfold State.serveRead
  rw [h]
  split
  · exact h
  · exact h
  · exact h
  · rename_i hq
    cases hq

theorem State.openFrame_controlSteps (src : Source) (s : State) : s.ControlSteps (s.openFrame src) := by
  have hread : ∀ u : State, u.status.readQ = [] → u.cutPacket.status.readQ = [] := fun u h => by
    obtain ⟨n, k, hcut⟩ := u.cutPacket_cases
    rwa [hcut]
  obtain ⟨k, st, d, h, -⟩ := s.openFrame_cases src
  have hempty : s.status.readQ = [] → st.readQ = [] := fun hq => by
    have hopen : (s.openFrame src).status.readQ = [] := State.serveRead_readQ (hread _ hq)
    rwa [h] at hopen
  rw [h]
  exact .single (.queue fun _ ⟨htable, hhot, huploads, hq⟩ => ⟨htable, hhot, huploads, hempty hq⟩)

/-- An output frame start: the pop that may be due, the frame opened, the update, the group sync unit's count and
decision, and scene settled (R15, R130, R141). -/
theorem State.outputFrameStart_controlSteps (src : Source) (s : State) : s.ControlSteps (s.outputFrameStart src) := by
  have hbegin : s.ControlSteps (s.beginFrame src) :=
    ((s.popIfDue_controlSteps.trans (State.openFrame_controlSteps src _)).trans
      (State.frameUpdate_controlSteps _)).trans (State.groupFrameStart_controlSteps _)
  rcases s.outputFrameStart_cases src with ⟨-, h⟩ | ⟨-, h⟩ <;> rw [h]
  · exact hbegin
  · exact hbegin.trans (State.ControlSteps.of_eq (State.settleScene_controls _))

end Sys2Proof.Machine

/-! SUPPORT. Image, store and every command as steps of the controls; the laws of page stack and armed record. -/

namespace Sys2Proof.Machine

/-! ### The image (R174, R175) -/

theorem LoadOutcome.storeState_ne_loading (o : LoadOutcome) : o.storeState ≠ .loading := by
  cases o <;> exact StoreState.noConfusion

/-- While the load runs, one application of the loader writes role and participation at most (R174). -/
theorem loadAct_controlSteps (a : ImageAct) {s : State} (hload : s.loading = true) :
    s.ControlSteps (loadAct a s) ∧ (loadAct a s).loading = true := by
  cases a with
  | config f =>
    refine ⟨.single (.configure fun _ hnot => ?_), hload⟩
    cases hload.symm.trans hnot
  | entry table i bs =>
    simp only [loadAct]
    split <;> exact ⟨.refl, hload⟩
  | sector t n bs => exact ⟨.refl, hload⟩

theorem recallAct_controls (a : ImageAct) (s : State) : (recallAct a s).controls = s.controls := by
  unfold recallAct
  repeat' split
  all_goals rfl

theorem State.applyImage_loadAct_controlSteps (n : Nat) {s : State} (hload : s.loading = true) :
    s.ControlSteps (s.applyImage loadAct n) :=
  (s.applyImage_keeps (P := fun u => s.ControlSteps u ∧ u.loading = true) n
    (fun a _ _ ⟨hsteps, hu⟩ => ⟨hsteps.trans (loadAct_controlSteps a hu).1, (loadAct_controlSteps a hu).2⟩)
    (fun _ k ⟨hsteps, hu⟩ => ⟨hsteps.tail (.read k), hu⟩) ⟨.refl, hload⟩).1

/-- A RECALL's work on the image moves its place in the image alone (R175). -/
theorem State.applyImage_recallAct_controls (n : Nat) (s : State) :
    ∃ k, (s.applyImage recallAct n).controls = { s.controls with store := { s.store with imagePos := k } } :=
  s.applyImage_keeps (P := fun u => ∃ k, u.controls = { s.controls with store := { s.store with imagePos := k } }) n
    (fun a _ u ⟨k, hu⟩ => ⟨k, (recallAct_controls a u).trans hu⟩)
    (fun _ k ⟨_, hu⟩ =>
      ⟨k, congrArg (fun c : Controls => { c with store := { c.store with imagePos := k } }) hu⟩) ⟨s.store.imagePos, rfl⟩

theorem State.loadEnds_controlSteps {s : State} (hload : s.loading = true) : s.ControlSteps s.loadEnds := by
  have himage : s.ControlSteps (s.applyImageRest loadAct) := State.applyImage_loadAct_controlSteps _ hload
  unfold State.loadEnds
  generalize s.applyImageRest loadAct = u at himage ⊢
  cases s.imageOutcome with
  | noStore => exact himage.tail (.outcome (by decide))
  | unprogrammed => exact himage.tail (.outcome (by decide))
  | failed => exact himage.tail (.outcome (by decide))
  | loaded tag =>
    exact himage.tail (.tag tag) |>.tail (.outcome (by decide))

/-- The end of a RECALL has its outcome and leaves RECALLING (R175). -/
theorem State.recallEnds_controlSteps {s : State} (hphase : s.scene.phase = .recalling) :
    s.ControlSteps s.recallEnds := by
  have himage : s.ControlSteps ((s.applyImageRest recallAct).setStoreState s.imageOutcome.storeState) ∧
      ((s.applyImageRest recallAct).setStoreState s.imageOutcome.storeState).scene.phase = .recalling := by
    obtain ⟨k, hk⟩ := s.applyImage_recallAct_controls s.imageRest.length
    have hread : s.ControlSteps (s.applyImageRest recallAct) := by
      rw [State.ControlSteps, State.applyImageRest, hk]
      exact .single (.read k)
    have hscene : (s.applyImageRest recallAct).scene = s.scene := congrArg Controls.scene hk
    exact ⟨hread.tail (.outcome s.imageOutcome.storeState_ne_loading),
      by rw [State.setStoreState_scene, hscene, hphase]⟩
  unfold State.recallEnds
  generalize (s.applyImageRest recallAct).setStoreState s.imageOutcome.storeState = u at himage ⊢
  obtain ⟨hsteps, hu⟩ := himage
  have henter : ∀ p, p ∈ [Phase.settled, .seeding, .editing, .recalling] → s.ControlSteps (u.enter p) := fun p hp =>
    hsteps.tail (.enter (c := u.controls) (by simp [State.controls, hu]) hp (by simp [State.controls, hu]))
  cases s.imageOutcome with
  | loaded tag => exact henter .editing (by decide)
  | noStore | unprogrammed | failed => exact henter .settled (by decide)

theorem State.settleLoad_controlSteps (s : State) : s.ControlSteps s.settleLoad := by
  unfold State.settleLoad
  split
  · rename_i hdue
    unfold State.loadDue at hdue
    exact State.loadEnds_controlSteps (Bool.and_eq_true_iff.1 hdue).1
  · exact .refl

/-! ### A save (R176, R177) -/

/-- A save that writes goes on, behind the header's place (R177). -/
theorem State.setSave_controlSteps {s : State} {j j' : SaveJob} {r : SaveJob × List Host.Cell}
    (hj : s.store.save = some j) (hseeded : j.seeded = true) (hkeeps : SaveKeeps (j, s.store.flash) r)
    (haddr : j'.addr = r.1.addr) : s.ControlSteps (s.setSave (j', r.2)) :=
  .single (.program hj hseeded fun h => ⟨haddr ▸ h.trans hkeeps.addr, hkeeps.header h⟩)

theorem State.saveGoesOn_controlSteps (s : State) : s.ControlSteps s.saveGoesOn := by
  rcases s.saveGoesOn_cases with ⟨-, h⟩ | ⟨j, -, hj, hseeded, h⟩ <;> rw [h]
  exact State.setSave_controlSteps hj hseeded (saveSome_keeps s.stagingBank _ (j, s.store.flash)) rfl

theorem State.saveSector_controlSteps {s : State} {j : SaveJob} (hj : s.store.save = some j) (hseeded : j.seeded = true)
    (area : Nat) (rest : List Nat) : s.ControlSteps (s.saveSector j area rest) := by
  have hkeeps := saveAll_keeps s.stagingBank j s.store.flash
  unfold State.saveSector
  dsimp only
  generalize saveAll s.stagingBank j s.store.flash = r at hkeeps ⊢
  split <;> refine State.setSave_controlSteps hj hseeded hkeeps ?_ <;> split <;> rfl

theorem State.background_controlSteps (s : State) : s.ControlSteps s.background := by
  unfold State.background
  split
  · rename_i hload
    exact State.applyImage_loadAct_controlSteps _ hload
  · split
    · obtain ⟨k, hk⟩ := s.applyImage_recallAct_controls (Config.loaderPace s.tick)
      have hread := Controls.Step.read (c := s.controls) k
      exact .single (hk ▸ hread)
    · exact s.saveGoesOn_controlSteps

/-- What stands before a command, in steps of the controls (log 4). -/
theorem State.Before.controlSteps {s u : State} (h : s.Before u) : s.ControlSteps u := by
  have hload := s.settleLoad_controlSteps
  cases h with
  | settleLoad => exact hload
  | prelude =>
    exact ((hload.trans (State.settleHold_controlSteps _)).trans (State.settleCounters_controlSteps _)).trans
      (State.background_controlSteps _)
  | rasterPrelude =>
    exact (hload.trans (State.settleCounters_controlSteps _)).trans (State.background_controlSteps _)

/-! ### The commands of the table queue (R121 to R128, R175 to R178) -/

/-- A command at the head of the table queue of an idle engine. -/
theorem State.tableHead_eq_some {s : State} {c : TableCmd} (h : s.tableHead = some c) :
    s.engineBusy = false ∧ ∃ q, s.scene.tableQ = c :: q := by
  unfold State.tableHead at h
  split at h
  · cases h
  · rename_i hbusy
    exact ⟨by simpa using hbusy, List.head?_eq_some_iff.1 h⟩

theorem State.takeHead_controlSteps (s : State) : s.ControlSteps s.takeHead :=
  .single (.queue fun _ ⟨htable, hhot, huploads, hread⟩ => ⟨congrArg List.tail htable, hhot, huploads, hread⟩)

/-- A change of scene state made by a command at the head of the table queue. -/
theorem State.enter_takeHead_controlSteps {s : State} {p : Phase} (hfrom : s.scene.phase = .settled)
    (hto : p ∈ [Phase.settled, .seeding, .editing, .recalling]) (hhead : s.scene.tableQ ≠ []) :
    s.ControlSteps (s.takeHead.enter p) := by
  have henter : s.ControlSteps (s.enter p) :=
    .single (.enter (c := s.controls) (by simp [State.controls, hfrom]) hto fun _ => hhead)
  exact henter.trans (State.takeHead_controlSteps (s.enter p))

theorem State.openStage_controlSteps {s : State} (hhead : s.scene.tableQ ≠ []) :
    s.ControlSteps s.takeHead.openStage := by
  unfold State.openStage
  split
  · rename_i hphase
    exact State.enter_takeHead_controlSteps hphase (by decide) hhead
  · exact s.takeHead_controlSteps

theorem State.startRecall_controlSteps {s : State} (hhead : s.scene.tableQ ≠ []) :
    s.ControlSteps s.takeHead.startRecall := by
  unfold State.startRecall
  split
  · exact s.takeHead_controlSteps
  · split
    · exact s.takeHead_controlSteps
    · rename_i hphase _
      have hrecalling : s.ControlSteps (s.takeHead.enter .recalling) :=
        State.enter_takeHead_controlSteps (not_not.1 hphase) (by decide) hhead
      exact hrecalling.tail (.read 0)

/-- A store controller that is not busy runs no protect program (R178). -/
theorem State.protectJob_of_not_busy {s : State} (h : ¬s.storeBusy = true) : s.store.protectJob = none := by
  simp only [State.storeBusy, Bool.or_eq_true, not_or, Option.not_isSome_iff_eq_none] at h
  exact h.1

theorem State.startSave_controlSteps {s : State} (hhead : s.scene.tableQ ≠ []) :
    s.ControlSteps s.takeHead.startSave := by
  unfold State.startSave
  split
  · exact s.takeHead_controlSteps
  · split
    · exact s.takeHead_controlSteps
    · split
      · exact s.takeHead_controlSteps
      · split
        · exact s.takeHead_controlSteps
        · rename_i hphase hbusy _ _
          have hsave : s.ControlSteps
              { s.enter .saving with
                store :=
                  { s.store with
                    save := some ⟨false, [], s.pinnedAreas, 0, 0, [], 0xFFFF, s.pinnedAreas.length⟩ } } :=
            .single (.beginSave (not_not.1 hphase) hhead (State.protectJob_of_not_busy (s := s) hbusy) rfl)
          exact hsave.trans (State.takeHead_controlSteps _)

theorem State.writeTable_controls (w : TableWriteCmd) (s : State) : (s.writeTable w).controls = s.controls := by
  unfold State.writeTable
  repeat' split
  all_goals rfl

/-- An accepted FLIP_ARM makes a record whose entry page is one of the pages (R125). -/
theorem FlipArmCmd.record_entryPage {f : FlipArmCmd} (h : f.inRange = true) {p : Nat}
    (hp : f.record.entryPage = some p) : p ≤ 7 := by
  simp only [FlipArmCmd.inRange, Bool.and_eq_true, Bool.or_eq_true, decide_eq_true_eq] at h
  obtain ⟨-, hpage⟩ := h
  simp only [FlipArmCmd.record] at hp
  split at hp
  · cases hp
  · cases hp
    omega

/-- The armed state does not depend on the scene state that it is entered from. -/
theorem State.enterArmed_controls_of_draining (r : Armed) (s : State) :
    State.controls (State.enterArmed { s with scene := { s.scene with phase := .draining, armed := some r } }) =
      State.controls (State.enterArmed { s with scene := { s.scene with armed := some r } }) := by
  obtain ⟨mode, window, force, tag, entryPage, ahead⟩ := r
  cases mode <;> rfl

theorem State.armFlip_controlSteps (f : FlipArmCmd) (s : State) : s.ControlSteps (s.armFlip f) := by
  unfold State.armFlip
  split
  · exact .refl
  · split
    · exact .refl
    · split
      · exact .refl
      · rename_i hphase hrange hmode
        have hgroup : f.record.mode = .group → s.group.participation = true := fun h => by
          by_contra hpart
          refine hmode ⟨?_, by simpa using hpart⟩
          by_contra hnot
          simp [FlipArmCmd.record, hnot] at h
        have hdraining : s.ControlSteps
            { s with scene := { s.scene with phase := .draining, armed := some f.record } } :=
          .single (.arm (not_not.1 hphase) (fun p => FlipArmCmd.record_entryPage (by simpa using hrange)) hgroup)
        dsimp only
        split
        · rename_i hahead
          have harmed := State.enterArmed_controlSteps
            (s := { s with scene := { s.scene with phase := .draining, armed := some f.record } }) rfl
            (by rintro r ⟨⟩; exact hahead)
          rw [State.ControlSteps, State.enterArmed_controls_of_draining] at harmed
          exact hdraining.trans harmed
        · exact hdraining

theorem State.cancelFlip_controlSteps (s : State) : s.ControlSteps s.cancelFlip := by
  have hback : s.scene.phase.armed = true → s.ControlSteps (s.disarm .editing) := fun harmed =>
    State.disarm_controlSteps (.inl harmed) (.inl rfl)
  unfold State.cancelFlip
  split
  · exact hback (by simp [*, Phase.armed])
  · exact hback (by simp [*, Phase.armed])
  · exact hback (by simp [*, Phase.armed])
  all_goals exact .refl

theorem State.discardStage_controlSteps (s : State) : s.ControlSteps s.discardStage := by
  have hback : s.scene.phase.armed = true ∨ s.scene.phase = .editing → s.ControlSteps (s.disarm .settled) :=
    fun hfrom => State.disarm_controlSteps hfrom (.inr rfl)
  unfold State.discardStage
  split
  · exact hback (by simp [*, Phase.armed])
  · exact hback (by simp [*, Phase.armed])
  · exact hback (by simp [*, Phase.armed])
  · exact hback (by simp [*])
  all_goals exact .refl

/-- A CONFIG_WRITE taken writes neither role nor participation while a flip is armed (R128). -/
theorem State.writeConfig_controlSteps (mask : Nat) (data : List Byte) (s : State) :
    s.ControlSteps (s.writeConfig mask data) := by
  unfold State.writeConfig
  split
  · exact .refl
  · rename_i hfree
    refine .single (.configure fun harmed _ => ?_)
    have hbits : mask.testBit 7 = false ∧ mask.testBit 8 = false := by
      have harmed : s.scene.phase.armed = true := harmed
      simpa [harmed] using hfree
    simp [configFields, maskedField, hbits]

/-- A STORE_PROTECT taken begins a protect program, beside which no save runs (R121, R178). -/
theorem State.startProtect_controlSteps (named : BitVec 16) {s : State} (hidle : s.engineBusy = false) :
    s.ControlSteps (s.takeHead.startProtect named) := by
  refine s.takeHead_controlSteps.trans ?_
  have hphase : s.scene.phase ≠ .saving := fun h => by simp [State.engineBusy, h] at hidle
  unfold State.startProtect
  split
  · exact .refl
  · split
    · exact .refl
    · exact .single (.protect (.inl hphase) rfl rfl)

end Sys2Proof.Machine

/-! SUPPORT. Every command as steps of the controls; from it the laws of page stack and armed record. -/

namespace Sys2Proof.Machine

/-! ### The commands of the table queue -/

theorem execStageOpen_controlSteps {s t : State} (h : execStageOpen s = .next t) : s.prelude.ControlSteps t := by
  unfold execStageOpen at h
  generalize s.prelude = u at h ⊢
  simp only at h
  split at h <;> cases h
  · rename_i hhead
    obtain ⟨-, q, hq⟩ := State.tableHead_eq_some hhead
    exact State.openStage_controlSteps (by simp [hq])
  · exact .refl

theorem execStoreSave_controlSteps {s t : State} (h : execStoreSave s = .next t) : s.prelude.ControlSteps t := by
  unfold execStoreSave at h
  generalize s.prelude = u at h ⊢
  simp only at h
  split at h <;> cases h
  · rename_i hhead
    obtain ⟨-, q, hq⟩ := State.tableHead_eq_some hhead
    exact State.startSave_controlSteps (by simp [hq])
  · exact .refl

theorem execStoreRecall_controlSteps {s t : State} (h : execStoreRecall s = .next t) : s.prelude.ControlSteps t := by
  unfold execStoreRecall at h
  generalize s.prelude = u at h ⊢
  simp only at h
  split at h <;> cases h
  · rename_i hhead
    obtain ⟨-, q, hq⟩ := State.tableHead_eq_some hhead
    exact State.startRecall_controlSteps (by simp [hq])
  · exact .refl

theorem execTableWrite_controlSteps {s t : State} (h : execTableWrite s = .next t) : s.prelude.ControlSteps t := by
  unfold execTableWrite at h
  generalize s.prelude = u at h ⊢
  simp only at h
  split at h <;> cases h
  · exact u.takeHead_controlSteps.trans (State.ControlSteps.of_eq (State.writeTable_controls _ _))
  · exact .refl

theorem execFlipArm_controlSteps {s t : State} (h : execFlipArm s = .next t) : s.prelude.ControlSteps t := by
  unfold execFlipArm at h
  generalize s.prelude = u at h ⊢
  simp only at h
  split at h <;> cases h
  · exact u.takeHead_controlSteps.trans (State.armFlip_controlSteps _ _)
  · exact .refl

theorem execFlipCancel_controlSteps {s t : State} (h : execFlipCancel s = .next t) : s.prelude.ControlSteps t := by
  unfold execFlipCancel at h
  generalize s.prelude = u at h ⊢
  simp only at h
  split at h <;> cases h
  · exact u.takeHead_controlSteps.trans (State.cancelFlip_controlSteps _)
  · exact .refl

theorem execStageDiscard_controlSteps {s t : State} (h : execStageDiscard s = .next t) : s.prelude.ControlSteps t := by
  unfold execStageDiscard at h
  generalize s.prelude = u at h ⊢
  simp only at h
  split at h <;> cases h
  · exact u.takeHead_controlSteps.trans (State.discardStage_controlSteps _)
  · exact .refl

theorem execConfigWrite_controlSteps {s t : State} (h : execConfigWrite s = .next t) : s.prelude.ControlSteps t := by
  unfold execConfigWrite at h
  generalize s.prelude = u at h ⊢
  simp only at h
  split at h <;> cases h
  · exact u.takeHead_controlSteps.trans (State.writeConfig_controlSteps _ _ _)
  · exact .refl

theorem execStoreProtect_controlSteps {s t : State} (h : execStoreProtect s = .next t) : s.prelude.ControlSteps t := by
  unfold execStoreProtect at h
  generalize s.prelude = u at h ⊢
  simp only at h
  split at h <;> cases h
  · rename_i hhead
    exact State.startProtect_controlSteps _ (State.tableHead_eq_some hhead).1
  · exact .refl

/-! ### The library and the ends of the store controller's operations -/

theorem execFillGrant_controls {s t : State} (h : execFillGrant s = .next t) : t.controls = s.prelude.controls := by
  unfold execFillGrant at h
  generalize s.prelude = u at h ⊢
  simp only at h
  split at h <;> cases h <;> rfl

theorem execFillCompletion_controls {s t : State} (h : execFillCompletion s = .next t) :
    t.controls = s.prelude.controls := by
  unfold execFillCompletion at h
  generalize s.prelude = u at h ⊢
  simp only at h
  split at h <;> cases h
  · rfl
  · exact (State.completeFill_buildsTo ..).controls

/-- A grant takes an upload from its queue and reports a disposal (R111, R115). -/
theorem State.grantUpload_controlSteps {u : Upload} {rest : List Upload} {s : State}
    (hu : s.library.uploads = u :: rest) : s.ControlSteps (s.grantUpload u rest) := by
  obtain ⟨huploads, -, hscene, -, hstore⟩ := s.grantUpload_spec u rest
  have hgroup : (s.grantUpload u rest).group = s.group := by
    unfold State.grantUpload
    dsimp only
    split <;> rfl
  have hread : (s.grantUpload u rest).status.readQ = s.status.readQ := by
    unfold State.grantUpload
    dsimp only
    split <;> rfl
  have hsteps : Relation.ReflTransGen Controls.Step s.controls
      ⟨{ s.scene with
          tableQ := s.scene.tableQ.map TableCmd.disposed
          armed := s.scene.armed.map fun r => { r with uploadsAhead := r.uploadsAhead - 1 } },
        s.group, s.store, rest, s.status.readQ⟩ :=
    .tail (.single .dispose) (.queue fun _ hempty => absurd (hu.symm.trans hempty.2.2.1) (List.cons_ne_nil u rest))
  rw [State.ControlSteps]
  unfold State.controls at hsteps ⊢
  rwa [hscene, hgroup, hstore, huploads, hread]

theorem execTileWrite_controlSteps {s t : State} (h : execTileWrite s = .next t) : s.prelude.ControlSteps t := by
  unfold execTileWrite at h
  generalize s.prelude = v at h ⊢
  simp only at h
  split at h
  · rename_i hhead
    split at h <;> cases h
    · exact State.grantUpload_controlSteps hhead
    · exact .refl
  · cases h
    exact .refl

theorem execSaveReadGrant_controlSteps {s t : State} (h : execSaveReadGrant s = .next t) :
    s.prelude.ControlSteps t := by
  unfold execSaveReadGrant at h
  generalize s.prelude = u at h ⊢
  simp only at h
  split at h
  · rename_i j _ hj
    split at h
    · cases h
      exact .refl
    · split at h <;> cases h
      · rename_i hready
        simp only [Bool.and_eq_true] at hready
        exact State.saveSector_controlSteps hj hready.1.1 _ _
      · exact .refl
  · cases h
    exact .refl

theorem execSaveCompletion_controlSteps {s t : State} (h : execSaveCompletion s = .next t) :
    s.prelude.ControlSteps t := by
  unfold execSaveCompletion at h
  generalize s.prelude = u at h ⊢
  simp only at h
  split at h
  · rename_i hphase _
    split at h <;> cases h
    · exact .single (.endSave hphase (.inr (by decide)))
    · exact .refl
  · cases h
    exact .refl

/-- The seed copy of a save erases the header's place with sector 0, and the sections lie behind it (R177). -/
theorem State.beginSaving_controlSteps {s : State} {j : SaveJob} (hj : s.store.save = some j) :
    s.ControlSteps (s.beginSaving j) :=
  .single (.seedSave hj le_rfl fun a ha => by rw [memRead_flashErase, if_pos (by omega)]; rfl)

theorem execSeedCompletion_controlSteps {s t : State} (h : execSeedCompletion s = .next t) :
    s.prelude.ControlSteps t := by
  unfold execSeedCompletion at h
  generalize s.prelude = u at h ⊢
  simp only at h
  split at h
  · rename_i hphase
    cases h
    exact .single (.enter (c := u.controls) (by simp [State.controls, hphase]) (by decide)
      (by simp [State.controls, hphase]))
  · rename_i j _ hj
    split at h <;> cases h
    · exact .refl
    · exact State.beginSaving_controlSteps (s := u.seedCopy) hj
  · cases h
    exact .refl

theorem execRecallCompletion_controlSteps {s t : State} (h : execRecallCompletion s = .next t) :
    s.prelude.ControlSteps t := by
  unfold execRecallCompletion at h
  generalize s.prelude = u at h ⊢
  simp only at h
  split at h <;> cases h
  · rename_i hphase
    exact State.recallEnds_controlSteps hphase
  · exact .refl

theorem execStoreReadCompletion_controls {s t : State} (h : execStoreReadCompletion s = .next t) :
    t.controls = s.prelude.controls := by
  unfold execStoreReadCompletion at h
  generalize s.prelude = u at h ⊢
  simp only at h
  split at h <;> cases h <;> rfl

theorem State.protectEnds_controlSteps (s : State) : s.ControlSteps s.protectEnds := by
  unfold State.protectEnds
  split
  · exact .refl
  · rename_i hjob
    exact .single (.protect (.inr (by simp [State.controls, hjob])) rfl rfl)

theorem State.programTimeout_controlSteps (s : State) : s.ControlSteps s.programTimeout := by
  unfold State.programTimeout
  split
  · rename_i hphase _
    split
    · obtain ⟨k, m, h⟩ := s.saveStops_cases
      rw [h]
      exact .single (.endSave hphase (.inl rfl))
    · exact .refl
  · rename_i hjob _
    obtain ⟨k, m, h⟩ := s.protectStops_cases
    rw [h]
    exact .single (.protect (.inr (by simp [State.controls, hjob])) rfl rfl)
  · exact .refl

/-! ### The receiver -/

/-- Outside the load a packet goes to the tail of its queue (R155). -/
theorem dispatch_controlSteps (k : Packet) {s : State} (hload : s.loading = false) :
    s.ControlSteps (dispatch k s) ∧ (dispatch k s).loading = false := by
  have hnot : ∀ {P : Prop}, s.controls.loading = true → s.controls.queuesEmpty → P := fun h =>
    absurd h (ne_true_of_eq_false hload)
  rcases dispatch_cases k s with ⟨c, -, -, h⟩ | ⟨c, -, -, h⟩ | ⟨u, -, -, h⟩ | ⟨r, -, -, h⟩ | ⟨f, h⟩ <;> rw [h]
  · exact ⟨.single (.queue hnot), hload⟩
  · exact ⟨.single (.queue hnot), hload⟩
  · exact ⟨.single (.queue hnot), hload⟩
  · exact ⟨.single (.queue hnot), hload⟩
  · exact ⟨.refl, hload⟩

theorem State.receiveControl_controlSteps (f : InFrame) (cols : List Rgb) (s : State) :
    s.ControlSteps (s.receiveControl f cols) := by
  unfold State.receiveControl
  dsimp only
  split
  · exact .refl
  · split
    · exact .refl
    · rename_i hload
      generalize hcounted : ({ s with raster := _ } : State) = v at hload ⊢
      have hs : s.ControlSteps v := State.ControlSteps.of_eq (by rw [← hcounted]; rfl)
      have hparsed : ∀ n bs, s.ControlSteps (parseFrom n bs v) := fun n bs =>
        (parseFrom_keeps (P := fun u => s.ControlSteps u ∧ u.loading = false) (fun _ _ hu => hu)
          (fun k u ⟨hsteps, hu⟩ => ⟨hsteps.trans (dispatch_controlSteps k hu).1, (dispatch_controlSteps k hu).2⟩) n bs
          ⟨hs, eq_false_of_ne_true hload⟩).1
      exact hparsed _ _

theorem execControlLine_controlSteps {cols : List Rgb} {s t : State} (h : execControlLine cols s = .next t) :
    s.rasterPrelude.ControlSteps t := by
  unfold execControlLine at h
  generalize s.rasterPrelude = u at h ⊢
  simp only at h
  split at h <;> cases h
  · exact .refl
  · exact (State.receiveControl_controlSteps _ _ _).trans (State.ControlSteps.of_eq (State.blankIfInput_controls _))

theorem execBlankingLine_controls {s t : State} (h : execBlankingLine s = .next t) :
    t.controls = s.rasterPrelude.controls := by
  unfold execBlankingLine at h
  generalize s.rasterPrelude = u at h ⊢
  simp only at h
  split at h <;> cases h
  · rfl
  · exact State.blankIfInput_controls _

theorem execFallbackBlankingLinePeriod_controls {s t : State} (h : execFallbackBlankingLinePeriod s = .next t) :
    t.controls = s.rasterPrelude.controls := by
  unfold execFallbackBlankingLinePeriod at h
  generalize s.rasterPrelude = u at h ⊢
  simp only at h
  split at h <;> cases h <;> rfl

/-! ### Lines and frame starts -/

/-- The levels that the other parts leave on the group lines (R139). -/
theorem State.seeFlip_controlSteps (flip : Bool) (s : State) : s.ControlSteps (s.seeFlip flip) :=
  .single (.sense rfl rfl rfl fun n hn => ⟨n, hn, le_rfl⟩)

theorem State.seeReady_controlSteps (ready : Bool) (s : State) : s.ControlSteps (s.seeReady ready) :=
  .single (.sense rfl rfl rfl fun n hn => ⟨n, hn, le_rfl⟩)

theorem execActiveLine_controlSteps {cols : List Rgb} {flip : Bool} {s t : State}
    (h : execActiveLine cols flip s = .next t) : s.rasterPrelude.ControlSteps t := by
  unfold execActiveLine at h
  generalize s.rasterPrelude = u at h ⊢
  have hseen := u.seeFlip_controlSteps flip
  simp only at h
  split at h
  · cases h
    exact hseen
  · rename_i f _
    have hmeasured : u.ControlSteps ((u.seeFlip flip).measureLine f cols.length) := hseen
    split at h <;> cases h
    · exact hmeasured.trans (State.outputLineStart_controlSteps _ _)
    · exact hmeasured

theorem execFallbackLineStart_controlSteps {flip : Bool} {s t : State} (h : execFallbackLineStart flip s = .next t) :
    s.rasterPrelude.ControlSteps t := by
  unfold execFallbackLineStart at h
  generalize s.rasterPrelude = u at h ⊢
  have hseen := u.seeFlip_controlSteps flip
  simp only at h
  split at h <;> cases h
  · exact hseen
  · have hperiod : u.ControlSteps
        { u.seeFlip flip with raster := { u.raster with linePeriods := u.raster.linePeriods + 1 } } := hseen
    exact hperiod.trans (State.outputLineStart_controlSteps _ _)

theorem execFallbackFrameStart_controlSteps {ready : Bool} {s t : State}
    (h : execFallbackFrameStart ready s = .next t) : s.rasterPrelude.ControlSteps t := by
  unfold execFallbackFrameStart at h
  generalize s.rasterPrelude = u at h ⊢
  have hseen := u.seeReady_controlSteps ready
  simp only at h
  split at h <;> cases h
  · exact hseen
  · exact hseen.trans (State.outputFrameStart_controlSteps _ _)

theorem State.loseInput_controlSteps (s : State) : s.ControlSteps s.loseInput := by
  cases hlock : s.raster.lock.follows
  · rw [State.loseInput_of_not_follows hlock]
    exact State.ControlSteps.of_eq rfl
  · rw [State.loseInput_of_follows hlock]
    exact (State.ControlSteps.of_eq (t := s.lockLost) (State.cutLine_controls _)).trans
      (State.outputFrameStart_controlSteps .fallback _)

theorem execLossIntervalExpiry_controlSteps {ready : Bool} {s t : State}
    (h : execLossIntervalExpiry ready s = .next t) : s.rasterPrelude.ControlSteps t := by
  unfold execLossIntervalExpiry at h
  generalize s.rasterPrelude = u at h ⊢
  have hseen := u.seeReady_controlSteps ready
  simp only at h
  split at h <;> cases h
  · exact hseen
  · exact hseen.trans (State.loseInput_controlSteps _)

theorem State.inputFrameOutput_controlSteps (before : Lock) (s : State) :
    s.ControlSteps (s.inputFrameOutput before) := by
  unfold State.inputFrameOutput
  split
  · split
    · exact s.outputFrameStart_controlSteps .input
    · exact (State.ControlSteps.of_eq s.cutLine_controls).trans (State.outputFrameStart_controlSteps .input _)
  · split
    · exact s.outputFrameStart_controlSteps .fallback
    · exact .refl

theorem execInputFrameStart_controlSteps {ready : Bool} {s t : State} (h : execInputFrameStart ready s = .next t) :
    s.rasterPrelude.ControlSteps t := by
  unfold execInputFrameStart at h
  generalize s.rasterPrelude = u at h ⊢
  cases h
  exact ((u.seeReady_controlSteps ready).trans (State.ControlSteps.of_eq (State.judgeFrame_controls _))).trans
    (State.inputFrameOutput_controlSteps _ _)

/-! ### POWER_ON, RESTART, LOAD_COMPLETION -/

/-- A reset of every block, and the first fallback frame behind it (R138, R173, R179). -/
theorem State.resetBlocks_controlSteps (s u : State) : s.ControlSteps (u.resetBlocks.outputFrameStart .fallback) :=
  (Relation.ReflTransGen.single (.reset rfl rfl rfl)).trans
    (State.outputFrameStart_controlSteps .fallback u.resetBlocks)

theorem execPowerOn_controlSteps {p : Straps} {s t : State} (h : execPowerOn p s = .next t) : s.ControlSteps t := by
  obtain ⟨u, rfl⟩ := execPowerOn_resets h
  exact s.resetBlocks_controlSteps u

theorem execRestart_controlSteps {s t : State} (h : execRestart s = .next t) : s.rasterPrelude.ControlSteps t := by
  unfold execRestart at h
  generalize s.rasterPrelude = u at h ⊢
  simp only at h
  split at h <;> cases h
  · exact u.resetBlocks_controlSteps _
  · exact .refl

theorem execLoadCompletion_controlSteps {s t : State} (h : execLoadCompletion s = .next t) : s.ControlSteps t := by
  have hpre : s.ControlSteps s.prelude := State.Before.prelude.controlSteps
  unfold execLoadCompletion at h
  generalize s.prelude = u at h hpre
  split at h
  · cases h
    exact s.settleLoad_controlSteps
  · simp only at h
    split at h <;> cases h
    · rename_i hload
      exact hpre.trans (State.loadEnds_controlSteps hload)
    · exact hpre

/-! ### Every command -/

/-- Every command is a sequence of steps of the controls. -/
theorem exec_controlSteps {c : Instr} {s t : State} (h : exec c s = .next t) : s.ControlSteps t := by
  have hload : s.ControlSteps s.settleLoad := s.settleLoad_controlSteps
  have hpre : s.ControlSteps s.prelude := State.Before.prelude.controlSteps
  have hraster : s.ControlSteps s.rasterPrelude := State.Before.rasterPrelude.controlSteps
  unfold exec at h
  cases c with
  | powerOn p => exact execPowerOn_controlSteps h
  | restart => exact hraster.trans (execRestart_controlSteps h)
  | loadCompletion => exact execLoadCompletion_controlSteps h
  | inputFrameStart ready => exact hraster.trans (execInputFrameStart_controlSteps h)
  | lossIntervalExpiry ready => exact hraster.trans (execLossIntervalExpiry_controlSteps h)
  | fallbackFrameStart ready => exact hraster.trans (execFallbackFrameStart_controlSteps h)
  | activeLine cols flip => exact hraster.trans (execActiveLine_controlSteps h)
  | fallbackLineStart flip => exact hraster.trans (execFallbackLineStart_controlSteps h)
  | controlLine cols => exact hraster.trans (execControlLine_controlSteps h)
  | blankingLine => exact hraster.trans (State.ControlSteps.of_eq (execBlankingLine_controls h))
  | fallbackBlankingLinePeriod =>
    exact hraster.trans (State.ControlSteps.of_eq (execFallbackBlankingLinePeriod_controls h))
  | fillGrant => exact hpre.trans (State.ControlSteps.of_eq (execFillGrant_controls h))
  | fillCompletion => exact hpre.trans (State.ControlSteps.of_eq (execFillCompletion_controls h))
  | tileWrite => exact hpre.trans (execTileWrite_controlSteps h)
  | saveReadGrant => exact hpre.trans (execSaveReadGrant_controlSteps h)
  | saveCompletion => exact hpre.trans (execSaveCompletion_controlSteps h)
  | seedCompletion => exact hpre.trans (execSeedCompletion_controlSteps h)
  | stageOpen => exact hpre.trans (execStageOpen_controlSteps h)
  | tableWrite => exact hpre.trans (execTableWrite_controlSteps h)
  | flipArm => exact hpre.trans (execFlipArm_controlSteps h)
  | flipCancel => exact hpre.trans (execFlipCancel_controlSteps h)
  | stageDiscard => exact hpre.trans (execStageDiscard_controlSteps h)
  | configWrite => exact hpre.trans (execConfigWrite_controlSteps h)
  | storeSave => exact hpre.trans (execStoreSave_controlSteps h)
  | storeRecall => exact hpre.trans (execStoreRecall_controlSteps h)
  | storeProtect => exact hpre.trans (execStoreProtect_controlSteps h)
  | recallCompletion => exact hpre.trans (execRecallCompletion_controlSteps h)
  | storeReadCompletion => exact hpre.trans (State.ControlSteps.of_eq (execStoreReadCompletion_controls h))
  | protectProgramCompletion =>
    cases h
    exact hpre.trans (State.protectEnds_controlSteps _)
  | storeProgramTimeout =>
    cases h
    exact hpre.trans (State.programTimeout_controlSteps _)
  | pageHoldExpiry =>
    cases h
    exact hload.trans (State.settleHold_controlSteps _)
  | uploadsAheadDrained =>
    cases h
    exact hload.trans (State.settleDrained_controlSteps _)
  | creditWindowRestart =>
    cases h
    exact hload.trans (State.ControlSteps.of_eq (State.settleCredit_controls _))
  | leaderWindowEnd =>
    cases h
    exact hload.trans (State.settleLeaderWindow_controlSteps _)
  | memberWindowEnd =>
    cases h
    exact hload.trans (State.settleMemberWindow_controlSteps _)
  | pulseEnd =>
    cases h
    exact hload.trans (State.settlePulse_controlSteps _)

/-- A law that each of these steps keeps, every step of the part keeps. -/
theorem step_controls_invariant {P : Controls → Prop} (hP : ∀ {c c' : Controls}, c.Step c' → P c → P c') {s t : State}
    (hs : P s.controls) (h : step s = .next t) : P t.controls := by
  rcases step_cases s t h with ⟨-, rfl⟩ | ⟨c, rest, -, hexec⟩
  · exact hs
  · exact (exec_controlSteps hexec).invariant hP hs

/-! ### O7 and O8 -/

/-- Settles O7: a page or a threshold that a step brings has been checked, or was held before. -/
theorem pageStackAndGenerationStayInRange : Obligations.PageStackAndGenerationStayInRange := by
  intro s t hs h
  rw [State.pageLaw_iff] at hs ⊢
  exact step_controls_invariant Controls.Step.pageLaw hs h

/-- Settles O8: each step of the controls finds the scene state that its change fits. -/
theorem armedRecordFitsTheSceneState : Obligations.ArmedRecordFitsTheSceneState := by
  intro s t hs h
  rw [State.flipLaw_iff] at hs ⊢
  exact step_controls_invariant Controls.Step.flipLaw hs h

end Sys2Proof.Machine

/-! SUPPORT. The counter steps where they are due, and the commands of the table queue that arm a flip or end its
preparation (R113, R125 to R127, R143 to R145). -/

namespace Sys2Proof.Machine

/-! ### The armed states (R126, R141) -/

theorem State.enterArmed_of_local {s : State} {r : Armed} (harmed : s.scene.armed = some r)
    (hmode : r.mode = .localOnly) :
    s.enterArmed = { s with scene := { s.scene with phase := .armedLocal } } := by
  obtain ⟨mode, window, force, tag, entryPage, ahead⟩ := r
  cases hmode
  unfold State.enterArmed
  simp only [harmed]

theorem State.enterArmed_of_group {s : State} {r : Armed} (harmed : s.scene.armed = some r) (hmode : r.mode = .group) :
    s.enterArmed =
      { s with scene := { s.scene with phase := .armedGroup }, group := { s.group with window := some 0 } } := by
  obtain ⟨mode, window, force, tag, entryPage, ahead⟩ := r
  cases hmode
  unfold State.enterArmed
  simp only [harmed]

/-! ### The steps where they are due (log 4) -/

section Due
variable {s : State} (hload : s.loadDue = false)
include hload

theorem execUploadsAheadDrained_of_due {r : Armed} (hphase : s.scene.phase = .draining)
    (harmed : s.scene.armed = some r)
    (hcount : r.uploadsAhead = 0) : exec .uploadsAheadDrained s = .next s.enterArmed := by
  change Host.Outcome.next s.settleLoad.settleDrained = _
  rw [s.settleLoad_of_not_due hload, State.settleDrained, if_pos (by simp [State.drainedDue, hphase, harmed, hcount])]

theorem execCreditWindowRestart_of_due {w : CreditWindow} (hwindow : s.library.window = some w)
    (hend : w.length ≤ w.lines) : exec .creditWindowRestart s = .next s.creditRestarts := by
  change Host.Outcome.next s.settleLoad.settleCredit = _
  rw [s.settleLoad_of_not_due hload, State.settleCredit, if_pos (by simp [State.creditDue, hwindow, hend])]

theorem execPulseEnd_of_due (hpulse : s.group.pulse = some 0) : exec .pulseEnd s = .next s.pulseEnds := by
  change Host.Outcome.next s.settleLoad.settlePulse = _
  rw [s.settleLoad_of_not_due hload, State.settlePulse, if_pos (by simp [State.pulseDue, hpulse])]

variable {r : Armed} {n : Nat} (hphase : s.scene.phase = .armedGroup) (harmed : s.scene.armed = some r)
  (hwindow : s.group.window = some n)
include hphase harmed hwindow

theorem execLeaderWindowEnd_of_due (hrole : s.group.role = .leader) (hone : 1 ≤ n) (hend : r.window ≤ n) :
    exec .leaderWindowEnd s = .next s.leaderWindowEnds := by
  have hdue : s.leaderWindowDue = true := by
    simp [State.leaderWindowDue, State.windowLength, hphase, hrole, hwindow, harmed, hone, hend]
  change Host.Outcome.next s.settleLoad.settleLeaderWindow = _
  rw [s.settleLoad_of_not_due hload, State.settleLeaderWindow, if_pos hdue]

theorem execMemberWindowEnd_of_due (hrole : s.group.role = .member) (hend : r.window + 2 ≤ n) :
    exec .memberWindowEnd s = .next s.memberWindowEnds := by
  have hdue : s.memberWindowDue = true := by
    simp [State.memberWindowDue, State.windowLength, hphase, hrole, hwindow, harmed, hend]
  change Host.Outcome.next s.settleLoad.settleMemberWindow = _
  rw [s.settleLoad_of_not_due hload, State.settleMemberWindow, if_pos hdue]

end Due

theorem State.leaderWindowEnds_of_armed {s : State} {r : Armed} (harmed : s.scene.armed = some r) :
    s.leaderWindowEnds =
      if r.force then (s.raise .flipTimeout).beginPulse.commit else (s.raise .flipTimeout).disarm .editing := by
  simp only [State.leaderWindowEnds, harmed]

/-- A leader taking part holds GRP_FLIP low while no pulse runs (R139, R144). -/
theorem State.releasesFlip_of_leader {s : State} (hrole : s.group.role = .leader) (hpart : s.group.participation = true)
    (hpulse : s.group.pulse = none) : s.releasesFlip = false := by
  simp [State.releasesFlip, State.pulsing, hrole, hpart, hpulse]

/-- A part taking part holds GRP_READY low outside ARMED-group and COMMITTED (R139). -/
theorem State.releasesReady_of_phase {s : State} (hpart : s.group.participation = true)
    (hgroup : s.scene.phase ≠ .armedGroup)
    (hcommitted : s.scene.phase ≠ .committed) : s.releasesReady = false := by
  simp [State.releasesReady, hpart, hgroup, hcommitted]

/-- Settles O40: each step is taken where its counter stands at its end value, and the window ends by force. -/
theorem counterAndWindowStepsAreTakenWhereDue : Obligations.CounterAndWindowStepsAreTakenWhereDue := by
  refine ⟨fun s hload => ⟨fun r hphase harmed hcount => ?_, fun w hwindow hend => ?_, fun hpulse => ?_⟩,
    fun s r n hload hphase harmed hwindow => ?_⟩
  · rw [execUploadsAheadDrained_of_due hload hphase harmed hcount]
    exact ⟨fun hmode => congrArg _ (State.enterArmed_of_local harmed hmode),
      fun hmode => congrArg _ (State.enterArmed_of_group harmed hmode)⟩
  · exact execCreditWindowRestart_of_due hload hwindow hend
  · exact ⟨_, execPulseEnd_of_due hload hpulse, rfl, fun hrole hpart => State.releasesFlip_of_leader hrole hpart rfl⟩
  · have hends := State.leaderWindowEnds_of_armed harmed
    refine ⟨fun hrole hone hend hforce => ?_, fun hrole hone hend hforce => ?_, fun hrole hend => ?_, fun hpart => ?_⟩
    · rw [execLeaderWindowEnd_of_due hload hphase harmed hwindow hrole hone hend, hends, if_pos hforce]
      rfl
    · rw [execLeaderWindowEnd_of_due hload hphase harmed hwindow hrole hone hend, hends,
        if_neg (ne_true_of_eq_false hforce)]
      rfl
    · exact execMemberWindowEnd_of_due hload hphase harmed hwindow hrole hend
    · exact State.releasesReady_of_phase hpart (by rintro ⟨⟩) (by rintro ⟨⟩)

/-! ### A command at the head of the table queue (R121) -/

section Head
variable {s : State} {c : TableCmd} {q : List TableCmd} (hidle : s.engineBusy = false) (hq : s.scene.tableQ = c :: q)
include hq

theorem State.takeHead_of_head : s.takeHead = { s with scene := { s.scene with tableQ := q } } := by
  rw [State.takeHead, hq]
  rfl

include hidle

theorem State.tableHead_of_idle : s.tableHead = some c := by
  simp [State.tableHead, hidle, hq]

end Head

/-! ### FLIP_ARM (R125) -/

theorem execFlipArm_of_head {s : State} {f : FlipArmCmd} {q : List TableCmd} (hquiet : s.quiet = true)
    (hidle : s.engineBusy = false) (hq : s.scene.tableQ = .flipArm f :: q) :
    exec .flipArm s = .next (s.takeHead.armFlip f) := by
  change execFlipArm s = _
  unfold execFlipArm
  rw [s.prelude_of_quiet hquiet]
  simp only [State.tableHead_of_idle hidle hq]

theorem FlipArmCmd.inRange_iff (f : FlipArmCmd) :
    f.inRange = true ↔ f.window ≠ 0 ∧ f.mode ≤ 1 ∧ f.force ≤ 1 ∧ (f.entryPage ≤ 7 ∨ f.entryPage = 0xFF) := by
  simp [FlipArmCmd.inRange, and_assoc]

section ArmFlip
variable {s : State} {f : FlipArmCmd}

theorem State.armFlip_of_phase (hphase : s.scene.phase ≠ .editing) : s.armFlip f = s.refuse 0x12 .state 0 0 :=
  if_pos hphase

variable (hphase : s.scene.phase = .editing)
include hphase

theorem State.armFlip_of_range (hrange : ¬f.inRange = true) : s.armFlip f = s.refuse 0x12 .range 0 0 := by
  rw [State.armFlip, if_neg (not_not.2 hphase), if_pos (by simpa using hrange)]

variable (hrange : f.inRange = true)
include hrange

theorem State.armFlip_of_mode (hmode : f.mode = 1) (hpart : s.group.participation = false) :
    s.armFlip f = s.refuse 0x12 .mode 0 0 := by
  rw [State.armFlip, if_neg (not_not.2 hphase), if_neg (by simp [hrange]), if_pos ⟨hmode, hpart⟩]

/-- A FLIP_ARM that passes its checks: the record made, and DRAINING or its armed state (R125). -/
theorem State.armFlip_of_accepted (haccept : f.mode = 0 ∨ s.group.participation = true) :
    s.armFlip f =
      if f.ahead = 0 then State.enterArmed { s with scene := { s.scene with armed := some f.record } }
      else State.enter .draining { s with scene := { s.scene with armed := some f.record } } := by
  have hmode : ¬(f.mode = 1 ∧ s.group.participation = false) := by
    rintro ⟨hmode, hpart⟩
    rcases haccept with h | h
    · omega
    · cases hpart.symm.trans h
  rw [State.armFlip, if_neg (not_not.2 hphase), if_neg (by simp [hrange]), if_neg hmode]

end ArmFlip

/-- Settles O46: the checks in their order, then the record and the state entered. -/
theorem flipArmIsCheckedAndArms : Obligations.FlipArmIsCheckedAndArms := by
  intro s f q hquiet hidle hq valuesOk record
  have hrange : f.inRange = true ↔ valuesOk := f.inRange_iff
  rw [execFlipArm_of_head hquiet hidle hq]
  refine ⟨fun hphase => ?_, fun hphase hbad => ?_, fun hphase hok hmode hpart => ?_, fun hphase hok haccept => ?_⟩
  · rw [State.armFlip_of_phase (by simpa using hphase)]
  · rw [State.armFlip_of_range (by simpa using hphase) (hrange.not.2 hbad)]
  · rw [State.armFlip_of_mode (by simpa using hphase) (hrange.2 hok) hmode (by simpa using hpart)]
  · rw [State.armFlip_of_accepted (by simpa using hphase) (hrange.2 hok) (by simpa using haccept),
      State.takeHead_of_head hq]
    refine ⟨fun hahead => ?_, fun hahead hmode => ?_, fun hahead hmode => ⟨_, ?_, rfl, ?_⟩⟩
    · rw [if_neg hahead]
      rfl
    · rw [if_pos hahead, State.enterArmed_of_local rfl (by simp [FlipArmCmd.record, hmode])]
      rfl
    · rw [if_pos hahead, State.enterArmed_of_group rfl (by simp [FlipArmCmd.record, hmode])]
      rfl
    · simp [State.releasesReady]

/-! ### FLIP_CANCEL and STAGE_DISCARD (R127) -/

theorem execFlipCancel_of_head {s : State} {q : List TableCmd} (hquiet : s.quiet = true) (hidle : s.engineBusy = false)
    (hq : s.scene.tableQ = .flipCancel :: q) : exec .flipCancel s = .next s.takeHead.cancelFlip := by
  change execFlipCancel s = _
  unfold execFlipCancel
  rw [s.prelude_of_quiet hquiet]
  simp only [State.tableHead_of_idle hidle hq]

theorem execStageDiscard_of_head {s : State} {q : List TableCmd} (hquiet : s.quiet = true)
    (hidle : s.engineBusy = false)
    (hq : s.scene.tableQ = .stageDiscard :: q) : exec .stageDiscard s = .next s.takeHead.discardStage := by
  change execStageDiscard s = _
  unfold execStageDiscard
  rw [s.prelude_of_quiet hquiet]
  simp only [State.tableHead_of_idle hidle hq]

/-- FLIP_CANCEL by the table of R127. -/
theorem State.cancelFlip_spec (s : State) :
    (s.scene.phase = .draining ∨ s.scene.phase = .armedLocal ∨ s.scene.phase = .armedGroup →
      s.cancelFlip = s.disarm .editing) ∧
    (s.scene.phase = .committed → s.cancelFlip = s.refuse 0x13 .state 0 0) ∧
    (s.scene.phase = .editing ∨ s.scene.phase = .settled → s.cancelFlip = s) := by
  unfold State.cancelFlip
  refine ⟨?_, fun h => by rw [h], ?_⟩
  · rintro (h | h | h) <;> rw [h]
  · rintro (h | h) <;> rw [h]

/-- STAGE_DISCARD by the table of R127. -/
theorem State.discardStage_spec (s : State) :
    ((s.scene.phase = .draining ∨ s.scene.phase = .armedLocal ∨ s.scene.phase = .armedGroup) ∨
        s.scene.phase = .editing →
      s.discardStage = s.disarm .settled) ∧
    (s.scene.phase = .committed ∨ s.scene.phase = .settled → s.discardStage = s) := by
  unfold State.discardStage
  constructor
  · rintro ((h | h | h) | h) <;> rw [h]
  · rintro (h | h) <;> rw [h]

/-- Settles O47: the two tables of R127. -/
theorem cancelAndDiscardEndAPreparation : Obligations.CancelAndDiscardEndAPreparation := by
  intro s q hquiet hidle taken ended armed
  obtain ⟨hback, hrefused, hkept⟩ := State.cancelFlip_spec taken
  obtain ⟨hsettled, hkept'⟩ := State.discardStage_spec taken
  refine ⟨fun hq => ?_, fun hq => ?_, fun hpart => ⟨?_, ?_⟩⟩
  · rw [execFlipCancel_of_head hquiet hidle hq, State.takeHead_of_head hq]
    exact ⟨fun h => congrArg _ (hback h), fun h => congrArg _ (hrefused h), fun h => congrArg _ (hkept h)⟩
  · rw [execStageDiscard_of_head hquiet hidle hq, State.takeHead_of_head hq]
    exact ⟨fun h => congrArg _ (hsettled h), fun h => congrArg _ (hkept' h)⟩
  · exact State.releasesReady_of_phase hpart (by simp [ended]) (by simp [ended])
  · exact State.releasesReady_of_phase hpart (by simp [ended]) (by simp [ended])

end Sys2Proof.Machine

/-! SUPPORT. STAGE_OPEN, the seed copy and TABLE_WRITE (R122 to R124), and the statements O42 and O43. -/

namespace Sys2Proof.Machine

/-! ### STAGE_OPEN and the seed copy (R122, R176, R177) -/

section Seed
variable {s : State} (hquiet : s.quiet = true)
include hquiet

theorem execStageOpen_of_head {q : List TableCmd} (hidle : s.engineBusy = false)
    (hq : s.scene.tableQ = .stageOpen :: q) : exec .stageOpen s = .next s.takeHead.openStage := by
  change execStageOpen s = _
  unfold execStageOpen
  rw [s.prelude_of_quiet hquiet]
  simp only [State.tableHead_of_idle hidle hq]

theorem execSeedCompletion_of_seeding (hphase : s.scene.phase = .seeding) :
    exec .seedCompletion s = .next (s.seedCopy.enter .editing) := by
  change execSeedCompletion s = _
  unfold execSeedCompletion
  rw [s.prelude_of_quiet hquiet]
  simp only [hphase]

theorem execSeedCompletion_of_saving {j : SaveJob} (hphase : s.scene.phase = .saving)
    (hsave : s.store.save = some j) (hseeded : j.seeded = false) :
    exec .seedCompletion s = .next (s.seedCopy.beginSaving j) := by
  change execSeedCompletion s = _
  unfold execSeedCompletion
  rw [s.prelude_of_quiet hquiet]
  simp [hphase, hsave, hseeded]

end Seed

@[simp] theorem State.seedCopy_stagingBank (s : State) : s.seedCopy.stagingBank = s.activeBank :=
  State.setStaging_stagingBank s _

@[simp] theorem State.seedCopy_activeBank (s : State) : s.seedCopy.activeBank = s.activeBank :=
  State.setStaging_activeBank s _

/-- A save that begins to write has the first 4 KB of the store erased, and the rest as it was (R177). -/
theorem State.beginSaving_flashByte (j : SaveJob) (s : State) (a : Nat) :
    (s.beginSaving j).flashByte a = if a < 4096 then 0xFF else s.flashByte a := by
  rw [State.flashByte, State.beginSaving, memRead_flashErase]
  simp [State.flashByte, flashFill, Nat.div_eq_zero_iff]

/-- Settles O42: the seed copy begins in SETTLED, and its completion is told apart by the scene state. -/
theorem stageOpenSeedsStaging : Obligations.StageOpenSeedsStaging := by
  intro s hquiet
  refine ⟨fun q hidle hq => ⟨fun hphase => ⟨_, ?_, rfl, rfl⟩, fun hphase => ?_⟩, fun hphase => ?_,
    fun j hphase hsave hseeded => ?_⟩
  · rw [execStageOpen_of_head hquiet hidle hq, State.takeHead_of_head hq, State.openStage, if_pos hphase]
    rfl
  · rw [execStageOpen_of_head hquiet hidle hq]
    exact congrArg _ (if_neg hphase)
  · exact ⟨_, execSeedCompletion_of_seeding hquiet hphase, rfl, s.seedCopy_stagingBank, s.seedCopy_activeBank, rfl⟩
  · exact ⟨_, execSeedCompletion_of_saving hquiet hphase hsave hseeded, s.seedCopy_stagingBank,
      s.seedCopy_activeBank, rfl, rfl, State.beginSaving_flashByte j s.seedCopy, rfl, rfl, _, rfl, rfl, rfl, rfl, rfl,
      rfl, rfl, rfl⟩

/-! ### The indices of a TABLE_WRITE (check 3 of R123) -/

section Indices
variable {w : TableWriteCmd}

/-- The indices of a TABLE_WRITE: as many as it counts, on from its start by its step, all within the table. -/
theorem writeIndices_spec {is : List Nat} (h : writeIndices w = some is) :
    1 ≤ w.count ∧ w.count ≤ 64 ∧ is.length = w.count ∧
      ∀ k, k < w.count → is[k]? = some (if w.step = 0x01 then w.start + k else w.start - k) := by
  unfold writeIndices at h
  split at h
  · cases h
  · rename_i hcount
    have hrange : 1 ≤ w.count ∧ w.count ≤ 64 := by omega
    split at h
    · rename_i hup
      split at h <;> cases h
      exact ⟨hrange.1, hrange.2, by simp, fun k hk => by simp [hup, hk]⟩
    · rename_i hup
      split at h
      · split at h <;> cases h
        exact ⟨hrange.1, hrange.2, by simp, fun k hk => by simp [hup, hk]⟩
      · cases h

/-- The indices of a TABLE_WRITE fail by its count, by its step, or by an end outside the table. -/
theorem writeIndices_eq_none_iff :
    writeIndices w = none ↔
      w.count < 1 ∨ 64 < w.count ∨ (w.step ≠ 0x01 ∧ w.step ≠ 0xFF) ∨
      (w.step = 0x01 ∧ tableSize w.table ≤ w.start + (w.count - 1)) ∨
      (w.step = 0xFF ∧ (tableSize w.table ≤ w.start ∨ w.start < w.count - 1)) := by
  unfold writeIndices
  split
  · simp only [true_iff]
    omega
  · split
    · split <;> simp only [true_iff, reduceCtorEq, false_iff] <;> omega
    · split
      · split <;> simp only [true_iff, reduceCtorEq, false_iff] <;> omega
      · simp only [true_iff]
        omega

end Indices

/-! ### The entries, one after another (R124) -/

/-- The entry that fails is one of those written. -/
theorem writeEntries_error_mem {table mask i : Nat} (is : List Nat) {bs : List Byte} {k : Bank}
    (h : writeEntries table mask is bs k = .error i) : i ∈ is := by
  induction is generalizing bs k with
  | nil => cases h
  | cons i' is ih =>
    simp only [writeEntries] at h
    split at h
    · cases h
      exact .head _
    · exact .tail _ (ih h)

section Cons
variable {table mask i : Nat} {is : List Nat} {bs : List Byte} {k : Bank}

/-- An entry that fails ends the write with its index. -/
theorem writeEntries_cons_of_none
    (h : k.writeEntry table mask i (bs.take (maskedSize mask (fieldSizes table) 0)) = none) :
    writeEntries table mask (i :: is) bs k = .error i := by
  simp only [writeEntries, h]

/-- An entry that passes leaves the bytes behind its own, and the bank it leaves, to the entries behind it. -/
theorem writeEntries_cons_of_some {k' : Bank}
    (h : k.writeEntry table mask i (bs.take (maskedSize mask (fieldSizes table) 0)) = some k') :
    writeEntries table mask (i :: is) bs k =
      writeEntries table mask is (bs.drop (maskedSize mask (fieldSizes table) 0)) k' := by
  simp only [writeEntries, h]

end Cons

/-! ### TABLE_WRITE (R123) -/

theorem execTableWrite_of_head {s : State} {w : TableWriteCmd} {q : List TableCmd} (hquiet : s.quiet = true)
    (hidle : s.engineBusy = false) (hq : s.scene.tableQ = .tableWrite w :: q) :
    exec .tableWrite s = .next (s.takeHead.writeTable w) := by
  change execTableWrite s = _
  unfold execTableWrite
  rw [s.prelude_of_quiet hquiet]
  simp only [State.tableHead_of_idle hidle hq]

section Write
variable {s : State} {w : TableWriteCmd}

theorem State.writeTable_of_phase (hphase : s.scene.phase ≠ .editing) :
    s.writeTable w = s.refuse 0x11 .state w.table w.start :=
  if_pos hphase

variable (hphase : s.scene.phase = .editing)
include hphase

theorem State.writeTable_of_table (htable : w.table = 0 ∨ 4 < w.table) :
    s.writeTable w = s.refuse 0x11 .range 0 w.start := by
  rw [State.writeTable, if_neg (not_not.2 hphase), if_pos htable]

variable (hlow : 1 ≤ w.table) (hhigh : w.table ≤ 4)
include hlow hhigh

theorem State.writeTable_of_no_indices (hnone : writeIndices w = none) :
    s.writeTable w = s.refuse 0x11 .range w.table w.start := by
  rw [State.writeTable, if_neg (not_not.2 hphase), if_neg (by omega), hnone]

variable {is : List Nat} (his : writeIndices w = some is)
include his

theorem State.writeTable_of_mask (hmask : 2 ^ (fieldSizes w.table).length ≤ w.mask) :
    s.writeTable w = s.refuse 0x11 .range w.table w.start := by
  rw [State.writeTable, if_neg (not_not.2 hphase), if_neg (by omega), his]
  exact if_pos hmask

variable (hmask : w.mask < 2 ^ (fieldSizes w.table).length)
include hmask

/-- The first entry that fails refuses the whole write (step 4 of R123). -/
theorem State.writeTable_of_error {i : Nat} (h : writeEntries w.table w.mask is w.data s.stagingBank = .error i) :
    s.writeTable w = s.refuse 0x11 .range w.table i := by
  rw [State.writeTable, if_neg (not_not.2 hphase), if_neg (by omega), his]
  simp only [if_neg (Nat.not_le.2 hmask), h]

/-- Without an entry that fails all are written (R124). -/
theorem State.writeTable_of_ok {k : Bank} (h : writeEntries w.table w.mask is w.data s.stagingBank = .ok k) :
    s.writeTable w = s.setStaging k := by
  rw [State.writeTable, if_neg (not_not.2 hphase), if_neg (by omega), his]
  simp only [if_neg (Nat.not_le.2 hmask), h]

end Write

/-- Settles O43: the checks one by one, the indices, and the entries written by recursion on their list. -/
theorem tableWriteWritesAllOrNothing : Obligations.TableWriteWritesAllOrNothing := by
  refine ⟨fun s w q hquiet hidle hq => ?_, fun w => ⟨fun is his => ?_, writeIndices_eq_none_iff⟩,
    fun table mask i is bs k => ⟨rfl, writeEntries_cons_of_none, fun k' => writeEntries_cons_of_some⟩⟩
  · rw [execTableWrite_of_head hquiet hidle hq]
    refine ⟨fun hphase => congrArg _ (State.writeTable_of_phase hphase),
      fun hphase htable => congrArg _ (State.writeTable_of_table hphase htable),
      fun hphase hlow hhigh hnone => congrArg _ (State.writeTable_of_no_indices hphase hlow hhigh hnone),
      fun is hphase hlow hhigh his =>
        ⟨fun hmask => congrArg _ (State.writeTable_of_mask hphase hlow hhigh his hmask), fun hmask => ?_⟩⟩
    exact ⟨fun i hi => ⟨writeEntries_error_mem is hi,
        congrArg _ (State.writeTable_of_error (s := s.takeHead) hphase hlow hhigh his hmask hi)⟩,
      fun k hk => congrArg _ (State.writeTable_of_ok (s := s.takeHead) hphase hlow hhigh his hmask hk)⟩
  · obtain ⟨hone, hmost, hlength, heach⟩ := writeIndices_spec his
    exact ⟨hone, hmost, hlength, fun i => writeIndices_lt his i, heach⟩

end Sys2Proof.Machine

/-! SUPPORT. The fields of a masked write (R124, R163): what each field of an entry is after the write, table by
table. -/

namespace Sys2Proof.Machine

/-! ### What a write gives a field -/

/-- What the write of the one field `bit` gives the field `b`: its value, or what it held. -/
def fieldGiven (bit : Nat) (bs : List Byte) {β : Type} (b : Nat) (val : List Byte → β) (old : β) : β :=
  if bit = b then val bs else old

/-- The bytes of the field `b` among the masked fields (R157). -/
def maskedBytes (mask : Nat) (sizes : List Nat) (bit n : Nat) (bs : List Byte) : List Byte :=
  (bs.drop (maskedSize mask (sizes.take n) bit)).take (sizes.getD n 0)

/-- What a masked write gives the field `b`: the value at its place among the masked fields, or what it held. -/
def maskGiven (mask : Nat) (sizes : List Nat) (bs : List Byte) {β : Type} (b : Nat) (val : List Byte → β)
    (old : β) : β :=
  if mask.testBit b then val (maskedBytes mask sizes 0 b bs) else old

section Masked
variable {α β : Type} {f : Nat → List Byte → α → Option α} {get : α → β} {b : Nat} {val : List Byte → β}
  (hf : ∀ bit bs e e', f bit bs e = some e' → get e' = fieldGiven bit bs b val (get e)) {mask : Nat}
include hf

/-- A masked write of fields behind a field leaves that field as it was. -/
theorem writeMasked_field_before (sizes : List Nat) {bit : Nat} {bs : List Byte} {e e' : α} (hb : b < bit)
    (h : writeMasked f mask sizes bit bs e = some e') : get e' = get e := by
  induction sizes generalizing bit bs e with
  | nil => rw [Option.some.inj h]
  | cons n ns ih =>
    simp only [writeMasked] at h
    split at h
    · split at h
      · cases h
      · rename_i e1 hfield
        rw [ih (by omega) h, hf _ _ _ _ hfield, fieldGiven, if_neg (by omega)]
    · exact ih (by omega) h

/-- The field `n` of those written: the value at its place, or what it held. -/
theorem writeMasked_field_at (sizes : List Nat) {bit n : Nat} {bs : List Byte} {e e' : α} (hn : n < sizes.length)
    (hbit : b = bit + n) (h : writeMasked f mask sizes bit bs e = some e') :
    get e' = if mask.testBit b then val (maskedBytes mask sizes bit n bs) else get e := by
  induction sizes generalizing bit n bs e with
  | nil => cases hn
  | cons m ms ih =>
    cases n with
    | zero =>
      obtain rfl : b = bit := hbit
      simp only [writeMasked] at h
      split at h
      · rename_i hmask
        split at h
        · cases h
        · rename_i e1 hfield
          rw [writeMasked_field_before hf ms (Nat.lt_succ_self _) h, hf _ _ _ _ hfield, fieldGiven, if_pos rfl,
            if_pos hmask]
          simp [maskedBytes, maskedSize]
      · rename_i hmask
        rw [writeMasked_field_before hf ms (Nat.lt_succ_self _) h, if_neg hmask]
    | succ n =>
      have hne : bit ≠ b := by omega
      simp only [writeMasked] at h
      split at h
      · rename_i hmask
        split at h
        · cases h
        · rename_i e1 hfield
          rw [ih (Nat.lt_of_succ_lt_succ hn) (by omega) h, hf _ _ _ _ hfield, fieldGiven, if_neg hne]
          simp [maskedBytes, maskedSize, hmask]
      · rename_i hmask
        rw [ih (Nat.lt_of_succ_lt_succ hn) (by omega) h]
        simp [maskedBytes, maskedSize, hmask]

/-- Every field of a table after a masked write of an entry (R124). -/
theorem writeMasked_field (sizes : List Nat) {bs : List Byte} {e e' : α}
    (h : writeMasked f mask sizes 0 bs e = some e') (hb : b < sizes.length := by decide) :
    get e' = maskGiven mask sizes bs b val (get e) :=
  writeMasked_field_at hf sizes hb (Nat.zero_add b).symm h

end Masked

/-- The bytes of every masked field have passed that field's own check (R123). -/
theorem writeMasked_checked {α : Type} {f : Nat → List Byte → α → Option α} {mask : Nat} (sizes : List Nat)
    {bit n : Nat} {bs : List Byte} {e e' : α} (hn : n < sizes.length) (hmask : mask.testBit (bit + n) = true)
    (h : writeMasked f mask sizes bit bs e = some e') :
    ∃ e1 e2, f (bit + n) (maskedBytes mask sizes bit n bs) e1 = some e2 := by
  induction sizes generalizing bit n bs e with
  | nil => cases hn
  | cons m ms ih =>
    simp only [writeMasked] at h
    cases n with
    | zero =>
      rw [if_pos (by simpa using hmask)] at h
      split at h
      · cases h
      · rename_i e1 hfield
        exact ⟨e, e1, by simpa [maskedBytes, maskedSize] using hfield⟩
    | succ n =>
      have hmask' : mask.testBit (bit + 1 + n) = true := by rwa [Nat.add_right_comm]
      have hsame : bit + 1 + n = bit + (n + 1) := by omega
      split at h
      · rename_i hset
        split at h
        · cases h
        · obtain ⟨e1, e2, hfield⟩ := ih (Nat.lt_of_succ_lt_succ hn) hmask' h
          exact ⟨e1, e2, by simpa [maskedBytes, maskedSize, hset, hsame] using hfield⟩
      · rename_i hclear
        obtain ⟨e1, e2, hfield⟩ := ih (Nat.lt_of_succ_lt_succ hn) hmask' h
        exact ⟨e1, e2, by simpa [maskedBytes, maskedSize, hclear, hsame] using hfield⟩

/-- An empty mask writes nothing (R123). -/
theorem writeMasked_zero {α : Type} (f : Nat → List Byte → α → Option α) (sizes : List Nat) (bit : Nat)
    (bs : List Byte) (e : α) : writeMasked f 0 sizes bit bs e = some e := by
  induction sizes generalizing bit with
  | nil => rfl
  | cons n ns ih => simp [writeMasked, ih]

/-! ### Values and codes (R163) -/

section Codes
variable {v : Nat}

theorem inRange_eq_self {lo hi n : Nat} (h : inRange lo hi v = some n) : n = v := by
  unfold inRange at h
  split at h <;> cases h
  rfl

theorem kindOfCode_code {c : Kind} (h : kindOfCode v = some c) : c.code = v := by
  unfold kindOfCode at h
  split at h <;> cases h <;> rfl

theorem figureOfCode_code {c : Figure} (h : figureOfCode v = some c) : c.code = v := by
  unfold figureOfCode at h
  split at h <;> cases h <;> rfl

theorem alignOfCode_code {c : Align} (h : alignOfCode v = some c) : c.code = v := by
  unfold alignOfCode at h
  split at h <;> cases h <;> rfl

theorem treatmentOfCode_code {c : Treatment} (h : treatmentOfCode v = some c) : c.code = v := by
  unfold treatmentOfCode at h
  split at h <;> cases h <;> rfl

theorem itemStateOfCode_code {c : ItemState} (h : itemStateOfCode v = some c) : c.code = v := by
  unfold itemStateOfCode at h
  split at h <;> cases h <;> rfl

theorem symbolOfCode_code {c : SymbolPos} (h : symbolOfCode v = some c) : c.code = v := by
  unfold symbolOfCode at h
  split at h <;> cases h <;> rfl

theorem boolOfCode_code {c : Bool} (h : boolOfCode v = some c) : boolCode c = v := by
  unfold boolOfCode at h
  split at h <;> cases h <;> rfl

end Codes

/-- A colour is the first three bytes. -/
theorem rgbOf_take (bs : List Byte) : rgbOf (bs.take 3) = rgbOf bs := by
  simp [rgbOf, List.getD_eq_getElem?_getD]

/-- A masked field of three bytes gives the colour at its place. -/
theorem maskGiven_rgbOf (mask : Nat) {sizes : List Nat} (bs : List Byte) {b : Nat} (hb : sizes.getD b 0 = 3)
    (old : Rgb) : maskGiven mask sizes bs b rgbOf old =
      if mask.testBit b then rgbOf (bs.drop (maskedSize mask (sizes.take b) 0)) else old := by
  rw [maskGiven, maskedBytes, hb, rgbOf_take]

/-- The index or value FFFF hex stands for none (R163). -/
def noneOfFfff (bs : List Byte) : Option Nat := if beValue bs = 0xFFFF then none else some (beValue bs)

/-! ### The fields of a region (R24) -/

/-- Each field of a region after a write, by what the write gives it. -/
structure Region.Written (given : {β : Type} → Nat → (List Byte → β) → β → β) (r r' : Region) : Prop where
  kind : r'.kind.code = given 0 beValue r.kind.code
  x : r'.x = given 1 beValue r.x
  y : r'.y = given 2 beValue r.y
  width : r'.width = given 3 beValue r.width
  height : r'.height = given 4 beValue r.height
  level : r'.level = given 5 beValue r.level
  pages : r'.pages = given 6 (fun bs => BitVec.ofNat 8 (beValue bs)) r.pages
  item : r'.item = given 7 noneOfFfff r.item
  figure : r'.figure.code = given 8 beValue r.figure.code
  style : r'.style = given 9 beValue r.style
  photo : r'.photo = given 10 beValue r.photo
  align : r'.align.code = given 11 beValue r.align.code
  treatment : r'.treatment.code = given 12 beValue r.treatment.code

theorem regionField_written {bit : Nat} {bs : List Byte} {r r' : Region} (h : regionField bit bs r = some r') :
    Region.Written (fieldGiven bit bs) r r' := by
  unfold regionField at h
  simp only at h
  split at h
  case h_8 =>
    split at h
    · rename_i hv
      cases h
      constructor <;> simp [fieldGiven, noneOfFfff, hv]
    · rename_i hv
      obtain ⟨n, hn, rfl⟩ := Option.map_eq_some_iff.1 h
      constructor <;> simp [fieldGiven, noneOfFfff, hv, inRange_eq_self hn]
  case h_7 =>
    cases h
    constructor <;> simp [fieldGiven]
  case h_14 => cases h
  all_goals obtain ⟨n, hn, rfl⟩ := Option.map_eq_some_iff.1 h
  case h_1 => constructor <;> simp [fieldGiven, kindOfCode_code hn]
  case h_9 => constructor <;> simp [fieldGiven, figureOfCode_code hn]
  case h_12 => constructor <;> simp [fieldGiven, alignOfCode_code hn]
  case h_13 => constructor <;> simp [fieldGiven, treatmentOfCode_code hn]
  all_goals constructor <;> simp [fieldGiven, inRange_eq_self hn]

theorem Region.written_of_writeMasked {mask : Nat} {bs : List Byte} {r r' : Region}
    (h : writeMasked regionField mask (fieldSizes 1) 0 bs r = some r') :
    Region.Written (maskGiven mask (fieldSizes 1) bs) r r' where
  kind := writeMasked_field (get := fun r => r.kind.code) (fun _ _ _ _ h => (regionField_written h).kind) _ h
  x := writeMasked_field (fun _ _ _ _ h => (regionField_written h).x) _ h
  y := writeMasked_field (fun _ _ _ _ h => (regionField_written h).y) _ h
  width := writeMasked_field (fun _ _ _ _ h => (regionField_written h).width) _ h
  height := writeMasked_field (fun _ _ _ _ h => (regionField_written h).height) _ h
  level := writeMasked_field (fun _ _ _ _ h => (regionField_written h).level) _ h
  pages := writeMasked_field (fun _ _ _ _ h => (regionField_written h).pages) _ h
  item := writeMasked_field (fun _ _ _ _ h => (regionField_written h).item) _ h
  figure := writeMasked_field (get := fun r => r.figure.code) (fun _ _ _ _ h => (regionField_written h).figure) _ h
  style := writeMasked_field (fun _ _ _ _ h => (regionField_written h).style) _ h
  photo := writeMasked_field (fun _ _ _ _ h => (regionField_written h).photo) _ h
  align := writeMasked_field (get := fun r => r.align.code) (fun _ _ _ _ h => (regionField_written h).align) _ h
  treatment :=
    writeMasked_field (get := fun r => r.treatment.code) (fun _ _ _ _ h => (regionField_written h).treatment) _ h

/-! ### The fields of an item (R31) -/

/-- The values of a price list: as many as its length byte says, three bytes each (R163). -/
def pricesOf (bs : List Byte) : List Nat := (List.range (fieldAt 0 1 bs)).map fun n => fieldAt (1 + 3 * n) 3 bs

theorem priceList_pricesOf {bs : List Byte} {ps : List Nat} (h : priceList bs = some ps) :
    ps = pricesOf bs ∧ fieldAt 0 1 bs ≤ 4 := by
  unfold priceList at h
  simp only at h
  split at h
  · rename_i hok
    cases h
    exact ⟨rfl, hok.1⟩
  · cases h

/-- Each field of an item after a write, by what the write gives it. -/
structure Item.Written (given : {β : Type} → Nat → (List Byte → β) → β → β) (it it' : Item) : Prop where
  state : it'.state.code = given 0 beValue it.state.code
  prices : it'.prices = given 1 pricesOf it.prices
  energy : it'.energy = given 2 noneOfFfff it.energy

theorem itemField_written {bit : Nat} {bs : List Byte} {it it' : Item} (h : itemField bit bs it = some it') :
    Item.Written (fieldGiven bit bs) it it' := by
  unfold itemField at h
  simp only at h
  split at h
  · obtain ⟨n, hn, rfl⟩ := Option.map_eq_some_iff.1 h
    constructor <;> simp [fieldGiven, itemStateOfCode_code hn]
  · obtain ⟨ps, hps, rfl⟩ := Option.map_eq_some_iff.1 h
    constructor <;> simp [fieldGiven, (priceList_pricesOf hps).1]
  · split at h
    · rename_i hv
      cases h
      constructor <;> simp [fieldGiven, noneOfFfff, hv]
    · rename_i hv
      obtain ⟨n, hn, rfl⟩ := Option.map_eq_some_iff.1 h
      constructor <;> simp [fieldGiven, noneOfFfff, hv, inRange_eq_self hn]
  · cases h

section Item
variable {mask : Nat} {bs : List Byte} {it it' : Item}
  (h : writeMasked itemField mask (fieldSizes 2) 0 bs it = some it')
include h

theorem Item.written_of_writeMasked : Item.Written (maskGiven mask (fieldSizes 2) bs) it it' where
  state := writeMasked_field (get := fun it => it.state.code) (fun _ _ _ _ h => (itemField_written h).state) _ h
  prices := writeMasked_field (fun _ _ _ _ h => (itemField_written h).prices) _ h
  energy := writeMasked_field (fun _ _ _ _ h => (itemField_written h).energy) _ h

/-- A price list written has a length byte of at most 4 (R31, R163). -/
theorem priceCount_of_writeMasked (hmask : mask.testBit 1 = true) :
    fieldAt 0 1 (maskedBytes mask (fieldSizes 2) 0 1 bs) ≤ 4 := by
  obtain ⟨e1, e2, hfield⟩ := writeMasked_checked (n := 1) (fieldSizes 2) (by decide) hmask h
  obtain ⟨ps, hps, -⟩ := Option.map_eq_some_iff.1 hfield
  exact (priceList_pricesOf hps).2

end Item

/-- A field within the first bytes of a cut list is the field of the list. -/
theorem fieldAt_take_drop {o len n d : Nat} (h : o + len ≤ n) (bs : List Byte) :
    fieldAt o len ((bs.drop d).take n) = fieldAt (d + o) len bs := by
  rw [fieldAt, fieldAt, List.drop_take, List.take_take, List.drop_drop, Nat.min_eq_left (by omega)]

/-- A price list of at most four values lies in its 13 bytes. -/
theorem pricesOf_take_drop {d : Nat} {bs : List Byte} (h : fieldAt 0 1 ((bs.drop d).take 13) ≤ 4) :
    pricesOf ((bs.drop d).take 13) =
      (List.range (fieldAt d 1 bs)).map fun n => fieldAt (d + 1 + 3 * n) 3 bs := by
  rw [fieldAt_take_drop (by omega), Nat.add_zero] at h
  rw [pricesOf, fieldAt_take_drop (by omega), Nat.add_zero]
  refine List.map_congr_left fun n hn => ?_
  have hn : n < fieldAt d 1 bs := List.mem_range.1 hn
  rw [fieldAt_take_drop (by omega), Nat.add_assoc]

/-! ### The fields of a style (R34) -/

/-- Each field of a style after a write, by what the write gives it. -/
structure Style.Written (given : {β : Type} → Nat → (List Byte → β) → β → β) (st st' : Style) : Prop where
  ink : st'.ink = given 0 rgbOf st.ink
  inkOpacity : st'.inkOpacity = given 1 (fun bs => BitVec.ofNat 8 (beValue bs)) st.inkOpacity
  box : st'.box = given 2 rgbOf st.box
  boxOpacity : st'.boxOpacity = given 3 (fun bs => BitVec.ofNat 8 (beValue bs)) st.boxOpacity
  glyphPhoto : st'.glyphPhoto = given 4 beValue st.glyphPhoto
  cellW : st'.cellW = given 5 beValue st.cellW
  cellH : st'.cellH = given 6 beValue st.cellH
  symbol : st'.symbol.code = given 7 beValue st.symbol.code
  minorDigits : st'.minorDigits = given 8 beValue st.minorDigits
  grouping : boolCode st'.grouping = given 9 beValue (boolCode st.grouping)
  trim : boolCode st'.trim = given 10 beValue (boolCode st.trim)
  dim : st'.dim = given 11 (fun bs => BitVec.ofNat 8 (beValue bs)) st.dim
  standby : st'.standby = given 12 rgbOf st.standby

theorem styleField_written {bit : Nat} {bs : List Byte} {st st' : Style} (h : styleField bit bs st = some st') :
    Style.Written (fieldGiven bit bs) st st' := by
  unfold styleField at h
  simp only at h
  split at h
  case h_9 =>
    split at h <;> cases h
    constructor <;> simp [fieldGiven]
  case h_14 => cases h
  case h_5 | h_6 | h_7 =>
    obtain ⟨n, hn, rfl⟩ := Option.map_eq_some_iff.1 h
    constructor <;> simp [fieldGiven, inRange_eq_self hn]
  case h_8 =>
    obtain ⟨n, hn, rfl⟩ := Option.map_eq_some_iff.1 h
    constructor <;> simp [fieldGiven, symbolOfCode_code hn]
  case h_10 | h_11 =>
    obtain ⟨n, hn, rfl⟩ := Option.map_eq_some_iff.1 h
    constructor <;> simp [fieldGiven, boolOfCode_code hn]
  all_goals
    cases h
    constructor <;> simp [fieldGiven]

theorem Style.written_of_writeMasked {mask : Nat} {bs : List Byte} {st st' : Style}
    (h : writeMasked styleField mask (fieldSizes 3) 0 bs st = some st') :
    Style.Written (maskGiven mask (fieldSizes 3) bs) st st' where
  ink := writeMasked_field (fun _ _ _ _ h => (styleField_written h).ink) _ h
  inkOpacity := writeMasked_field (fun _ _ _ _ h => (styleField_written h).inkOpacity) _ h
  box := writeMasked_field (fun _ _ _ _ h => (styleField_written h).box) _ h
  boxOpacity := writeMasked_field (fun _ _ _ _ h => (styleField_written h).boxOpacity) _ h
  glyphPhoto := writeMasked_field (fun _ _ _ _ h => (styleField_written h).glyphPhoto) _ h
  cellW := writeMasked_field (fun _ _ _ _ h => (styleField_written h).cellW) _ h
  cellH := writeMasked_field (fun _ _ _ _ h => (styleField_written h).cellH) _ h
  symbol := writeMasked_field (get := fun st => st.symbol.code) (fun _ _ _ _ h => (styleField_written h).symbol) _ h
  minorDigits := writeMasked_field (fun _ _ _ _ h => (styleField_written h).minorDigits) _ h
  grouping :=
    writeMasked_field (get := fun st => boolCode st.grouping) (fun _ _ _ _ h => (styleField_written h).grouping) _ h
  trim := writeMasked_field (get := fun st => boolCode st.trim) (fun _ _ _ _ h => (styleField_written h).trim) _ h
  dim := writeMasked_field (fun _ _ _ _ h => (styleField_written h).dim) _ h
  standby := writeMasked_field (fun _ _ _ _ h => (styleField_written h).standby) _ h

/-! ### The fields of a directory entry (R37) -/

/-- Each field of a directory entry after a write, by what the write gives it. -/
structure Photo.Written (given : {β : Type} → Nat → (List Byte → β) → β → β) (p p' : Photo) : Prop where
  valid : boolCode p'.valid = given 0 beValue (boolCode p.valid)
  area : p'.area = given 1 beValue p.area
  offset : p'.offset = given 2 beValue p.offset
  width : p'.width = given 3 beValue p.width
  height : p'.height = given 4 beValue p.height

theorem photoField_written {bit : Nat} {bs : List Byte} {p p' : Photo} (h : photoField bit bs p = some p') :
    Photo.Written (fieldGiven bit bs) p p' := by
  unfold photoField at h
  simp only at h
  split at h
  case h_6 => cases h
  all_goals obtain ⟨n, hn, rfl⟩ := Option.map_eq_some_iff.1 h
  case h_1 => constructor <;> simp [fieldGiven, boolOfCode_code hn]
  all_goals constructor <;> simp [fieldGiven, inRange_eq_self hn]

theorem Photo.written_of_writeMasked {mask : Nat} {bs : List Byte} {p p' : Photo}
    (h : writeMasked photoField mask (fieldSizes 4) 0 bs p = some p') :
    Photo.Written (maskGiven mask (fieldSizes 4) bs) p p' where
  valid := writeMasked_field (get := fun p => boolCode p.valid) (fun _ _ _ _ h => (photoField_written h).valid) _ h
  area := writeMasked_field (fun _ _ _ _ h => (photoField_written h).area) _ h
  offset := writeMasked_field (fun _ _ _ _ h => (photoField_written h).offset) _ h
  width := writeMasked_field (fun _ _ _ _ h => (photoField_written h).width) _ h
  height := writeMasked_field (fun _ _ _ _ h => (photoField_written h).height) _ h

end Sys2Proof.Machine

/-! SUPPORT. The entry written stands in its table alone (R40, R124), and the statement O44. -/

namespace Sys2Proof.Machine

/-! ### The entry in its table (R37, R40, R124) -/

/-- The second step of R40, for the areas that have a count. -/
theorem countIn_getD_of_lt (p : Photo) (counts : List Nat) {a : Nat} (ha : a < counts.length) :
    (countIn p counts).getD a 0 = counts.getD a 0 + if p.counted a = true then 1 else 0 := by
  by_cases hp : p.area < counts.length
  · exact countIn_getD p counts a hp
  · have hne : p.area ≠ a := by omega
    unfold countIn Photo.counted
    cases p.valid <;> simp [List.getD_eq_getElem?_getD, hne]

section Tables
variable {k : Bank} {i : Nat}

/-- Each area count loses one for the entry as it was and gains one for the entry as it is (R40). -/
theorem Bank.setPhoto_count (p : Photo) {a : Nat} (ha : a < k.counts.length) :
    (k.setPhoto i p).count a =
      k.count a - (if (k.photo i).counted a = true then 1 else 0) + if p.counted a = true then 1 else 0 :=
  (countIn_getD_of_lt p _ (by rwa [countOut_length])).trans (by rw [countOut_getD]; rfl)

theorem getD_set_self_of_lt {α : Type} {l : List α} {d : α} (h : i < l.length) (e : α) :
    (l.set i e).getD i d = e := by
  simp [List.getD_eq_getElem?_getD, h]

theorem getD_set_of_ne {α : Type} {l : List α} {d : α} {j : Nat} (h : j ≠ i) (e : α) :
    (l.set i e).getD j d = l.getD j d := by
  simp [List.getD_eq_getElem?_getD, List.getElem?_set_ne h.symm]

theorem set_getD_self {α : Type} (l : List α) (d : α) : l.set i (l.getD i d) = l := by
  by_cases h : i < l.length
  · simp [List.getD_eq_getElem?_getD, h]
  · exact List.set_eq_of_length_le (by omega)

/-- A write of the entry `i` of a table changes no other table and no other entry (R124). -/
structure Bank.Keeps (i table : Nat) (k k' : Bank) : Prop where
  regions : table ≠ 1 → k'.regions = k.regions
  items : table ≠ 2 → k'.items = k.items
  styles : table ≠ 3 → k'.styles = k.styles
  photos : table ≠ 4 → k'.photos = k.photos ∧ k'.counts = k.counts
  others : ∀ j, j ≠ i → k'.region j = k.region j ∧ k'.item j = k.item j ∧ k'.style j = k.style j ∧
    k'.photo j = k.photo j

theorem Bank.setRegion_keeps (r : Region) : Bank.Keeps i 1 k (k.setRegion i r) where
  regions h := absurd rfl h
  items _ := rfl
  styles _ := rfl
  photos _ := ⟨rfl, rfl⟩
  others _ hj := ⟨getD_set_of_ne hj r, rfl, rfl, rfl⟩

theorem Bank.setItem_keeps (it : Item) : Bank.Keeps i 2 k (k.setItem i it) where
  regions _ := rfl
  items h := absurd rfl h
  styles _ := rfl
  photos _ := ⟨rfl, rfl⟩
  others _ hj := ⟨rfl, getD_set_of_ne hj it, rfl, rfl⟩

theorem Bank.setStyle_keeps (st : Style) : Bank.Keeps i 3 k (k.setStyle i st) where
  regions _ := rfl
  items _ := rfl
  styles h := absurd rfl h
  photos _ := ⟨rfl, rfl⟩
  others _ hj := ⟨rfl, rfl, getD_set_of_ne hj st, rfl⟩

theorem Bank.setPhoto_keeps (p : Photo) : Bank.Keeps i 4 k (k.setPhoto i p) where
  regions _ := rfl
  items _ := rfl
  styles _ := rfl
  photos h := absurd rfl h
  others _ hj := ⟨rfl, rfl, rfl, getD_set_of_ne hj p⟩

end Tables

/-- The entry that a write makes, table by table, and the bank that takes it (R123). -/
inductive Bank.Entered (mask i : Nat) (bs : List Byte) (k : Bank) : Nat → Bank → Prop
  | region {r : Region} (h : writeMasked regionField mask (fieldSizes 1) 0 bs (k.region i) = some r) :
      Bank.Entered mask i bs k 1 (k.setRegion i r)
  | item {it : Item} (h : writeMasked itemField mask (fieldSizes 2) 0 bs (k.item i) = some it) :
      Bank.Entered mask i bs k 2 (k.setItem i it)
  | style {st : Style} (h : writeMasked styleField mask (fieldSizes 3) 0 bs (k.style i) = some st) :
      Bank.Entered mask i bs k 3 (k.setStyle i st)
  | photo {p : Photo} (h : photoWritten mask bs (k.photo i) = some p) :
      Bank.Entered mask i bs k 4 (k.setPhoto i p)

theorem Bank.entered_of_writeEntry {k k' : Bank} {table mask i : Nat} {bs : List Byte}
    (h : k.writeEntry table mask i bs = some k') : Bank.Entered mask i bs k table k' := by
  unfold Bank.writeEntry at h
  split at h
  case h_5 => cases h
  all_goals obtain ⟨e, he, rfl⟩ := Option.map_eq_some_iff.1 h
  · exact .region he
  · exact .item he
  · exact .style he
  · exact .photo he

theorem Bank.Entered.keeps {mask i table : Nat} {bs : List Byte} {k k' : Bank}
    (h : Bank.Entered mask i bs k table k') : Bank.Keeps i table k k' := by
  cases h with
  | region => exact Bank.setRegion_keeps _
  | item => exact Bank.setItem_keeps _
  | style => exact Bank.setStyle_keeps _
  | photo => exact Bank.setPhoto_keeps _

/-- An empty mask leaves the bank as it was, outside the directory, whose counts take their two steps. -/
theorem Bank.Entered.eq_of_mask_zero {i table : Nat} {bs : List Byte} {k k' : Bank}
    (h : Bank.Entered 0 i bs k table k') (htable : table ≤ 3) : k' = k := by
  cases h with
  | region h =>
    rw [writeMasked_zero] at h
    cases h
    rw [Bank.setRegion, Bank.region, set_getD_self]
  | item h =>
    rw [writeMasked_zero] at h
    cases h
    rw [Bank.setItem, Bank.item, set_getD_self]
  | style h =>
    rw [writeMasked_zero] at h
    cases h
    rw [Bank.setStyle, Bank.style, set_getD_self]
  | photo => omega

/-- Settles O44: the entry that a write makes, field by field, in each of the four tables. -/
theorem entryWriteChangesItsEntryAlone : Obligations.EntryWriteChangesItsEntryAlone := by
  intro k k' table mask i bs hwrite off v colour given
  have hentered := Bank.entered_of_writeEntry hwrite
  have hkeeps := hentered.keeps
  refine ⟨⟨hkeeps.regions, hkeeps.items, hkeeps.styles, hkeeps.photos, hkeeps.others⟩, ?_, ?_, ?_, ?_,
    fun hmask htable => ?_⟩
  · rintro rfl hi r r'
    cases hentered with | region h
    have hr' : r' = _ := getD_set_self_of_lt hi _
    have hfields := Region.written_of_writeMasked h
    rw [← hr'] at hfields
    exact ⟨hfields.kind, hfields.x, hfields.y, hfields.width, hfields.height, hfields.level, hfields.pages,
      hfields.item, hfields.figure, hfields.style, hfields.photo, hfields.align, hfields.treatment⟩
  · rintro rfl hi it it'
    cases hentered with | item h
    have hit' : it' = _ := getD_set_self_of_lt hi _
    have hfields := Item.written_of_writeMasked h
    have hcount := priceCount_of_writeMasked h
    rw [← hit'] at hfields
    refine ⟨hfields.state, ?_, hfields.energy⟩
    rw [hfields.prices, maskGiven]
    split
    · rename_i hmask
      exact pricesOf_take_drop (hcount hmask)
    · rfl
  · rintro rfl hi st st'
    cases hentered with | style h
    have hst' : st' = _ := getD_set_self_of_lt hi _
    have hfields := Style.written_of_writeMasked h
    rw [← hst'] at hfields
    have hcolour := fun b => @maskGiven_rgbOf mask (fieldSizes 3) bs b
    exact ⟨hfields.ink.trans (hcolour 0 rfl _), hfields.inkOpacity, hfields.box.trans (hcolour 2 rfl _),
      hfields.boxOpacity, hfields.glyphPhoto, hfields.cellW, hfields.cellH, hfields.symbol, hfields.minorDigits,
      hfields.grouping, hfields.trim, hfields.dim, hfields.standby.trans (hcolour 12 rfl _)⟩
  · rintro rfl hi p p'
    cases hentered with | photo h
    have hp' : p' = _ := getD_set_self_of_lt hi _
    obtain ⟨hmasked, hextent⟩ := photoWritten_eq_some h
    have hfields := Photo.written_of_writeMasked hmasked
    rw [← hp'] at hfields hextent
    refine ⟨hfields.valid, hfields.area, hfields.offset, hfields.width, hfields.height, of_decide_eq_true hextent,
      fun a ha => ?_⟩
    rw [Bank.setPhoto_count _ ha, ← hp']
    simp only [Photo.counted, Bool.and_eq_true, beq_iff_eq]
    rfl
  · subst hmask
    exact hentered.eq_of_mask_zero htable

end Sys2Proof.Machine

/-! SUPPORT. CONFIG_WRITE (R128, R159): what each setting is after it, and the statement O48. -/

namespace Sys2Proof.Machine

/-! ### The settings after a CONFIG_WRITE (R114, R140, R159) -/

/-- A setting takes the value given for it at its place among the masked fields, or stays (R159). -/
theorem maskedField_map_getD {β : Type} (mask : Nat) (data : List Byte) (b : Nat) (val : List Byte → β) (old : β) :
    ((maskedField mask data b).map val).getD old = maskGiven mask configSizes data b val old := by
  unfold maskedField maskGiven
  split <;> rfl

/-- W_ACT is brought to a multiple of 16 from 640 to 1920 (R159). -/
theorem clampWidth_eq (v : Nat) : clampWidth v = if v < 640 then 640 else if 1920 < v then 1920 else v - v % 16 := by
  unfold clampWidth clampTo
  split
  · omega
  · split <;> omega

/-- A credit window begins where L becomes nonzero, ends where it becomes 0, and is otherwise kept (R114). -/
theorem Library.configureCredit_window (lines limit : Option Nat) (l : Library) :
    ((l.configureCredit lines limit).creditLines = 0 → (l.configureCredit lines limit).window = none) ∧
    ((l.configureCredit lines limit).creditLines ≠ 0 → l.creditLines = 0 →
      (l.configureCredit lines limit).window =
        some ⟨(l.configureCredit lines limit).creditLines, (l.configureCredit lines limit).creditLimit, 0, 0⟩) ∧
    ((l.configureCredit lines limit).creditLines ≠ 0 → l.creditLines ≠ 0 →
      (l.configureCredit lines limit).window = l.window) :=
  ⟨fun hend => if_pos hend, fun hruns hold => (if_neg hruns).trans (if_pos hold),
    fun hruns hold => (if_neg hruns).trans (if_neg hold)⟩

theorem Group.sampling_iff (g : Group) : g.sampling = true ↔ g.participation = true ∧ g.role = .member := by
  simp [Group.sampling]

section Reconfigure
variable {g : Group} {role : Role} {participation : Bool}

/-- The line filter of a member that stays one is kept (R140). -/
theorem Group.reconfigure_filter_of_sampling (hold : g.sampling = true)
    (hnew : (g.reconfigure role participation).sampling = true) :
    (g.reconfigure role participation).filterHigh = g.filterHigh ∧
      (g.reconfigure role participation).filterRun = g.filterRun := by
  have hnew : Group.sampling { g with role, participation } = true := hnew
  simp [Group.reconfigure, hold, hnew]

/-- The line filter of a part that starts or stops sampling, or does not sample, stands low (R140). -/
theorem Group.reconfigure_filter_of_not_sampling
    (h : ¬g.sampling = true ∨ ¬(g.reconfigure role participation).sampling = true) :
    (g.reconfigure role participation).filterHigh = false ∧ (g.reconfigure role participation).filterRun = 0 := by
  have h : ¬g.sampling = true ∨ ¬Group.sampling { g with role, participation } = true := h
  rcases h with h | h <;> simp [Group.reconfigure, h]

/-- A pulse ends unless the part is a leader taking part (R144). -/
theorem Group.reconfigure_pulse :
    (g.reconfigure role participation).pulse =
      if (g.reconfigure role participation).participation = true ∧ (g.reconfigure role participation).role = .leader
      then g.pulse else none := by
  simp [Group.reconfigure]

end Reconfigure

/-! ### CONFIG_WRITE (R128) -/

theorem execConfigWrite_of_head {s : State} {mask : Nat} {data : List Byte} {q : List TableCmd}
    (hquiet : s.quiet = true) (hidle : s.engineBusy = false) (hq : s.scene.tableQ = .configWrite mask data :: q) :
    exec .configWrite s = .next (s.takeHead.writeConfig mask data) := by
  change execConfigWrite s = _
  unfold execConfigWrite
  rw [s.prelude_of_quiet hquiet]
  simp only [State.tableHead_of_idle hidle hq]

/-- Settles O48: the settings of every block are those of its `configure`, field by field. -/
theorem configWriteClampsItsValues : Obligations.ConfigWriteClampsItsValues := by
  refine ⟨fun s mask data q hquiet hidle hq => ?_, clampWidth_eq⟩
  intro off v refusedHere member
  have hrefused : (s.scene.phase.armed && (mask.testBit 7 || mask.testBit 8)) = true ↔ refusedHere := by
    simp [refusedHere]
  have hmember : ∀ g, g.sampling = true ↔ member g := Group.sampling_iff
  rw [execConfigWrite_of_head hquiet hidle hq]
  refine ⟨fun h => congrArg _ (if_pos (hrefused.2 h)), fun h => ⟨_, congrArg _ (if_neg (mt hrefused.1 h)), ?_⟩⟩
  refine ⟨⟨maskedField_map_getD mask data 0 _ _, maskedField_map_getD mask data 1 _ _,
      maskedField_map_getD mask data 2 _ _, maskedField_map_getD mask data 3 _ _, ?_⟩,
    ⟨?_, maskedField_map_getD mask data 6 _ _, Library.configureCredit_window _ _ _⟩,
    ⟨maskedField_map_getD mask data 7 _ _, maskedField_map_getD mask data 8 _ _, fun hold hnew => ?_, fun h => ?_,
      Group.reconfigure_pulse, rfl⟩, rfl, rfl, rfl, rfl, ?_, rfl, rfl, rfl⟩
  · exact (maskedField_map_getD mask data 4 _ _).trans (maskGiven_rgbOf mask data rfl _)
  · refine (maskedField_map_getD mask data 5 _ _).trans ?_
    simp only [clampTo, Nat.zero_max]
    rfl
  · exact Group.reconfigure_filter_of_sampling ((hmember _).2 hold) ((hmember _).2 hnew)
  · exact Group.reconfigure_filter_of_not_sampling (h.imp (mt (hmember _).1) (mt (hmember _).1))
  · exact congrArg List.tail hq

end Sys2Proof.Machine

/-! SUPPORT. The hot entries, one by one (R133 to R135), and the pop of the page hold timer (R136), with the statements
O49 and O50. -/

namespace Sys2Proof.Machine

/-! ### ITEM_STATE (R133) -/

/-- An ITEM_STATE changes the state field of its item in a bank, and nothing else of the bank (R22, R32). -/
theorem Bank.setItemState_changes {k : Bank} {item : Nat} (h : item < k.items.length) (st : ItemState) :
    (k.setItemState item st).item item = { k.item item with state := st } ∧
      (∀ j, j ≠ item → (k.setItemState item st).item j = k.item j) ∧
      (k.setItemState item st).items.length = k.items.length :=
  ⟨getD_set_self_of_lt h _, fun _ hj => getD_set_of_ne hj _, List.length_set⟩

theorem State.setItemState_bank (item : Nat) (st : ItemState) (s : State) (side : BankId) :
    (s.setItemState item st).tables.bank side = (s.tables.bank side).setItemState item st := by
  cases side <;> rfl

theorem itemStateOfCode_eq_none {code : Nat} (h : 3 ≤ code) : itemStateOfCode code = none := by
  unfold itemStateOfCode
  split
  case h_4 => rfl
  all_goals omega

/-! ### PAGE_PUSH (R134) -/

section Push
variable (page duration threshold : Nat) (s : State)

/-- What a PAGE_PUSH leaves, whether it wraps or not. -/
theorem State.pushPage_scene :
    (s.pushPage page duration threshold).scene.page = page ∧
      (s.pushPage page duration threshold).scene.hold = (if duration = 0 then none else some duration) ∧
      (s.pushPage page duration threshold).scene.threshold =
        (if threshold = 0xFF then s.scene.threshold else clampThreshold threshold) ∧
      (s.pushPage page duration threshold).tables = s.tables ∧
      (s.pushPage page duration threshold).scene.phase = s.scene.phase ∧
      (s.pushPage page duration threshold).scene.armed = s.scene.armed ∧
      (s.pushPage page duration threshold).group = s.group := by
  unfold State.pushPage
  dsimp only
  cases decide (8 ≤ s.scene.stack.length) <;> exact ⟨rfl, rfl, rfl, rfl, rfl, rfl, rfl⟩

theorem State.pushPage_stack_of_room (h : s.scene.stack.length < 8) :
    (s.pushPage page duration threshold).scene.stack =
        ⟨s.scene.page, s.scene.hold, s.scene.threshold⟩ :: s.scene.stack ∧
      (s.pushPage page duration threshold).status = s.status := by
  simp [State.pushPage, Nat.not_le.2 h]

theorem State.pushPage_stack_of_full (h : s.scene.stack.length = 8) :
    (s.pushPage page duration threshold).scene.stack =
        ⟨s.scene.page, s.scene.hold, s.scene.threshold⟩ :: s.scene.stack.take 7 ∧
      (s.pushPage page duration threshold).flagged .stackWrap = true := by
  have hraise := s.flagged_raise .stackWrap
  simp only [State.pushPage, h, le_refl, decide_true, if_true]
  exact ⟨trivial, hraise⟩

end Push

theorem clampThreshold_eq (v : Nat) : clampThreshold v = if 7 < v then 7 else v := by
  unfold clampThreshold
  split <;> omega

/-! ### The hot queue (R130, R132) -/

/-- What no hot entry touches: the group sync unit, the selector and the scene state (R130). -/
structure State.KeepsFlip (s t : State) : Prop where
  group : t.group = s.group
  active : t.tables.active = s.tables.active
  phase : t.scene.phase = s.scene.phase

theorem applyHot_keepsFlip (c : HotCmd) (p : State × Bool) : p.1.KeepsFlip (applyHot c p).1 := by
  cases c with
  | itemState item code =>
    simp only [applyHot]
    split <;> exact ⟨rfl, rfl, rfl⟩
  | pageSet page =>
    simp only [applyHot]
    split <;> exact ⟨rfl, rfl, rfl⟩
  | pagePush page duration threshold =>
    simp only [applyHot]
    split
    · obtain ⟨-, -, -, htables, hphase, -, hgroup⟩ := State.pushPage_scene page duration threshold p.1
      exact ⟨hgroup, congrArg Tables.active htables, hphase⟩
    · exact ⟨rfl, rfl, rfl⟩
  | pagePop =>
    simp only [applyHot]
    split <;> exact ⟨rfl, rfl, rfl⟩
  | thresholdSet v => exact ⟨rfl, rfl, rfl⟩
  | watchSet r => exact ⟨rfl, rfl, rfl⟩
  | eventClear mask => exact ⟨rfl, rfl, rfl⟩

theorem applyHots_keepsFlip (cs : List HotCmd) (p : State × Bool) : p.1.KeepsFlip (applyHots cs p).1 := by
  induction cs generalizing p with
  | nil => exact ⟨rfl, rfl, rfl⟩
  | cons c cs ih =>
    have hhead := applyHot_keepsFlip c p
    have htail := ih (applyHot c p)
    exact ⟨htail.group.trans hhead.group, htail.active.trans hhead.active, htail.phase.trans hhead.phase⟩

/-- Settles O49: each hot entry by its equation, and the queue as a fold over its entries. -/
theorem hotEntriesAreApplied : Obligations.HotEntriesAreApplied := by
  refine ⟨fun s b => ⟨fun item ha hb => ⟨fun code st hcode => ?_, fun code hcode => ?_⟩, fun v => ?_, fun r => rfl,
    fun mask => rfl, fun page hpage => if_pos hpage, fun page hpage => if_neg (Nat.not_le.2 hpage),
    fun page d v hpage => if_neg (Nat.not_le.2 hpage), fun page d v hpage => ?_⟩, fun s => ?_⟩
  · refine ⟨s.setItemState item st, by simp only [applyHot, hcode], rfl, rfl, fun side => ?_⟩
    have hside : item < (s.tables.bank side).items.length := by cases side <;> assumption
    obtain ⟨hitem, hothers, hlength⟩ := Bank.setItemState_changes hside st
    rw [State.setItemState_bank]
    exact ⟨hitem, hothers, hlength, rfl, rfl, rfl, rfl⟩
  · simp only [applyHot, itemStateOfCode_eq_none hcode]
  · simp only [applyHot, clampThreshold_eq]
  · obtain ⟨hpage', hhold, hthreshold, htables, hphase, harmed, -⟩ := State.pushPage_scene page d v s
    rw [clampThreshold_eq] at hthreshold
    exact ⟨s.pushPage page d v, if_pos hpage, hpage', hhold, hthreshold, s.pushPage_stack_of_room page d v,
      s.pushPage_stack_of_full page d v, htables, hphase, harmed⟩
  · obtain ⟨hhot, htable⟩ := applyHots_queues s.scene.hotQ ({ s with scene := { s.scene with hotQ := [] } }, false)
    have hkeeps := applyHots_keepsFlip s.scene.hotQ ({ s with scene := { s.scene with hotQ := [] } }, false)
    exact ⟨applyHots_eq_foldl _ _, hhot, htable, hkeeps.group, hkeeps.active, hkeeps.phase⟩

/-! ### The pop of the page hold timer (R135, R136) -/

theorem State.holdDue_iff (s : State) : s.holdDue = true ↔ s.scene.hold = some 0 := beq_iff_eq

theorem State.holdPop_of_cons {s : State} {e : StackEntry} {rest : List StackEntry} (h : s.scene.stack = e :: rest) :
    s.holdPop = s.popEntry e rest := by
  simp only [State.holdPop, h]

theorem State.holdPop_of_nil {s : State} (h : s.scene.stack = []) :
    s.holdPop = { s.raise .stackEmpty with scene := { s.scene with hold := none } } := by
  simp only [State.holdPop, h]

/-- The pop leaves the group sync unit and the return lane as they were. -/
theorem State.holdPop_keeps (s : State) :
    s.holdPop.group = s.group ∧ s.holdPop.status.lane = s.status.lane := by
  cases h : s.scene.stack with
  | nil => rw [State.holdPop_of_nil h]; exact ⟨rfl, rfl⟩
  | cons e rest => rw [State.holdPop_of_cons h]; exact ⟨rfl, rfl⟩

/-- Scene settled sends the packet begun, and none where none was (R166). -/
theorem State.settleScene_packet (s : State) :
    s.settleScene.status.draft = none ∧
      (∀ d, s.status.draft = some d → s.settleScene.status.lane = s.statusPacket d) ∧
      (s.status.draft = none → s.settleScene.status.lane = s.status.lane) := by
  have hstatus := (State.build_buildsTo s.completeStatus.freezeView).status
  change s.settleScene.status = _ at hstatus
  rw [hstatus]
  cases h : s.status.draft with
  | none => simp [State.completeStatus, State.freezeView, h]
  | some d => simp [State.completeStatus, State.freezeView, h]

theorem execPageHoldExpiry_of_due {s : State} (hload : s.loadDue = false) (hhold : s.scene.hold = some 0) :
    exec .pageHoldExpiry s = .next s.holdPop.settleScene := by
  change execPageHoldExpiry s = _
  rw [execPageHoldExpiry, s.settleLoad_of_not_due hload, State.settleHold, if_pos (s.holdDue_iff.2 hhold)]

/-- Settles O50: a pop is that of the top entry or of the empty stack; the timer's pop is followed by scene settled. -/
theorem pagePopRestoresTheTopEntry : Obligations.PagePopRestoresTheTopEntry := by
  refine ⟨fun s b => ⟨fun e rest h => ?_, fun h => ?_⟩, fun s => ⟨fun h => if_neg (mt s.holdDue_iff.1 h),
    fun h => ⟨if_pos (s.holdDue_iff.2 h), fun e rest => State.holdPop_of_cons, State.holdPop_of_nil⟩⟩,
    fun s hload hhold => ⟨_, execPageHoldExpiry_of_due hload hhold, ?_⟩⟩
  · simp only [applyHot, h]
    rfl
  · simp only [applyHot, h]
  · have hpop := s.holdPop_controlsTo
    have htables := s.holdPop_keepsTables.tables
    obtain ⟨hgroup, hlane⟩ := s.holdPop_keeps
    obtain ⟨hsent, hpacket, hnone⟩ := s.holdPop.settleScene_packet
    rw [hpop.draft] at hpacket hnone
    refine ⟨s.holdPop.settleScene_scene, fun g => s.holdPop.settleScene_flagged, ?_, ?_, ?_, ?_, ?_, ?_, ?_, ?_, hsent,
      hpacket, fun h => (hnone h).trans hlane⟩
    · rw [State.settleScene_view, State.settleScene_scene, htables, hpop.raster, State.loading_congr hpop.store]
    all_goals simp only [State.settleScene_tables, State.settleScene_library, State.settleScene_store,
      State.settleScene_raster, State.settleScene_group, State.settleScene_panel, State.settleScene_straps]
    exacts [htables, hpop.library, hpop.store, hpop.raster, hgroup, hpop.panel, hpop.straps]

end Sys2Proof.Machine

/-! SUPPORT. The leader's decision at a frame start (R141, R142) and the line filter with the pulse that a member
recognizes (R146, R147), equation by equation, with the statement O41. -/

namespace Sys2Proof.Machine

/-! ### The frame start in ARMED-group (R141, R142) -/

section Decision
variable {s : State}

theorem State.groupFrameStart_of_other (h : s.scene.phase ≠ .armedGroup) : s.groupFrameStart = s := if_neg h

theorem State.groupFrameStart_of_decided (hphase : s.scene.phase = .armedGroup) (hrole : s.group.role = .leader)
    (hready : s.readyHigh = true) :
    s.groupFrameStart =
      { s with
        scene := { s.scene with phase := .committed }
        group := { s.group with window := none, pulse := some 8 } } :=
  (if_pos hphase).trans (if_pos ⟨hrole, hready⟩)

theorem State.groupFrameStart_of_undecided {n : Nat} (hphase : s.scene.phase = .armedGroup)
    (hwindow : s.group.window = some n) (h : s.group.role = .member ∨ s.readyHigh = false) :
    s.groupFrameStart = { s with group := { s.group with window := some (n + 1) } } := by
  have hwaits : ¬(s.group.role = .leader ∧ s.readyHigh = true) := by
    rintro ⟨hrole, hready⟩
    rcases h with h | h
    · exact Role.noConfusion (hrole.symm.trans h)
    · exact Bool.noConfusion (hready.symm.trans h)
  refine (if_pos hphase).trans ((if_neg hwaits).trans ?_)
  rw [hwindow, Option.getD_some]

end Decision

/-! ### A recognized pulse (R147) -/

section Pulse
variable {s : State}

theorem State.pulseRecognized_of_armedGroup (h : s.scene.phase = .armedGroup) : s.pulseRecognized = s.commit := by
  simp only [State.pulseRecognized, h]

theorem State.pulseRecognized_of_missed
    (h : s.scene.phase = .seeding ∨ s.scene.phase = .editing ∨ s.scene.phase = .draining) :
    s.pulseRecognized = s.raise .missedFlip := by
  rcases h with h | h | h <;> simp only [State.pulseRecognized, h]

theorem State.pulseRecognized_of_ignored
    (h : s.scene.phase = .settled ∨ s.scene.phase = .armedLocal ∨ s.scene.phase = .committed ∨
      s.scene.phase = .saving ∨ s.scene.phase = .recalling) : s.pulseRecognized = s := by
  rcases h with h | h | h | h | h <;> simp only [State.pulseRecognized, h]

end Pulse

/-- A recognized pulse leaves the line filter as it stands. -/
theorem State.pulseRecognized_filter (s : State) :
    s.pulseRecognized.group.filterHigh = s.group.filterHigh ∧
      s.pulseRecognized.group.filterRun = s.group.filterRun := by
  unfold State.pulseRecognized
  cases s.scene.phase <;> exact ⟨rfl, rfl⟩

/-! ### The line filter (R146) -/

/-- The line filter behind the third sample in a row that differs: it holds the level of GRP_FLIP. -/
def State.takeLevel (s : State) : State :=
  { s with group := { s.group with filterHigh := s.flipHigh, filterRun := 0 } }

section Filter
variable {s : State}

theorem State.sampleFlip_of_not_sampling (h : s.group.sampling = false) : s.sampleFlip = s := by
  simp only [State.sampleFlip, h, Bool.false_eq_true, if_false]

theorem State.sampleFlip_of_same (hsampling : s.group.sampling = true) (hsame : s.flipHigh = s.group.filterHigh) :
    s.sampleFlip = { s with group := { s.group with filterRun := 0 } } :=
  (if_pos hsampling).trans (if_pos hsame)

theorem State.sampleFlip_of_run (hsampling : s.group.sampling = true) (hdiffers : s.flipHigh ≠ s.group.filterHigh)
    (hrun : s.group.filterRun < 2) :
    s.sampleFlip = { s with group := { s.group with filterRun := s.group.filterRun + 1 } } :=
  (if_pos hsampling).trans ((if_neg hdiffers).trans (if_pos (Nat.succ_lt_succ hrun)))

/-- The third sample in a row that differs is taken, and a change to high is a recognized pulse. -/
theorem State.sampleFlip_of_third (hsampling : s.group.sampling = true) (hdiffers : s.flipHigh ≠ s.group.filterHigh)
    (hrun : 2 ≤ s.group.filterRun) :
    s.sampleFlip = if s.flipHigh then s.takeLevel.pulseRecognized else s.takeLevel :=
  (if_pos hsampling).trans ((if_neg hdiffers).trans (if_neg (by omega)))

/-- Whether a pulse is recognized or not, the filter then holds the level, with no sample counted against it. -/
theorem State.sampleFlip_filter_of_third (hsampling : s.group.sampling = true)
    (hdiffers : s.flipHigh ≠ s.group.filterHigh) (hrun : 2 ≤ s.group.filterRun) :
    s.sampleFlip.group.filterHigh = s.flipHigh ∧ s.sampleFlip.group.filterRun = 0 := by
  rw [State.sampleFlip_of_third hsampling hdiffers hrun]
  split
  · exact s.takeLevel.pulseRecognized_filter
  · exact ⟨rfl, rfl⟩

end Filter

/-- Settles O41: the frame start by the decision, the sample by the filter's run, and the third sample that differs by
the level and, where it is high, by the scene state at which the pulse is recognized. -/
theorem groupLinesDecideAndAreFiltered : Obligations.GroupLinesDecideAndAreFiltered := by
  refine ⟨fun s n hphase hwindow => ⟨State.groupFrameStart_of_decided hphase,
      State.groupFrameStart_of_undecided hphase hwindow⟩, fun s => State.groupFrameStart_of_other,
    fun s => ⟨State.sampleFlip_of_not_sampling, fun hsampling => ⟨State.sampleFlip_of_same hsampling,
      State.sampleFlip_of_run hsampling, fun hdiffers hrun => ?_⟩⟩⟩
  have hthird := State.sampleFlip_of_third hsampling hdiffers hrun
  obtain ⟨hfilter, hcount⟩ := State.sampleFlip_filter_of_third hsampling hdiffers hrun
  have harmed : s.sampleFlip.scene.armed = s.scene.armed := by rw [State.sampleFlip_scene]
  have hhigh : s.flipHigh = true → s.sampleFlip = s.takeLevel.pulseRecognized := fun h => hthird.trans (if_pos h)
  have hlow : s.flipHigh = false → s.sampleFlip = s.takeLevel := fun h =>
    hthird.trans (if_neg (by simp [h]))
  refine ⟨hfilter, hcount, s.sampleFlip_tables, harmed, fun h hphase => ?_, fun h hphase => ?_, fun h => ?_⟩
  · rw [hhigh h, State.pulseRecognized_of_armedGroup (s := s.takeLevel) hphase]
    exact ⟨rfl, rfl⟩
  · rw [hhigh h, State.pulseRecognized_of_missed (s := s.takeLevel) hphase]
    exact ⟨rfl, s.takeLevel.flagged_raise .missedFlip⟩
  · have hkept : s.sampleFlip = s.takeLevel := by
      by_cases hlevel : s.flipHigh = true
      · have hphase := h.resolve_left (by simp [hlevel])
        exact (hhigh hlevel).trans (State.pulseRecognized_of_ignored (s := s.takeLevel) hphase)
      · exact hlow (Bool.eq_false_of_not_eq_true hlevel)
    rw [hkept]
    exact ⟨rfl, rfl⟩

end Sys2Proof.Machine

/-! SUPPORT. What an output frame start leaves of the status unit: the packet on the lane cut off, the frame counted, a
read request taken, the next packet begun (R160, R166, R169). -/

namespace Sys2Proof.Machine

/-! ### The read request taken (R169) -/

/-- The taking of a read request looks at the read queue, the store read and the store reply alone. -/
theorem State.serveRead_congr {s t : State} (hreply : t.status.storeReply = s.status.storeReply)
    (hread : t.status.storeRead = s.status.storeRead) (hqueue : t.status.readQ = s.status.readQ) :
    t.serveRead.2 = s.serveRead.2 ∧ t.serveRead.1.status.readQ = s.serveRead.1.status.readQ := by
  unfold State.serveRead
  rw [hreply, hread, hqueue]
  split
  · exact ⟨rfl, hqueue⟩
  · exact ⟨rfl, hqueue⟩
  · exact ⟨rfl, hqueue⟩
  · split <;> exact ⟨rfl, rfl⟩

/-- One request at most leaves the read queue. -/
theorem State.serveRead_readQ_length_le (s : State) : s.serveRead.1.status.readQ.length ≤ s.status.readQ.length := by
  unfold State.serveRead
  split
  · exact le_rfl
  · exact le_rfl
  · exact le_rfl
  · rename_i q qs _ _ hqueue
    rw [hqueue]
    split <;> exact Nat.le_succ _

/-- The packet that a frame start begins: what it takes of the frame just ended, and the free entries of the upload and
read queues behind the request taken (R166). -/
def State.newDraft (s : State) : StatusDraft where
  lock := s.raster.lock
  late := s.builder.late
  watch := s.watchResult
  uploadFree := 32 - s.library.uploads.length
  readFree := 4 - s.serveRead.1.status.readQ.length
  request := s.serveRead.2.1
  reply := s.serveRead.2.2

/-! ### The frame opened -/

/-- The frame opened, at the status unit: the lane cut off at some byte, the frame counted unless it is the first, one
request taken, the packet begun (R166, R169). -/
theorem State.openFrame_status (src : Source) (s : State) :
    (s.openFrame src).status.frameCount =
        (if s.status.framed then s.status.frameCount + 1 else s.status.frameCount) ∧
      (∃ n, (s.openFrame src).status.laneBefore = s.status.lane.take n) ∧ (s.openFrame src).status.lane = [] ∧
      (s.openFrame src).status.readQ = s.serveRead.1.status.readQ ∧
      (s.openFrame src).status.draft = some s.newDraft := by
  unfold State.openFrame
  simp only
  generalize hclosed : State.closeBuilder _ = c
  obtain ⟨n, k, hcut⟩ := c.cutPacket_cases
  rw [hcut]
  generalize hlane : ({ c with tick := k, status := _ } : State) = l
  have hstatus : c.status = s.status := by rw [← hclosed]; rfl
  obtain ⟨htaken, hqueue⟩ : l.serveRead.2 = s.serveRead.2 ∧
      l.serveRead.1.status.readQ = s.serveRead.1.status.readQ := by
    apply State.serveRead_congr <;> rw [← hlane, ← hstatus]
  obtain ⟨q, m, r, hserve⟩ := l.serveRead_cases
  have hdraft : State.newDraft s =
      { lock := l.raster.lock
        late := s.builder.late
        watch := s.watchResult
        uploadFree := 32 - l.library.uploads.length
        readFree := 4 - l.serveRead.1.status.readQ.length
        request := l.serveRead.2.1
        reply := l.serveRead.2.2 } := by
    rw [htaken, hqueue, ← hlane, ← hclosed]
    rfl
  rw [hdraft, ← hqueue]
  unfold State.beginStatus
  simp only [hserve]
  rw [← hlane, hstatus]
  refine ⟨rfl, ⟨n, rfl⟩, rfl, ?_⟩
  simp

/-- The scene controller and the group sync unit leave the frame count, the lane and the request to be taken. -/
theorem State.ControlsTo.sending {s t : State} (h : s.ControlsTo t) :
    t.status.frameCount = s.status.frameCount ∧ t.status.framed = s.status.framed ∧ t.status.lane = s.status.lane ∧
      t.status.laneBefore = s.status.laneBefore ∧ t.status.readQ = s.status.readQ ∧
      t.serveRead.2 = s.serveRead.2 ∧ t.serveRead.1.status.readQ = s.serveRead.1.status.readQ := by
  obtain ⟨tb, sc, g, v, r, w, rfl, -, -⟩ := h
  exact ⟨rfl, rfl, rfl, rfl, rfl, State.serveRead_congr rfl rfl rfl⟩

/-- The pop that may be due first touches nothing that the packet takes. -/
theorem State.popIfDue_newDraft (s : State) : s.popIfDue.newDraft = s.newDraft := by
  have hto := s.popIfDue_controlsTo
  obtain ⟨-, -, -, -, -, htaken, hqueue⟩ := hto.sending
  have hwatch : s.popIfDue.watchResult = s.watchResult := by
    rcases s.popIfDue_cases with ⟨-, h⟩ | ⟨-, ⟨e, rest, -, h⟩ | ⟨-, h⟩⟩ <;> rw [h] <;> rfl
  unfold State.newDraft
  rw [htaken, hqueue, hwatch, hto.raster, hto.builder, hto.library]

/-- An output frame start up to scene settled, at the status unit (R166, R169). -/
theorem State.beginFrame_status (src : Source) (s : State) :
    (s.beginFrame src).status.frameCount =
        (if s.status.framed then s.status.frameCount + 1 else s.status.frameCount) ∧
      (∃ n, (s.beginFrame src).status.laneBefore = s.status.lane.take n) ∧ (s.beginFrame src).status.lane = [] ∧
      (s.beginFrame src).status.readQ = s.serveRead.1.status.readQ ∧
      (s.beginFrame src).status.draft = some s.newDraft := by
  have hto := s.beginFrame_controlsTo src
  obtain ⟨hcount, -, hlane, hbefore, hqueue, -⟩ := hto.sending
  obtain ⟨hcount', hframed', hlane', -, -, -, hserved⟩ := s.popIfDue_controlsTo.sending
  have hopen := s.popIfDue.openFrame_status src
  rw [hcount', hframed', hlane', hserved, s.popIfDue_newDraft] at hopen
  rwa [hcount, hbefore, hlane, hqueue, hto.draft]

end Sys2Proof.Machine

/-! SUPPORT. The law of the five queues: every operation keeps it, and so does every command (R103, R155). -/

namespace Sys2Proof.Machine

/-! ### The fill queue under the builder's reads (R99, R103, R108) -/

/-- The fill queue within its 8 entries (R103). -/
def Cache.fillLaw (c : Cache) : Prop := c.fills.length ≤ 8

theorem Cache.fillLaw.addFill {c : Cache} (hroom : c.fills.length < 8) (t n : Nat) (d : Bool) :
    (c.addFill t n d).fillLaw := by
  rw [Cache.fillLaw, Cache.addFill_fills, List.length_append]
  exact hroom

/-- A read makes an entry only where the queue has room (R99). -/
theorem Cache.fillLaw.read {c : Cache} (hc : c.fillLaw) (t n : Nat) : (c.read t n).1.fillLaw := by
  rcases c.read_cases t n with ⟨h, -⟩ | ⟨h, -, -⟩ | ⟨h, -, -, hroom⟩ | ⟨ws, i, -, -, hroom, h⟩ | ⟨h, -⟩ <;> rw [h]
  · exact hc
  · exact (List.length_map _).trans_le hc
  · exact .addFill hroom t n true
  · exact .addFill (c := c.setWays t (ws.set i (.allocated t))) hroom t n true
  · exact hc

/-- A prefetch is made only where at most 4 entries wait (R108). -/
theorem Cache.fillLaw.prefetch {c : Cache} (hc : c.fillLaw) (t n : Nat) : (c.prefetch t n).fillLaw := by
  rcases c.prefetch_cases t n with h | ⟨-, -, hfew, ⟨-, h⟩ | ⟨i, -, -, h⟩⟩ <;> rw [h]
  · exact hc
  · exact .addFill (by omega) t n false
  · exact .addFill (c := c.setWays t ((c.ways t).set i (.allocated t))) (Nat.lt_of_le_of_lt hfew (by decide)) t n false

theorem Cache.fillLaw.considerPrefetch {c : Cache} (hc : c.fillLaw) (p : PhotoRef) (t n : Nat) :
    (c.considerPrefetch p t n).fillLaw := by
  unfold Cache.considerPrefetch
  split
  · exact hc
  · exact hc.prefetch _ _

/-- A grant marks its entry in its place (R109). -/
theorem Cache.fillLaw.grant {c : Cache} (hc : c.fillLaw) (f : Fill) (bytes : List Byte) : (c.grant f bytes).fillLaw :=
  (List.length_map _).trans_le hc

theorem State.readFor_fillLaw {s : State} (hs : s.cache.fillLaw) (q : PixelSource) : (s.readFor q).1.cache.fillLaw := by
  have hread := hs.read q.tile q.sector
  unfold State.readFor
  simp only
  cases (s.cache.read q.tile q.sector).2 with
  | hit | joined | demanded =>
    simp only
    split
    · exact hread.considerPrefetch _ _ _
    · exact hread
  | noRoom | noWay => exact hread

theorem State.fetch_fillLaw {s : State} (hs : s.cache.fillLaw) (src : Option PixelSource) :
    (s.fetch src).1.cache.fillLaw := by
  unfold State.fetch
  split
  · exact hs
  · split
    · exact hs
    · exact State.readFor_fillLaw hs _

theorem produce_fillLaw (e : LineEntry) (line n x : Nat) {s : State} (hs : s.cache.fillLaw) :
    (produce e line n x s).1.cache.fillLaw := by
  induction n generalizing x s with
  | zero => exact hs
  | succ n ih =>
    have hfetch := State.fetch_fillLaw hs (e.source line x)
    rw [produce]
    split <;> rename_i h <;> rw [h] at hfetch
    · exact hfetch
    · exact ih _ (by rwa [placeAll_cache])

theorem workEntry_fillLaw (line : Nat) (e : LineEntry) {s : State} (hs : s.cache.fillLaw) :
    (workEntry line e s).2.1.cache.fillLaw := by
  unfold workEntry
  split
  · exact hs
  · exact hs
  · rename_i a b _ _
    have h := produce_fillLaw e line (b + 1 - a) a (s := s.readerIdle) hs
    split <;> rename_i hp <;> rwa [hp] at h
  · rename_i next _ b _ _
    have h := produce_fillLaw e line (b + 1 - next) next hs
    split <;> rename_i hp <;> rwa [hp] at h

theorem workList_fillLaw (line : Nat) (es : List LineEntry) {s : State} (hs : s.cache.fillLaw) :
    (workList line es s).2.1.cache.fillLaw := by
  induction es generalizing s with
  | nil => exact hs
  | cons e es ih =>
    have he := workEntry_fillLaw line e hs
    rw [workList]
    split <;> rename_i h <;> rw [h] at he
    · exact he
    · exact ih he

theorem runBuilder_fillLaw (n : Nat) {s : State} (hs : s.cache.fillLaw) : (runBuilder n s).cache.fillLaw := by
  induction n generalizing s with
  | zero => exact hs
  | succ n ih =>
    rw [runBuilder]
    split
    · rename_i w _
      have hw := workList_fillLaw w.line w.entries hs
      split
      · exact hs
      · split <;> rename_i s1 h <;> rw [h] at hw
        · exact ih (s := { s1 with builder := { s1.builder with work := none, reader := .idle } }) hw
        · exact hw
    · split
      · exact hs
      · rename_i h
        exact ih (by rwa [State.takeUp_cache h])

/-! ### The law, operation by operation -/

/-- The builder's work leaves the other four queues as they were. -/
theorem State.BuildsTo.queueLaw {s t : State} (h : s.BuildsTo t) (hs : s.queueLaw) (hfills : t.cache.fillLaw) :
    t.queueLaw := by
  obtain ⟨b, c, v, rfl, -⟩ := h
  obtain ⟨htable, hhot, huploads, hread, -⟩ := hs
  exact ⟨htable, hhot, huploads, hread, hfills⟩

theorem State.queueLaw.fills {s : State} (hs : s.queueLaw) : s.cache.fillLaw := by
  obtain ⟨-, -, -, -, hfills⟩ := hs
  exact hfills

/-- What moves no entry of a queue keeps the law; the table queue's entries may change in their places. -/
theorem State.queueLaw.of_eq {s t : State} (hs : s.queueLaw)
    (htable : t.scene.tableQ.length = s.scene.tableQ.length) (hhot : t.scene.hotQ = s.scene.hotQ)
    (huploads : t.library.uploads = s.library.uploads) (hread : t.status.readQ = s.status.readQ)
    (hfills : t.cache.fills = s.cache.fills) : t.queueLaw := by
  unfold State.queueLaw
  rw [htable, hhot, huploads, hread, hfills]
  exact hs

section Operations
variable {s : State} (hs : s.queueLaw)
include hs

theorem State.build_queueLaw : s.build.queueLaw := s.build_buildsTo.queueLaw hs (runBuilder_fillLaw 10 hs.fills)

/-- Scene settled sends the packet, freezes the view and goes on building (R166, R46). -/
theorem State.settleScene_queueLaw : s.settleScene.queueLaw := by
  unfold State.settleScene State.completeStatus
  split
  · exact State.build_queueLaw (s := s.freezeView) hs
  · exact State.build_queueLaw
      (s := State.freezeView { s with status := { s.status with lane := _, draft := none } }) hs

theorem State.popIfDue_queueLaw : s.popIfDue.queueLaw := by
  rcases s.popIfDue_cases with ⟨-, h⟩ | ⟨-, ⟨e, rest, -, h⟩ | ⟨-, h⟩⟩ <;> rw [h] <;> exact hs

theorem State.settleHold_queueLaw : s.settleHold.queueLaw := by
  have hpop := State.popIfDue_queueLaw hs
  unfold State.popIfDue at hpop
  unfold State.settleHold
  split
  · rename_i hdue
    rw [if_pos hdue] at hpop
    exact State.settleScene_queueLaw hpop
  · exact hs

theorem State.enterArmed_queueLaw : s.enterArmed.queueLaw := by
  unfold State.enterArmed
  split <;> exact hs

theorem State.leaderWindowEnds_queueLaw : s.leaderWindowEnds.queueLaw := by
  unfold State.leaderWindowEnds
  dsimp only
  split
  · split <;> exact hs
  · exact hs

theorem State.settleDrained_queueLaw : s.settleDrained.queueLaw := by
  unfold State.settleDrained
  split
  · exact State.enterArmed_queueLaw hs
  · exact hs

theorem State.settleCredit_queueLaw : s.settleCredit.queueLaw := by
  unfold State.settleCredit
  split <;> exact hs

theorem State.settlePulse_queueLaw : s.settlePulse.queueLaw := by
  unfold State.settlePulse
  split <;> exact hs

theorem State.settleLeaderWindow_queueLaw : s.settleLeaderWindow.queueLaw := by
  unfold State.settleLeaderWindow
  split
  · exact State.leaderWindowEnds_queueLaw hs
  · exact hs

theorem State.settleMemberWindow_queueLaw : s.settleMemberWindow.queueLaw := by
  unfold State.settleMemberWindow
  split <;> exact hs

theorem State.settleCounters_queueLaw : s.settleCounters.queueLaw :=
  State.settleMemberWindow_queueLaw (State.settleLeaderWindow_queueLaw
    (State.settlePulse_queueLaw (State.settleCredit_queueLaw (State.settleDrained_queueLaw hs))))

/-! ### The image (R174, R175) -/

/-- A sector that the loader writes makes the fills of it void in their places (R111, R116). -/
theorem State.writeSector_queueLaw (t n : Nat) (bs : List Byte) : (s.writeSector t n bs).queueLaw := by
  obtain ⟨htable, hhot, huploads, hread, hfills⟩ := hs
  exact ⟨htable, hhot, huploads, hread, (List.length_map _).trans_le hfills⟩

theorem loadAct_queueLaw (a : ImageAct) : (loadAct a s).queueLaw := by
  cases a with
  | config f => exact hs
  | entry table i bs =>
    simp only [loadAct]
    split <;> exact hs
  | sector t n bs => exact State.writeSector_queueLaw hs t n bs

theorem recallAct_queueLaw (a : ImageAct) : (recallAct a s).queueLaw := by
  cases a with
  | entry table i bs =>
    simp only [recallAct]
    split <;> exact hs
  | config f => exact hs
  | sector t n bs => exact hs

theorem State.applyImage_loadAct_queueLaw (n : Nat) : (s.applyImage loadAct n).queueLaw :=
  s.applyImage_keeps n (fun a _ _ hu => loadAct_queueLaw hu a) (fun _ _ hu => hu) hs

theorem State.applyImage_recallAct_queueLaw (n : Nat) : (s.applyImage recallAct n).queueLaw :=
  s.applyImage_keeps n (fun a _ _ hu => recallAct_queueLaw hu a) (fun _ _ hu => hu) hs

theorem State.loadEnds_queueLaw : s.loadEnds.queueLaw := by
  have himage : (s.applyImageRest loadAct).queueLaw := State.applyImage_loadAct_queueLaw hs _
  unfold State.loadEnds
  generalize s.applyImageRest loadAct = u at himage ⊢
  cases s.imageOutcome <;> exact himage

theorem State.recallEnds_queueLaw : s.recallEnds.queueLaw := by
  have himage : (s.applyImageRest recallAct).queueLaw := State.applyImage_recallAct_queueLaw hs _
  unfold State.recallEnds
  generalize s.applyImageRest recallAct = u at himage ⊢
  cases s.imageOutcome <;> exact himage

theorem State.settleLoad_queueLaw : s.settleLoad.queueLaw := by
  unfold State.settleLoad
  split
  · exact State.loadEnds_queueLaw hs
  · exact hs

theorem State.background_queueLaw : s.background.queueLaw := by
  unfold State.background
  split
  · exact State.applyImage_loadAct_queueLaw hs _
  · split
    · exact State.applyImage_recallAct_queueLaw hs _
    · rcases s.saveGoesOn_cases with ⟨-, h⟩ | ⟨j, -, -, -, h⟩ <;> rw [h] <;> exact hs

/-- What stands before a command keeps the law (log 4). -/
theorem State.Before.queueLaw {u : State} (h : s.Before u) : u.queueLaw := by
  have hload := State.settleLoad_queueLaw hs
  cases h with
  | settleLoad => exact hload
  | prelude =>
    exact State.background_queueLaw (State.settleCounters_queueLaw (State.settleHold_queueLaw hload))
  | rasterPrelude => exact State.background_queueLaw (State.settleCounters_queueLaw hload)

/-! ### Frame starts and line starts -/

/-- An output frame start empties the hot queue and takes one read request at most (R130, R166, R169). -/
theorem State.outputFrameStart_queueLaw (src : Source) : (s.outputFrameStart src).queueLaw := by
  have hbegin : (s.beginFrame src).queueLaw := by
    obtain ⟨htable, -, huploads, hread, hfills⟩ := hs
    obtain ⟨-, hscene, -⟩ := s.beginFrame_update src
    obtain ⟨hhot', htable'⟩ := s.hotUpdate_queues
    unfold State.queueLaw
    rw [hscene, hhot', htable', s.beginFrame_library, s.beginFrame_cache]
    obtain ⟨-, -, -, hqueue, -⟩ := s.beginFrame_status src
    rw [hqueue]
    exact ⟨htable, Nat.zero_le _, huploads, s.serveRead_readQ_length_le.trans hread, hfills⟩
  rcases s.outputFrameStart_cases src with ⟨-, h⟩ | ⟨-, h⟩ <;> rw [h]
  · exact hbegin
  · exact State.settleScene_queueLaw hbegin

/-- The line filter's sample moves the scene state at most (R146, R147). -/
theorem State.sampleFlip_queueLaw : s.sampleFlip.queueLaw := by
  have hto := s.sampleFlip_controlsTo
  have hstatus : s.sampleFlip.status.readQ = s.status.readQ := by
    obtain ⟨_, _, _, _, _, _, h, -⟩ := hto
    rw [h]
  refine hs.of_eq ?_ ?_ (congrArg Library.uploads hto.library) hstatus (congrArg Cache.fills hto.cache) <;>
    rw [State.sampleFlip_scene]

/-- An output line start composes its line, and the clocked counters move no queue (R15, R113, R144). -/
theorem State.outputLineStart_queueLaw (background : List Rgb) : (s.outputLineStart background).queueLaw := by
  have hdeadline : ∀ y, (s.deadline y).queueLaw := fun y =>
    (s.deadline_buildsTo y).queueLaw hs (by rw [State.deadline_cache]; exact hs.fills)
  have hmixed : ∀ y, ((s.deadline y).mix y background).queueLaw := fun y => by
    rw [State.mix_eq]
    exact hdeadline y
  have hcompose : (s.composeLine background).queueLaw :=
    State.build_queueLaw (s := ((s.deadline s.raster.nextLine).mix _ background).freeLineBefore _) (hmixed _)
  rw [State.outputLineStart_eq, State.clockLine_eq]
  generalize s.composeLine background = u at hcompose ⊢
  exact State.sampleFlip_queueLaw hcompose

/-! ### The receiver and the library -/

/-- A packet joins the tail of a queue that has room (R155). -/
theorem dispatch_queueLaw (k : Packet) : (dispatch k s).queueLaw := by
  obtain ⟨htable, hhot, huploads, hread, hfills⟩ := id hs
  have hone : ∀ {α : Type} {q : List α} {n : Nat} (x : α), q.length < n → (q ++ [x]).length ≤ n := fun x h => by
    rw [List.length_append]
    exact h
  rcases dispatch_cases k s with ⟨c, -, hroom, h⟩ | ⟨c, -, hroom, h⟩ | ⟨u, -, hroom, h⟩ | ⟨r, -, hroom, h⟩ | ⟨f, h⟩ <;>
    rw [h]
  · exact ⟨hone c hroom, hhot, huploads, hread, hfills⟩
  · exact ⟨htable, hone c hroom, huploads, hread, hfills⟩
  · exact ⟨htable, hhot, hone u hroom, hread, hfills⟩
  · exact ⟨htable, hhot, huploads, hone r hroom, hfills⟩
  · exact hs

theorem State.receiveControl_queueLaw (f : InFrame) (cols : List Rgb) : (s.receiveControl f cols).queueLaw := by
  unfold State.receiveControl
  dsimp only
  split
  · exact hs
  · split
    · exact hs
    · exact parseFrom_keeps (P := State.queueLaw) (fun _ _ hu => hu) (fun k _ hu => dispatch_queueLaw hu k) _ _ hs

/-- A granted upload leaves the head of its queue, and its disposal counts in the table queue's entries in their places
(R111, R115, R126). -/
theorem State.grantUpload_queueLaw {u : Upload} {rest : List Upload} (hhead : s.library.uploads = u :: rest) :
    (s.grantUpload u rest).queueLaw := by
  have htook : State.queueLaw { s with library := { s.library with uploads := rest }.creditGrant } := by
    obtain ⟨htable, hhot, huploads, hread, hfills⟩ := hs
    rw [hhead] at huploads
    rw [Library.creditGrant_eq]
    exact ⟨htable, hhot, (Nat.le_succ _).trans huploads, hread, hfills⟩
  have hdispose : ∀ {v : State}, v.queueLaw → v.dispose.queueLaw := fun {v} hv =>
    hv.of_eq (List.length_map _) rfl rfl rfl rfl
  refine hdispose ?_
  split
  · exact htook
  · exact State.writeSector_queueLaw htook _ _ _

/-- A completion takes its entry out of the fill queue, and the builder goes on (R102, R105). -/
theorem State.completeFill_queueLaw (r : GrantedRead) (rest : List GrantedRead) : (s.completeFill r rest).queueLaw := by
  have hcomplete : State.queueLaw { s with cache := s.cache.complete r rest } := by
    obtain ⟨htable, hhot, huploads, hread, hfills⟩ := hs
    refine ⟨htable, hhot, huploads, hread, ?_⟩
    exact (List.length_filter_le _ _).trans hfills
  have hwake : ∀ {v : State}, v.queueLaw → (v.wake r.tile r.sector).queueLaw := fun {v} hv => by
    unfold State.wake
    split
    · exact hv
    · exact hv
    · exact hv
    · split
      · split <;> exact hv
      · exact hv
  exact State.build_queueLaw (hwake hcomplete)

/-! ### The commands of the table queue and of the store -/

theorem State.takeHead_queueLaw : s.takeHead.queueLaw := by
  obtain ⟨htable, hhot, huploads, hread, hfills⟩ := hs
  exact ⟨(List.length_tail.trans_le (Nat.sub_le _ _)).trans htable, hhot, huploads, hread, hfills⟩

theorem State.openStage_queueLaw : s.openStage.queueLaw := by
  unfold State.openStage
  split <;> exact hs

theorem State.writeTable_queueLaw (w : TableWriteCmd) : (s.writeTable w).queueLaw := by
  unfold State.writeTable
  repeat' split
  all_goals exact hs

theorem State.armFlip_queueLaw (f : FlipArmCmd) : (s.armFlip f).queueLaw := by
  unfold State.armFlip
  split
  · exact hs
  · split
    · exact hs
    · split
      · exact hs
      · dsimp only
        split
        · exact State.enterArmed_queueLaw (s := { s with scene := { s.scene with armed := some f.record } }) hs
        · exact hs

theorem State.cancelFlip_queueLaw : s.cancelFlip.queueLaw := by
  unfold State.cancelFlip
  split <;> exact hs

theorem State.discardStage_queueLaw : s.discardStage.queueLaw := by
  unfold State.discardStage
  split <;> exact hs

theorem State.writeConfig_queueLaw (mask : Nat) (data : List Byte) : (s.writeConfig mask data).queueLaw := by
  unfold State.writeConfig
  split
  · exact hs
  · exact hs.of_eq rfl rfl rfl rfl rfl

theorem State.startSave_queueLaw : s.startSave.queueLaw := by
  unfold State.startSave
  repeat' split
  all_goals exact hs

theorem State.startRecall_queueLaw : s.startRecall.queueLaw := by
  unfold State.startRecall
  repeat' split
  all_goals exact hs

theorem State.startProtect_queueLaw (named : BitVec 16) : (s.startProtect named).queueLaw := by
  unfold State.startProtect
  repeat' split
  all_goals exact hs

theorem State.saveSector_queueLaw (j : SaveJob) (area : Nat) (rest : List Nat) :
    (s.saveSector j area rest).queueLaw := by
  unfold State.saveSector
  dsimp only
  split <;> exact hs

theorem State.protectEnds_queueLaw : s.protectEnds.queueLaw := by
  unfold State.protectEnds
  split
  · exact hs
  · exact hs.of_eq rfl rfl rfl rfl rfl

theorem State.programTimeout_queueLaw : s.programTimeout.queueLaw := by
  unfold State.programTimeout
  split
  · split
    · obtain ⟨k, m, h⟩ := s.saveStops_cases
      rw [h]
      exact hs
    · exact hs
  · obtain ⟨k, m, h⟩ := s.protectStops_cases
    rw [h]
    exact hs
  · exact hs

/-! ### The raster -/

theorem State.blankIfInput_queueLaw : s.blankIfInput.queueLaw := by
  obtain ⟨p, h⟩ := s.blankIfInput_eq
  rw [h]
  exact hs

theorem State.cutLine_queueLaw : s.cutLine.queueLaw := by
  obtain ⟨p, k, r, h⟩ := s.cutLine_eq
  rw [h]
  exact hs

theorem State.judgeFrame_queueLaw : s.judgeFrame.queueLaw := by
  obtain ⟨v, h⟩ := s.judgeFrame_eq
  rw [h]
  exact hs

theorem State.loseInput_queueLaw : s.loseInput.queueLaw := by
  cases hlock : s.raster.lock.follows
  · rw [State.loseInput_of_not_follows hlock]
    exact hs
  · rw [State.loseInput_of_follows hlock]
    have hcut : s.lockLost.queueLaw := State.cutLine_queueLaw hs
    exact State.outputFrameStart_queueLaw hcut .fallback

theorem State.inputFrameOutput_queueLaw (before : Lock) : (s.inputFrameOutput before).queueLaw := by
  unfold State.inputFrameOutput
  split
  · split
    · exact State.outputFrameStart_queueLaw hs .input
    · exact State.outputFrameStart_queueLaw (State.cutLine_queueLaw hs) .input
  · split
    · exact State.outputFrameStart_queueLaw hs .fallback
    · exact hs

end Operations

/-- A reset leaves every queue empty (R118, R138, R171). -/
theorem State.resetBlocks_queueLaw (s : State) : s.resetBlocks.queueLaw :=
  ⟨Nat.zero_le _, Nat.zero_le _, Nat.zero_le _, Nat.zero_le _, Nat.zero_le _⟩

end Sys2Proof.Machine

/-! SUPPORT. Every command keeps the law of the five queues, and from it O4. -/

namespace Sys2Proof.Machine

/-! ### The commands of the table queue (R121 to R128, R175 to R178) -/

theorem execStageOpen_queueLaw {s t : State} (hs : s.prelude.queueLaw) (h : execStageOpen s = .next t) :
    t.queueLaw := by
  unfold execStageOpen at h
  generalize s.prelude = u at h hs
  simp only at h
  split at h <;> cases h
  · exact State.openStage_queueLaw (State.takeHead_queueLaw hs)
  · exact hs

theorem execTableWrite_queueLaw {s t : State} (hs : s.prelude.queueLaw) (h : execTableWrite s = .next t) :
    t.queueLaw := by
  unfold execTableWrite at h
  generalize s.prelude = u at h hs
  simp only at h
  split at h <;> cases h
  · exact State.writeTable_queueLaw (State.takeHead_queueLaw hs) _
  · exact hs

theorem execFlipArm_queueLaw {s t : State} (hs : s.prelude.queueLaw) (h : execFlipArm s = .next t) : t.queueLaw := by
  unfold execFlipArm at h
  generalize s.prelude = u at h hs
  simp only at h
  split at h <;> cases h
  · exact State.armFlip_queueLaw (State.takeHead_queueLaw hs) _
  · exact hs

theorem execFlipCancel_queueLaw {s t : State} (hs : s.prelude.queueLaw) (h : execFlipCancel s = .next t) :
    t.queueLaw := by
  unfold execFlipCancel at h
  generalize s.prelude = u at h hs
  simp only at h
  split at h <;> cases h
  · exact State.cancelFlip_queueLaw (State.takeHead_queueLaw hs)
  · exact hs

theorem execStageDiscard_queueLaw {s t : State} (hs : s.prelude.queueLaw) (h : execStageDiscard s = .next t) :
    t.queueLaw := by
  unfold execStageDiscard at h
  generalize s.prelude = u at h hs
  simp only at h
  split at h <;> cases h
  · exact State.discardStage_queueLaw (State.takeHead_queueLaw hs)
  · exact hs

theorem execConfigWrite_queueLaw {s t : State} (hs : s.prelude.queueLaw) (h : execConfigWrite s = .next t) :
    t.queueLaw := by
  unfold execConfigWrite at h
  generalize s.prelude = u at h hs
  simp only at h
  split at h <;> cases h
  · exact State.writeConfig_queueLaw (State.takeHead_queueLaw hs) _ _
  · exact hs

theorem execStoreSave_queueLaw {s t : State} (hs : s.prelude.queueLaw) (h : execStoreSave s = .next t) :
    t.queueLaw := by
  unfold execStoreSave at h
  generalize s.prelude = u at h hs
  simp only at h
  split at h <;> cases h
  · exact State.startSave_queueLaw (State.takeHead_queueLaw hs)
  · exact hs

theorem execStoreRecall_queueLaw {s t : State} (hs : s.prelude.queueLaw) (h : execStoreRecall s = .next t) :
    t.queueLaw := by
  unfold execStoreRecall at h
  generalize s.prelude = u at h hs
  simp only at h
  split at h <;> cases h
  · exact State.startRecall_queueLaw (State.takeHead_queueLaw hs)
  · exact hs

theorem execStoreProtect_queueLaw {s t : State} (hs : s.prelude.queueLaw) (h : execStoreProtect s = .next t) :
    t.queueLaw := by
  unfold execStoreProtect at h
  generalize s.prelude = u at h hs
  simp only at h
  split at h <;> cases h
  · exact State.startProtect_queueLaw (State.takeHead_queueLaw hs) _
  · exact hs

theorem execRecallCompletion_queueLaw {s t : State} (hs : s.prelude.queueLaw) (h : execRecallCompletion s = .next t) :
    t.queueLaw := by
  unfold execRecallCompletion at h
  generalize s.prelude = u at h hs
  simp only at h
  split at h <;> cases h
  · exact State.recallEnds_queueLaw hs
  · exact hs

/-! ### The ends of store operations (R122, R169, R177) -/

theorem execSeedCompletion_queueLaw {s t : State} (hs : s.prelude.queueLaw) (h : execSeedCompletion s = .next t) :
    t.queueLaw := by
  unfold execSeedCompletion at h
  generalize s.prelude = u at h hs
  simp only at h
  split at h
  · cases h
    exact hs
  · split at h <;> cases h <;> exact hs
  · cases h
    exact hs

theorem execSaveReadGrant_queueLaw {s t : State} (hs : s.prelude.queueLaw) (h : execSaveReadGrant s = .next t) :
    t.queueLaw := by
  unfold execSaveReadGrant at h
  generalize s.prelude = u at h hs
  simp only at h
  split at h
  · split at h
    · cases h
      exact hs
    · split at h <;> cases h
      · exact State.saveSector_queueLaw hs _ _ _
      · exact hs
  · cases h
    exact hs

theorem execSaveCompletion_queueLaw {s t : State} (hs : s.prelude.queueLaw) (h : execSaveCompletion s = .next t) :
    t.queueLaw := by
  unfold execSaveCompletion at h
  generalize s.prelude = u at h hs
  simp only at h
  split at h
  · split at h <;> cases h <;> exact hs
  · cases h
    exact hs

theorem execStoreReadCompletion_queueLaw {s t : State} (hs : s.prelude.queueLaw)
    (h : execStoreReadCompletion s = .next t) : t.queueLaw := by
  unfold execStoreReadCompletion at h
  generalize s.prelude = u at h hs
  simp only at h
  split at h <;> cases h <;> exact hs

/-! ### The library (R105, R109, R111) -/

theorem execFillGrant_queueLaw {s t : State} (hs : s.prelude.queueLaw) (h : execFillGrant s = .next t) :
    t.queueLaw := by
  unfold execFillGrant at h
  generalize s.prelude = u at h hs
  simp only at h
  split at h <;> cases h
  · exact hs
  · obtain ⟨htable, hhot, huploads, hread, hfills⟩ := hs
    exact ⟨htable, hhot, huploads, hread, Cache.fillLaw.grant hfills _ _⟩

theorem execFillCompletion_queueLaw {s t : State} (hs : s.prelude.queueLaw) (h : execFillCompletion s = .next t) :
    t.queueLaw := by
  unfold execFillCompletion at h
  generalize s.prelude = u at h hs
  simp only at h
  split at h <;> cases h
  · exact hs
  · exact State.completeFill_queueLaw hs _ _

theorem execTileWrite_queueLaw {s t : State} (hs : s.prelude.queueLaw) (h : execTileWrite s = .next t) :
    t.queueLaw := by
  unfold execTileWrite at h
  generalize s.prelude = u at h hs
  simp only at h
  split at h
  · rename_i hhead
    split at h <;> cases h
    · exact State.grantUpload_queueLaw hs hhead
    · exact hs
  · cases h
    exact hs

/-! ### The receiver and the raster -/

theorem execControlLine_queueLaw {cols : List Rgb} {s t : State} (hs : s.rasterPrelude.queueLaw)
    (h : execControlLine cols s = .next t) : t.queueLaw := by
  unfold execControlLine at h
  generalize s.rasterPrelude = u at h hs
  simp only at h
  split at h <;> cases h
  · exact hs
  · exact State.blankIfInput_queueLaw (State.receiveControl_queueLaw hs _ _)

theorem execBlankingLine_queueLaw {s t : State} (hs : s.rasterPrelude.queueLaw) (h : execBlankingLine s = .next t) :
    t.queueLaw := by
  unfold execBlankingLine at h
  generalize s.rasterPrelude = u at h hs
  simp only at h
  split at h <;> cases h
  · exact hs
  · exact State.blankIfInput_queueLaw hs

theorem execFallbackBlankingLinePeriod_queueLaw {s t : State} (hs : s.rasterPrelude.queueLaw)
    (h : execFallbackBlankingLinePeriod s = .next t) : t.queueLaw := by
  unfold execFallbackBlankingLinePeriod at h
  generalize s.rasterPrelude = u at h hs
  simp only at h
  split at h <;> cases h <;> exact hs

theorem execActiveLine_queueLaw {cols : List Rgb} {flip : Bool} {s t : State} (hs : s.rasterPrelude.queueLaw)
    (h : execActiveLine cols flip s = .next t) : t.queueLaw := by
  unfold execActiveLine at h
  generalize s.rasterPrelude = u at h hs
  simp only at h
  split at h
  · cases h
    exact hs
  · rename_i f _
    have hmeasured : ((u.seeFlip flip).measureLine f cols.length).queueLaw := hs
    split at h <;> cases h
    · exact State.outputLineStart_queueLaw hmeasured cols
    · exact hmeasured

theorem execFallbackLineStart_queueLaw {flip : Bool} {s t : State} (hs : s.rasterPrelude.queueLaw)
    (h : execFallbackLineStart flip s = .next t) : t.queueLaw := by
  unfold execFallbackLineStart at h
  generalize s.rasterPrelude = u at h hs
  simp only at h
  split at h <;> cases h
  · exact hs
  · exact State.outputLineStart_queueLaw
      (s := { u.seeFlip flip with raster := { u.raster with linePeriods := u.raster.linePeriods + 1 } }) hs _

theorem execFallbackFrameStart_queueLaw {ready : Bool} {s t : State} (hs : s.rasterPrelude.queueLaw)
    (h : execFallbackFrameStart ready s = .next t) : t.queueLaw := by
  unfold execFallbackFrameStart at h
  generalize s.rasterPrelude = u at h hs
  simp only at h
  split at h <;> cases h
  · exact hs
  · exact State.outputFrameStart_queueLaw (s := u.seeReady ready) hs .fallback

theorem execLossIntervalExpiry_queueLaw {ready : Bool} {s t : State} (hs : s.rasterPrelude.queueLaw)
    (h : execLossIntervalExpiry ready s = .next t) : t.queueLaw := by
  unfold execLossIntervalExpiry at h
  generalize s.rasterPrelude = u at h hs
  simp only at h
  split at h <;> cases h
  · exact hs
  · exact State.loseInput_queueLaw (s := u.seeReady ready) hs

theorem execInputFrameStart_queueLaw {ready : Bool} {s t : State} (hs : s.rasterPrelude.queueLaw)
    (h : execInputFrameStart ready s = .next t) : t.queueLaw := by
  unfold execInputFrameStart at h
  generalize s.rasterPrelude = u at h hs
  cases h
  exact State.inputFrameOutput_queueLaw (State.judgeFrame_queueLaw (s := u.seeReady ready) hs) _

/-! ### POWER_ON, RESTART, LOAD_COMPLETION -/

theorem execPowerOn_queueLaw {p : Straps} {s t : State} (h : execPowerOn p s = .next t) : t.queueLaw := by
  obtain ⟨u, rfl⟩ := execPowerOn_resets h
  exact State.outputFrameStart_queueLaw u.resetBlocks_queueLaw .fallback

theorem execRestart_queueLaw {s t : State} (hs : s.rasterPrelude.queueLaw) (h : execRestart s = .next t) :
    t.queueLaw := by
  unfold execRestart at h
  generalize s.rasterPrelude = u at h hs
  simp only at h
  split at h <;> cases h
  · exact State.outputFrameStart_queueLaw (State.resetBlocks_queueLaw _) .fallback
  · exact hs

theorem execLoadCompletion_queueLaw {s t : State} (hload : s.settleLoad.queueLaw) (hs : s.prelude.queueLaw)
    (h : execLoadCompletion s = .next t) : t.queueLaw := by
  unfold execLoadCompletion at h
  generalize s.prelude = u at h hs
  split at h
  · cases h
    exact hload
  · simp only at h
    split at h <;> cases h
    · exact State.loadEnds_queueLaw hs
    · exact hs

/-! ### Every command -/

theorem exec_queueLaw {c : Instr} {s t : State} (hs : s.queueLaw) (h : exec c s = .next t) : t.queueLaw := by
  have hload : s.settleLoad.queueLaw := State.Before.settleLoad.queueLaw hs
  have hpre : s.prelude.queueLaw := State.Before.prelude.queueLaw hs
  have hraster : s.rasterPrelude.queueLaw := State.Before.rasterPrelude.queueLaw hs
  unfold exec at h
  cases c with
  | powerOn p => exact execPowerOn_queueLaw h
  | restart => exact execRestart_queueLaw hraster h
  | loadCompletion => exact execLoadCompletion_queueLaw hload hpre h
  | inputFrameStart ready => exact execInputFrameStart_queueLaw hraster h
  | lossIntervalExpiry ready => exact execLossIntervalExpiry_queueLaw hraster h
  | fallbackFrameStart ready => exact execFallbackFrameStart_queueLaw hraster h
  | activeLine cols flip => exact execActiveLine_queueLaw hraster h
  | fallbackLineStart flip => exact execFallbackLineStart_queueLaw hraster h
  | controlLine cols => exact execControlLine_queueLaw hraster h
  | blankingLine => exact execBlankingLine_queueLaw hraster h
  | fallbackBlankingLinePeriod => exact execFallbackBlankingLinePeriod_queueLaw hraster h
  | fillGrant => exact execFillGrant_queueLaw hpre h
  | fillCompletion => exact execFillCompletion_queueLaw hpre h
  | tileWrite => exact execTileWrite_queueLaw hpre h
  | saveReadGrant => exact execSaveReadGrant_queueLaw hpre h
  | saveCompletion => exact execSaveCompletion_queueLaw hpre h
  | seedCompletion => exact execSeedCompletion_queueLaw hpre h
  | stageOpen => exact execStageOpen_queueLaw hpre h
  | tableWrite => exact execTableWrite_queueLaw hpre h
  | flipArm => exact execFlipArm_queueLaw hpre h
  | flipCancel => exact execFlipCancel_queueLaw hpre h
  | stageDiscard => exact execStageDiscard_queueLaw hpre h
  | configWrite => exact execConfigWrite_queueLaw hpre h
  | storeSave => exact execStoreSave_queueLaw hpre h
  | storeRecall => exact execStoreRecall_queueLaw hpre h
  | storeProtect => exact execStoreProtect_queueLaw hpre h
  | recallCompletion => exact execRecallCompletion_queueLaw hpre h
  | storeReadCompletion => exact execStoreReadCompletion_queueLaw hpre h
  | protectProgramCompletion =>
    cases h
    exact State.protectEnds_queueLaw hpre
  | storeProgramTimeout =>
    cases h
    exact State.programTimeout_queueLaw hpre
  | pageHoldExpiry =>
    cases h
    exact State.settleHold_queueLaw hload
  | uploadsAheadDrained =>
    cases h
    exact State.settleDrained_queueLaw hload
  | creditWindowRestart =>
    cases h
    exact State.settleCredit_queueLaw hload
  | leaderWindowEnd =>
    cases h
    exact State.settleLeaderWindow_queueLaw hload
  | memberWindowEnd =>
    cases h
    exact State.settleMemberWindow_queueLaw hload
  | pulseEnd =>
    cases h
    exact State.settlePulse_queueLaw hload

/-- Settles O4: an entry is made only in a queue that has room, and every other change keeps the length of a queue or
lessens it. -/
theorem queuesNeverExceedTheirCapacities : Obligations.QueuesNeverExceedTheirCapacities := by
  intro s t hs h
  rcases step_cases s t h with ⟨-, rfl⟩ | ⟨c, rest, -, hexec⟩
  · exact hs
  · exact exec_queueLaw (s := { s with pending := rest }) hs hexec

end Sys2Proof.Machine

/-! SUPPORT. Byte values: what a field of a byte layout gives back of the value written there (R152, R163, R164). -/

namespace Sys2Proof.Machine

/-! ### Values in bytes, most significant byte first -/

@[simp] theorem beBytes_length (n v : Nat) : (beBytes n v).length = n := by
  induction n generalizing v with
  | zero => rfl
  | succ n ih => rw [beBytes, List.length_cons, ih]

/-- The bytes behind a value already read are added below it. -/
theorem foldl_beValue (bs : List Byte) (v : Nat) :
    bs.foldl (fun n b => n * 256 + b.toNat) v = v * 256 ^ bs.length + beValue bs := by
  unfold beValue
  induction bs generalizing v with
  | nil => simp
  | cons b bs ih =>
    rw [List.foldl_cons, List.foldl_cons, ih, ih (0 * 256 + b.toNat), List.length_cons, pow_succ]
    ring

theorem beValue_cons (b : Byte) (bs : List Byte) : beValue (b :: bs) = b.toNat * 256 ^ bs.length + beValue bs := by
  rw [beValue, List.foldl_cons, foldl_beValue]
  simp

/-- A value is read back from its bytes as far as they hold it. -/
theorem beValue_beBytes (n v : Nat) : beValue (beBytes n v) = v % 256 ^ n := by
  induction n generalizing v with
  | zero => simp [beBytes, beValue, Nat.mod_one]
  | succ n ih =>
    have hupper : (BitVec.ofNat 8 (v / 256 ^ n)).toNat = v / 256 ^ n % 256 := BitVec.toNat_ofNat ..
    rw [beBytes, beValue_cons, ih, beBytes_length, hupper, pow_succ, Nat.mod_mul]
    ring

theorem beValue_beBytes_of_lt {n v : Nat} (h : v < 256 ^ n) : beValue (beBytes n v) = v := by
  rw [beValue_beBytes, Nat.mod_eq_of_lt h]

theorem beValue_singleton (b : Byte) : beValue [b] = b.toNat := by simp [beValue]

/-! ### Fields of a layout -/

/-- A field behind the bytes before it. -/
theorem fieldAt_append_right {off len : Nat} {xs : List Byte} (h : xs.length ≤ off) (ys : List Byte) :
    fieldAt off len (xs ++ ys) = fieldAt (off - xs.length) len ys := by
  rw [fieldAt, List.drop_append, List.drop_eq_nil_of_le h, List.nil_append, fieldAt]

/-- A field before the bytes behind it. -/
theorem fieldAt_append_left {off len : Nat} {xs : List Byte} (h : off + len ≤ xs.length) (ys : List Byte) :
    fieldAt off len (xs ++ ys) = fieldAt off len xs := by
  rw [fieldAt, fieldAt, List.drop_append_of_le_length (by omega), List.take_append_of_le_length]
  rw [List.length_drop]
  omega

/-- The first field, whole. -/
theorem fieldAt_zero_append {len : Nat} {xs : List Byte} (h : xs.length = len) (ys : List Byte) :
    fieldAt 0 len (xs ++ ys) = beValue xs := by
  rw [fieldAt, List.drop_zero, List.take_left' h]

end Sys2Proof.Machine

/-! SUPPORT. A table entry read back from its full encoding, field by field (R163), and from it O45. -/

namespace Sys2Proof.Machine

/-! ### Codes and values read back from their bytes -/

theorem kindOfCode_beBytes (k : Kind) : kindOfCode (beValue (beBytes 1 k.code)) = some k := by cases k <;> rfl
theorem figureOfCode_beBytes (k : Figure) : figureOfCode (beValue (beBytes 1 k.code)) = some k := by cases k <;> rfl
theorem alignOfCode_beBytes (k : Align) : alignOfCode (beValue (beBytes 1 k.code)) = some k := by cases k <;> rfl
theorem treatmentOfCode_beBytes (k : Treatment) : treatmentOfCode (beValue (beBytes 1 k.code)) = some k := by
  cases k <;> rfl
theorem itemStateOfCode_beBytes (k : ItemState) : itemStateOfCode (beValue (beBytes 1 k.code)) = some k := by
  cases k <;> rfl
theorem symbolOfCode_beBytes (k : SymbolPos) : symbolOfCode (beValue (beBytes 1 k.code)) = some k := by
  cases k <;> rfl
theorem boolOfCode_beBytes (b : Bool) : boolOfCode (beValue (beBytes 1 (boolCode b))) = some b := by cases b <;> rfl

theorem inRange_of_mem {lo hi v : Nat} (hlo : lo ≤ v) (hhi : v ≤ hi) : inRange lo hi v = some v := if_pos ⟨hlo, hhi⟩

/-- A field with a value in its range takes it from its bytes. -/
theorem map_inRange_beBytes {α : Type} (g : Nat → α) {n lo hi v : Nat} (hlo : lo ≤ v) (hhi : v ≤ hi)
    (hfit : hi < 256 ^ n) : (inRange lo hi (beValue (beBytes n v))).map g = some (g v) := by
  rw [beValue_beBytes_of_lt (hhi.trans_lt hfit), inRange, if_pos ⟨hlo, hhi⟩, Option.map_some]

/-- A byte of its own. -/
theorem ofNat_beValue_singleton (b : Byte) : BitVec.ofNat 8 (beValue [b]) = b := by
  rw [beValue_singleton, BitVec.ofNat_toNat, BitVec.setWidth_eq]

/-- A field with an index or a value that may be none takes it from its two bytes, where FFFF hex stands for none. -/
theorem map_optional_beBytes {α : Type} (g : Option Nat → α) {hi : Nat} {v : Option Nat}
    (hv : ∀ n, v = some n → n ≤ hi) (hfit : hi < 0xFFFF) :
    (if beValue (beBytes 2 (v.getD 0xFFFF)) = 0xFFFF then some (g none)
      else (inRange 0 hi (beValue (beBytes 2 (v.getD 0xFFFF)))).map fun n => g (some n)) = some (g v) := by
  cases v with
  | none => rw [Option.getD_none, beValue_beBytes_of_lt (by decide), if_pos rfl]
  | some n =>
    have hn := hv n rfl
    have hvalue : beValue (beBytes 2 n) = n := beValue_beBytes_of_lt (by omega)
    rw [Option.getD_some, hvalue, if_neg (by omega), inRange, if_pos ⟨n.zero_le, hn⟩, Option.map_some]

/-! ### A masked write, field by field -/

section Fields
variable {α : Type} {f : Nat → List Byte → α → Option α} {mask n bit : Nat} {xs : List Byte} {e e' : α}
  (hmask : mask.testBit bit = true) (hlen : xs.length = n) (hfield : f bit xs e = some e')
include hmask hlen hfield

/-- A masked field takes its bytes off the front, and the write goes on with the rest. -/
theorem writeMasked_append {ns : List Nat} {rest : List Byte} {e'' : α}
    (hrest : writeMasked f mask ns (bit + 1) rest e' = some e'') :
    writeMasked f mask (n :: ns) bit (xs ++ rest) e = some e'' := by
  rw [writeMasked, if_pos hmask, List.take_left' hlen, hfield, List.drop_left' hlen]
  exact hrest

/-- So does the last field, whose bytes end the encoding. -/
theorem writeMasked_last : writeMasked f mask [n] bit xs e = some e' := by
  rw [writeMasked, if_pos hmask, List.take_of_length_le hlen.le, hfield]
  rfl

end Fields

/-! ### The four entries -/

theorem regionField_pages (b : Byte) (e : Region) : regionField 6 [b] e = some { e with pages := b } :=
  congrArg (fun b => some ({ e with pages := b } : Region)) (ofNat_beValue_singleton b)

theorem regionField_item {v : Option Nat} (hv : ∀ i, v = some i → i ≤ 255) (e : Region) :
    regionField 7 (beBytes 2 (v.getD 0xFFFF)) e = some { e with item := v } :=
  map_optional_beBytes (fun v => ({ e with item := v } : Region)) hv (by decide)

theorem writeMasked_encodeRegion {r : Region} (hr : r.lawful) (r0 : Region) :
    writeMasked regionField (fullMask 1) (fieldSizes 1) 0 (encodeRegion r) r0 = some r := by
  obtain ⟨hx, hy, hw, hw', hh, hh', hlevel, hitem, hstyle, hphoto⟩ := hr
  unfold encodeRegion
  simp only [List.append_assoc, fieldSizes]
  refine writeMasked_append (by decide) (by rfl) (congrArg (Option.map _) (kindOfCode_beBytes r.kind)) ?_
  refine writeMasked_append (by decide) (by rfl) (map_inRange_beBytes _ r.x.zero_le hx (by decide)) ?_
  refine writeMasked_append (by decide) (by rfl) (map_inRange_beBytes _ r.y.zero_le hy (by decide)) ?_
  refine writeMasked_append (by decide) (by rfl) (map_inRange_beBytes _ hw hw' (by decide)) ?_
  refine writeMasked_append (by decide) (by rfl) (map_inRange_beBytes _ hh hh' (by decide)) ?_
  refine writeMasked_append (by decide) (by rfl) (map_inRange_beBytes _ r.level.zero_le hlevel (by decide)) ?_
  refine writeMasked_append (by decide) (by rfl) (regionField_pages r.pages _) ?_
  refine writeMasked_append (by decide) (by rfl) (regionField_item hitem _) ?_
  refine writeMasked_append (by decide) (by rfl) (congrArg (Option.map _) (figureOfCode_beBytes r.figure)) ?_
  refine writeMasked_append (by decide) (by rfl) (map_inRange_beBytes _ r.style.zero_le hstyle (by decide)) ?_
  refine writeMasked_append (by decide) (by rfl) (map_inRange_beBytes _ r.photo.zero_le hphoto (by decide)) ?_
  refine writeMasked_append (by decide) (by rfl) (congrArg (Option.map _) (alignOfCode_beBytes r.align)) ?_
  exact writeMasked_last (by decide) (by rfl) (congrArg (Option.map _) (treatmentOfCode_beBytes r.treatment))

/-! ### Price lists (R31, R163) -/

theorem encodePrices_length {ps : List Nat} (hps : ps.length ≤ 4) : (encodePrices ps).length = 13 := by
  have hused : (ps.flatMap (beBytes 3)).length = 3 * ps.length := by
    rw [List.length_flatMap, List.map_congr_left fun p _ => beBytes_length 3 p, List.map_const',
      List.sum_replicate, smul_eq_mul, Nat.mul_comm]
  rw [encodePrices, List.length_append, List.length_append, beBytes_length, hused, List.length_map, List.length_drop,
    List.length_range]
  omega

/-- The value at a place of a price list, three bytes on from the one before. -/
theorem fieldAt_flatMap_beBytes {ps : List Nat} (hps : ∀ p ∈ ps, p ≤ 999999) {k : Nat} (hk : k < ps.length)
    (rest : List Byte) : fieldAt (3 * k) 3 (ps.flatMap (beBytes 3) ++ rest) = ps[k] := by
  induction ps generalizing k with
  | nil => cases hk
  | cons p ps ih =>
    have hp : p ≤ 999999 := hps p List.mem_cons_self
    rw [List.flatMap_cons, List.append_assoc]
    cases k with
    | zero =>
      rw [Nat.mul_zero, fieldAt_zero_append (beBytes_length 3 p), beValue_beBytes_of_lt (by omega)]
      rfl
    | succ k =>
      rw [fieldAt_append_right (by rw [beBytes_length]; omega), beBytes_length,
        show 3 * (k + 1) - 3 = 3 * k by omega]
      exact ih (fun q hq => hps q (List.mem_cons_of_mem p hq)) (Nat.lt_of_succ_lt_succ hk)

/-- A price list is read back, whatever stands in its unused places (log 19). -/
theorem priceList_encodePrices {ps : List Nat} (hlen : ps.length ≤ 4) (hps : ∀ p ∈ ps, p ≤ 999999) :
    priceList (encodePrices ps) = some ps := by
  have hcount : fieldAt 0 1 (encodePrices ps) = ps.length := by
    rw [encodePrices, List.append_assoc, fieldAt_zero_append (beBytes_length 1 _), beValue_beBytes_of_lt (by omega)]
  have hvalues : ((List.range ps.length).map fun k => fieldAt (1 + 3 * k) 3 (encodePrices ps)) = ps := by
    refine List.ext_getElem (by simp) fun k _ hk => ?_
    rw [List.getElem_map, List.getElem_range, encodePrices, List.append_assoc,
      fieldAt_append_right (by rw [beBytes_length]; omega), beBytes_length, Nat.add_sub_cancel_left]
    exact fieldAt_flatMap_beBytes hps hk _
  unfold priceList
  simp only [hcount, hvalues]
  rw [if_pos ⟨hlen, List.all_eq_true.2 fun p hp => decide_eq_true (hps p hp)⟩]

/-! ### Items, styles and directory entries -/

theorem itemField_energy {v : Option Nat} (hv : ∀ n, v = some n → n ≤ 9999) (e : Item) :
    itemField 2 (beBytes 2 (v.getD 0xFFFF)) e = some { e with energy := v } :=
  map_optional_beBytes (fun v => ({ e with energy := v } : Item)) hv (by decide)

theorem writeMasked_encodeItem {it : Item} (hit : it.lawful) (it0 : Item) :
    writeMasked itemField (fullMask 2) (fieldSizes 2) 0 (encodeItem it) it0 = some it := by
  obtain ⟨hlen, hprices, henergy⟩ := hit
  unfold encodeItem
  simp only [List.append_assoc, fieldSizes]
  refine writeMasked_append (by decide) (by rfl) (congrArg (Option.map _) (itemStateOfCode_beBytes it.state)) ?_
  refine writeMasked_append (by decide) (encodePrices_length hlen)
    (congrArg (Option.map _) (priceList_encodePrices hlen hprices)) ?_
  exact writeMasked_last (by decide) (by rfl) (itemField_energy henergy _)

theorem styleField_inkOpacity (b : Byte) (e : Style) : styleField 1 [b] e = some { e with inkOpacity := b } :=
  congrArg (fun b => some ({ e with inkOpacity := b } : Style)) (ofNat_beValue_singleton b)

theorem styleField_boxOpacity (b : Byte) (e : Style) : styleField 3 [b] e = some { e with boxOpacity := b } :=
  congrArg (fun b => some ({ e with boxOpacity := b } : Style)) (ofNat_beValue_singleton b)

theorem styleField_dim (b : Byte) (e : Style) : styleField 11 [b] e = some { e with dim := b } :=
  congrArg (fun b => some ({ e with dim := b } : Style)) (ofNat_beValue_singleton b)

/-- A price has 0, 2 or 3 minor digits (R34). -/
theorem styleField_minorDigits {v : Nat} (hv : v = 0 ∨ v = 2 ∨ v = 3) (e : Style) :
    styleField 8 (beBytes 1 v) e = some { e with minorDigits := v } := by
  rcases hv with rfl | rfl | rfl <;> rfl

theorem writeMasked_encodeStyle {st : Style} (hst : st.lawful) (st0 : Style) :
    writeMasked styleField (fullMask 3) (fieldSizes 3) 0 (encodeStyle st) st0 = some st := by
  obtain ⟨hglyph, hw, hw', hh, hh', hminor⟩ := hst
  unfold encodeStyle
  simp only [List.append_assoc, fieldSizes]
  refine writeMasked_append (by decide) (by rfl) rfl ?_
  refine writeMasked_append (by decide) (by rfl) (styleField_inkOpacity st.inkOpacity _) ?_
  refine writeMasked_append (by decide) (by rfl) rfl ?_
  refine writeMasked_append (by decide) (by rfl) (styleField_boxOpacity st.boxOpacity _) ?_
  refine writeMasked_append (by decide) (by rfl) (map_inRange_beBytes _ st.glyphPhoto.zero_le hglyph (by decide)) ?_
  refine writeMasked_append (by decide) (by rfl) (map_inRange_beBytes _ hw hw' (by decide)) ?_
  refine writeMasked_append (by decide) (by rfl) (map_inRange_beBytes _ hh hh' (by decide)) ?_
  refine writeMasked_append (by decide) (by rfl) (congrArg (Option.map _) (symbolOfCode_beBytes st.symbol)) ?_
  refine writeMasked_append (by decide) (by rfl) (styleField_minorDigits hminor _) ?_
  refine writeMasked_append (by decide) (by rfl) (congrArg (Option.map _) (boolOfCode_beBytes st.grouping)) ?_
  refine writeMasked_append (by decide) (by rfl) (congrArg (Option.map _) (boolOfCode_beBytes st.trim)) ?_
  refine writeMasked_append (by decide) (by rfl) (styleField_dim st.dim _) ?_
  exact writeMasked_last (by decide) (by rfl) rfl

theorem photoWritten_encodePhoto {p : Photo} (hp : p.lawful) (p0 : Photo) :
    photoWritten (fullMask 4) (encodePhoto p) p0 = some p := by
  obtain ⟨⟨harea, hoffset, hw, hw', hh, hh'⟩, hextent⟩ := p.lawful_iff.1 hp
  have hfields : writeMasked photoField (fullMask 4) (fieldSizes 4) 0 (encodePhoto p) p0 = some p := by
    unfold encodePhoto
    simp only [List.append_assoc, fieldSizes]
    refine writeMasked_append (by decide) (by rfl) (congrArg (Option.map _) (boolOfCode_beBytes p.valid)) ?_
    refine writeMasked_append (by decide) (by rfl) (map_inRange_beBytes _ p.area.zero_le harea (by decide)) ?_
    refine writeMasked_append (by decide) (by rfl) (map_inRange_beBytes _ p.offset.zero_le hoffset (by decide)) ?_
    refine writeMasked_append (by decide) (by rfl) (map_inRange_beBytes _ hw hw' (by decide)) ?_
    exact writeMasked_last (by decide) (by rfl) (map_inRange_beBytes _ hh hh' (by decide))
  unfold photoWritten
  simp only [hfields, hextent, if_true]

theorem encodeRegion_length (r : Region) : (encodeRegion r).length = 19 := by simp [encodeRegion]

theorem encodeItem_length {it : Item} (hlen : it.prices.length ≤ 4) : (encodeItem it).length = 16 := by
  simp [encodeItem, encodePrices_length hlen]

theorem encodeStyle_length (st : Style) : (encodeStyle st).length = 20 := by simp [encodeStyle, rgbBytes]

theorem encodePhoto_length (p : Photo) : (encodePhoto p).length = 6 := by simp [encodePhoto]

/-- Settles O45: table by table, each field is read back from its own bytes. -/
theorem entryEncodingIsReadBack : Obligations.EntryEncodingIsReadBack := by
  refine ⟨fun r r0 hr => ⟨writeMasked_encodeRegion hr r0, encodeRegion_length r⟩, fun it it0 hit => ?_,
    fun st st0 hst => ⟨writeMasked_encodeStyle hst st0, encodeStyle_length st⟩,
    fun p p0 hp => ⟨photoWritten_encodePhoto hp p0, encodePhoto_length p⟩⟩
  obtain ⟨hlen, -⟩ := id hit
  exact ⟨writeMasked_encodeItem hit it0, encodeItem_length hlen⟩

end Sys2Proof.Machine

/-! SUPPORT. The check value (R152), the framing of a control line (R153), the types of packets (R154, R156), and from
them O51. -/

namespace Sys2Proof.Machine

/-! ### The check value (R152) -/

theorem crc16_append (bs : List Byte) (b : Byte) : crc16 (bs ++ [b]) = crcByte (crc16 bs) b := by
  rw [crc16, crcMore, List.foldl_append]
  rfl

/-- One byte is eight shifts. -/
theorem crcByte_eq_iterate (c : BitVec 16) (b : Byte) :
    crcByte c b = Nat.iterate crcShift 8 (c ^^^ (b.setWidth 16 <<< 8)) := rfl

/-- A check value is carried as its upper byte, then its lower one. -/
theorem crcBytes_eq (c : BitVec 16) : crcBytes c = [c.extractLsb' 8 8, c.extractLsb' 0 8] := by
  have hupper : (c >>> 8).setWidth 8 = c.extractLsb' 8 8 := by
    refine BitVec.eq_of_getLsbD_eq fun i hi => ?_
    simp [BitVec.getLsbD_extractLsb', BitVec.getLsbD_setWidth]
  have hlower : c.setWidth 8 = c.extractLsb' 0 8 := by
    refine BitVec.eq_of_getLsbD_eq fun i hi => ?_
    simp [BitVec.getLsbD_extractLsb', BitVec.getLsbD_setWidth]
  rw [crcBytes, hupper, hlower]

/-- The check value of the characters 1 to 9 (R152). -/
theorem crc16_digits : crc16 [0x31, 0x32, 0x33, 0x34, 0x35, 0x36, 0x37, 0x38, 0x39] = 0x29B1 := by
  simp [crc16, crcMore, crcByte, crcShift]

/-! ### Framing (R153) -/

/-- The bound on the number of packets does not show where it is the line's length or more: a packet takes six bytes at
least. -/
theorem parseFrom_eq_of_le {n m : Nat} {bs : List Byte} (hn : bs.length ≤ n) (hm : bs.length ≤ m) (s : State) :
    parseFrom n bs s = parseFrom m bs s := by
  induction n generalizing m bs s with
  | zero =>
    obtain rfl := List.length_eq_zero_iff.1 (Nat.le_zero.1 hn)
    cases m <;> rfl
  | succ n ih =>
    cases bs with
    | nil => cases m <;> rfl
    | cons b bs =>
      cases m with
      | zero => cases hm
      | succ m =>
        have hrest : ∀ k, ((b :: bs).drop (4 + k + 2)).length ≤ bs.length := fun k => by
          rw [List.length_drop, List.length_cons]
          omega
        simp only [parseFrom]
        rw [ih ((hrest _).trans (Nat.le_of_succ_le_succ hn)) ((hrest _).trans (Nat.le_of_succ_le_succ hm))]

theorem parseLine_nil (s : State) : parseLine [] s = s := rfl

/-- A type byte of 0 ends the line. -/
theorem parseLine_zero (bs : List Byte) (s : State) : parseLine (0 :: bs) s = s := rfl

/-- What the parser does at a packet's first byte. -/
theorem parseLine_cons {b : Byte} (hb : b ≠ 0) (bs : List Byte) (s : State) :
    parseLine (b :: bs) s =
      if (b :: bs).length < 4 then s.raise .packetBad
      else if 1018 < fieldAt 2 2 (b :: bs) then s.raise .packetBad
      else if (b :: bs).length < 4 + fieldAt 2 2 (b :: bs) + 2 then s.raise .packetBad
      else if crcBytes (crc16 ((b :: bs).take (4 + fieldAt 2 2 (b :: bs)))) ≠
          ((b :: bs).drop (4 + fieldAt 2 2 (b :: bs))).take 2 then s.raise .packetBad
      else
        parseLine ((b :: bs).drop (4 + fieldAt 2 2 (b :: bs) + 2))
          (checkPacket b.toNat (fieldAt 1 1 (b :: bs)) (((b :: bs).drop 4).take (fieldAt 2 2 (b :: bs))) s) := by
  have hrest : ((b :: bs).drop (4 + fieldAt 2 2 (b :: bs) + 2)).length ≤ bs.length := by
    rw [List.length_drop, List.length_cons]
    omega
  rw [parseLine, List.length_cons, parseFrom, if_neg hb]
  dsimp only
  rw [parseFrom_eq_of_le hrest le_rfl]
  rfl

/-- A line cut short, too long or of a wrong check value is abandoned (R153, R154). -/
theorem parseLine_bad {b : Byte} (hb : b ≠ 0) (bs : List Byte) (s : State)
    (hbad : (b :: bs).length < 4 ∨ 1018 < fieldAt 2 2 (b :: bs) ∨ (b :: bs).length < 4 + fieldAt 2 2 (b :: bs) + 2 ∨
      crcBytes (crc16 ((b :: bs).take (4 + fieldAt 2 2 (b :: bs)))) ≠
        ((b :: bs).drop (4 + fieldAt 2 2 (b :: bs))).take 2) :
    parseLine (b :: bs) s = s.raise .packetBad := by
  rw [parseLine_cons hb]
  split
  · rfl
  · rename_i hlen
    split
    · rfl
    · rename_i hmax
      split
      · rfl
      · rename_i hwhole
        exact if_pos (((hbad.resolve_left hlen).resolve_left hmax).resolve_left hwhole)

/-! ### A whole packet (R160) -/

/-- A packet without its check value. -/
def packetBody (type target : Nat) (payload : List Byte) : List Byte :=
  beBytes 1 type ++ (beBytes 1 target ++ (beBytes 2 payload.length ++ payload))

theorem framePacket_eq (type target : Nat) (payload : List Byte) :
    framePacket type target payload =
      packetBody type target payload ++ crcBytes (crc16 (packetBody type target payload)) := by
  simp only [framePacket, packetBody, List.append_assoc]

section Packet
variable (type target : Nat) (payload : List Byte)

@[simp] theorem packetBody_length : (packetBody type target payload).length = 4 + payload.length := by
  simp [packetBody]
  omega

@[simp] theorem crcBytes_length (c : BitVec 16) : (crcBytes c).length = 2 := rfl

theorem packetBody_drop : (packetBody type target payload).drop 4 = payload := by
  rw [packetBody, ← List.append_assoc, ← List.append_assoc]
  exact List.drop_left' (by simp)

theorem fieldAt_packetBody_target : fieldAt 1 1 (packetBody type target payload) = target % 256 := by
  rw [packetBody, fieldAt_append_right (by simp), beBytes_length, fieldAt_zero_append (beBytes_length 1 _),
    beValue_beBytes, pow_one]

theorem fieldAt_packetBody_length : fieldAt 2 2 (packetBody type target payload) = payload.length % 65536 := by
  rw [packetBody, fieldAt_append_right (by simp), beBytes_length, fieldAt_append_right (by simp), beBytes_length,
    fieldAt_zero_append (beBytes_length 2 _), beValue_beBytes]
  norm_num

end Packet

/-- A whole packet is checked and the line goes on behind it (R153, R154). -/
theorem parseLine_framePacket {type target : Nat} {payload : List Byte} (htype : 1 ≤ type) (htype' : type ≤ 255)
    (htarget : target ≤ 255) (hlen : payload.length ≤ 1018) (rest : List Byte) (s : State) :
    parseLine (framePacket type target payload ++ rest) s =
      parseLine rest (checkPacket type target payload s) := by
  generalize hbody : packetBody type target payload = body
  have hlength : body.length = 4 + payload.length := by rw [← hbody, packetBody_length]
  have htargetAt : fieldAt 1 1 body = target := by
    rw [← hbody, fieldAt_packetBody_target, Nat.mod_eq_of_lt (by omega)]
  have hlengthAt : fieldAt 2 2 body = payload.length := by
    rw [← hbody, fieldAt_packetBody_length, Nat.mod_eq_of_lt (by omega)]
  have hpayload : body.drop 4 = payload := by rw [← hbody, packetBody_drop]
  obtain ⟨b, bs, hcons, hb⟩ : ∃ b bs, body = b :: bs ∧ b.toNat = type := by
    refine ⟨BitVec.ofNat 8 (type / 256 ^ 0), _, by rw [← hbody]; rfl, ?_⟩
    rw [BitVec.toNat_ofNat, pow_zero, Nat.div_one, Nat.mod_eq_of_lt (by omega)]
  have hne : b ≠ 0 := by
    rintro rfl
    simp at hb
    omega
  rw [framePacket_eq, hbody, List.append_assoc]
  generalize hcrc : crcBytes (crc16 body) = crc
  have hcrcLength : crc.length = 2 := by rw [← hcrc]; rfl
  have hline : body ++ (crc ++ rest) = b :: (bs ++ (crc ++ rest)) := by rw [hcons]; rfl
  have hfield : ∀ off len, off + len ≤ 4 → fieldAt off len (b :: (bs ++ (crc ++ rest))) = fieldAt off len body :=
    fun off len h => by
      rw [← hline]
      exact fieldAt_append_left (by omega) _
  rw [hline, parseLine_cons hne, hfield 2 2 le_rfl, hfield 1 1 (by decide), hlengthAt, htargetAt, hb, ← hline]
  have htake : (body ++ (crc ++ rest)).take (4 + payload.length) = body := List.take_left' hlength
  have hdrop : (body ++ (crc ++ rest)).drop (4 + payload.length) = crc ++ rest := List.drop_left' hlength
  have hrest : (body ++ (crc ++ rest)).drop (4 + payload.length + 2) = rest := by
    rw [← List.drop_drop, hdrop, List.drop_left' hcrcLength]
  have hpayload' : ((body ++ (crc ++ rest)).drop 4).take payload.length = payload := by
    rw [List.drop_append_of_le_length (by omega), hpayload, List.take_left' rfl]
  have hlineLength : (body ++ (crc ++ rest)).length = 4 + payload.length + 2 + rest.length := by
    simp [hlength, hcrcLength]
    omega
  rw [htake, hdrop, hrest, hpayload', hlineLength, List.take_left' hcrcLength, if_neg (by omega), if_neg (by omega),
    if_neg (by omega), if_neg (by simp [hcrc])]

/-! ### Types, lengths and fields (R154, R156, R157) -/

/-- A TABLE_WRITE has the length of its entries where its table code names a table, and any length from 7 otherwise
(R157). -/
theorem tableWriteLengthOk_iff (p : List Byte) :
    tableWriteLengthOk p = true ↔
      7 ≤ p.length ∧ (fieldAt 0 1 p = 0 ∨ 4 < fieldAt 0 1 p ∨
        p.length = 7 + fieldAt 4 1 p * maskedSize (fieldAt 5 2 p) (fieldSizes (fieldAt 0 1 p)) 0) := by
  simp [tableWriteLengthOk, or_assoc]

/-- A packet of one length with a check on its fields besides (checks 4 and 5 of R154). -/
theorem sized_of_check {n : Nat} {p : List Byte} {k : Packet} {c d : Prop} [Decidable c] [Decidable d] :
    (if c ∧ d then sized n p k else none) = if p.length = n ∧ c ∧ d then some k else none := by
  unfold sized
  by_cases hlen : p.length = n <;> simp [hlen]

/-- A type that a player may not send (check 3 of R154). -/
theorem packetOf_unknown (ahead : Nat) {type : Nat} (p : List Byte)
    (h : type ∉ [0x10, 0x11, 0x12, 0x13, 0x14, 0x15, 0x16, 0x17, 0x18, 0x19, 0x20, 0x21, 0x22, 0x23, 0x24, 0x25, 0x26,
      0x30, 0x38]) : packetOf ahead type p = none := by
  unfold packetOf
  split
  case h_20 => rfl
  all_goals exact absurd (by decide) h

/-! ### Dispatch (R155) -/

section Dispatch
variable (s : State)

theorem dispatch_table (c : TableCmd) :
    (s.scene.tableQ.length < 64 → (dispatch (.table c) s).scene.tableQ = s.scene.tableQ ++ [c]) ∧
      (64 ≤ s.scene.tableQ.length → dispatch (.table c) s = s.raise .tableFull) :=
  ⟨fun h => by rw [dispatch, if_pos h], fun h => if_neg (Nat.not_lt.2 h)⟩

theorem dispatch_hot (c : HotCmd) :
    (s.scene.hotQ.length < 16 → (dispatch (.hot c) s).scene.hotQ = s.scene.hotQ ++ [c]) ∧
      (16 ≤ s.scene.hotQ.length → dispatch (.hot c) s = s.raise .hotFull) :=
  ⟨fun h => by rw [dispatch, if_pos h], fun h => if_neg (Nat.not_lt.2 h)⟩

theorem dispatch_upload (u : Upload) :
    (s.library.uploads.length < 32 → (dispatch (.upload u) s).library.uploads = s.library.uploads ++ [u]) ∧
      (32 ≤ s.library.uploads.length → dispatch (.upload u) s = s.raise .uploadFull) :=
  ⟨fun h => by rw [dispatch, if_pos h], fun h => if_neg (Nat.not_lt.2 h)⟩

theorem dispatch_read (r : ReadReq) :
    (s.status.readQ.length < 4 → (dispatch (.read r) s).status.readQ = s.status.readQ ++ [r]) ∧
      (4 ≤ s.status.readQ.length → dispatch (.read r) s = s.raise .readFull) :=
  ⟨fun h => by rw [dispatch, if_pos h], fun h => if_neg (Nat.not_lt.2 h)⟩

end Dispatch

/-! ### O51 -/

/-- Settles O51: the check value, a whole packet, a bad line, the end of a line, the types, the queues. -/
theorem packetsAreFramedCheckedAndDispatched : Obligations.PacketsAreFramedCheckedAndDispatched := by
  refine ⟨⟨rfl, crc16_append, crcByte_eq_iterate, crcBytes_eq, crc16_digits⟩, ?_, ?_,
    fun s bs => ⟨parseLine_nil s, parseLine_zero bs s⟩, ?_, ?_⟩
  · intro s type target payload rest htype htype' htarget hlen
    exact parseLine_framePacket htype htype' htarget hlen rest s
  · intro s b bs hb
    refine ⟨fun h => parseLine_bad hb bs s (.inl h), fun h _ => parseLine_bad hb bs s (.inr (.inl h)),
      fun h => parseLine_bad hb bs s (.inr (.inr (.inl h))), ?_⟩
    rintro n rfl - hcrc
    exact parseLine_bad hb bs s (.inr (.inr (.inr hcrc)))
  · intro ahead type p byte two fixed write size
    refine ⟨?_, ?_, ?_, ?_, ?_, ?_, by rfl⟩
    · intro n k hmem
      simp only [fixed, List.mem_cons, Prod.mk.injEq, List.not_mem_nil, or_false] at hmem
      rcases hmem with ⟨rfl, rfl, rfl⟩ | ⟨rfl, rfl, rfl⟩ | ⟨rfl, rfl, rfl⟩ | ⟨rfl, rfl, rfl⟩ | ⟨rfl, rfl, rfl⟩ |
        ⟨rfl, rfl, rfl⟩ | ⟨rfl, rfl, rfl⟩ | ⟨rfl, rfl, rfl⟩ | ⟨rfl, rfl, rfl⟩ | ⟨rfl, rfl, rfl⟩ | ⟨rfl, rfl, rfl⟩ |
        ⟨rfl, rfl, rfl⟩ | ⟨rfl, rfl, rfl⟩ | ⟨rfl, rfl, rfl⟩ | ⟨rfl, rfl, rfl⟩ <;> rfl
    · rintro rfl
      exact if_congr (tableWriteLengthOk_iff p) rfl rfl
    · rintro rfl
      rfl
    · rintro rfl
      exact sized_of_check
    · rintro rfl
      exact sized_of_check
    · intro hfixed hother
      refine packetOf_unknown ahead p fun hmem => ?_
      simp only [fixed, List.map_cons, List.map_nil, List.mem_cons, List.not_mem_nil, or_false] at hfixed hother hmem
      omega
  · exact fun s c h u r =>
      ⟨(dispatch_table s c).1, (dispatch_table s c).2, (dispatch_hot s h).1, (dispatch_hot s h).2,
        (dispatch_upload s u).1, (dispatch_upload s u).2, (dispatch_read s r).1, (dispatch_read s r).2⟩

end Sys2Proof.Machine

/-! SUPPORT. A layout of fields, each read back at its own offset; the status packet as such a layout (R160, R164). -/

namespace Sys2Proof.Machine

/-! ### A layout of fields -/

/-- Fields of so many bytes and such a value, one behind another. -/
def fieldBytes (fs : List (Nat × Nat)) : List Byte := fs.flatMap fun q => beBytes q.1 q.2

/-- Where the field of a place begins, of fields that begin at an offset. -/
def fieldOffset (off : Nat) : List (Nat × Nat) → Nat → Nat
  | [], _ => off
  | _ :: _, 0 => off
  | q :: fs, i + 1 => fieldOffset (off + q.1) fs i

theorem fieldOffset_add (a b : Nat) (fs : List (Nat × Nat)) (i : Nat) :
    fieldOffset (a + b) fs i = a + fieldOffset b fs i := by
  induction fs generalizing b i with
  | nil => cases i <;> rfl
  | cons q fs ih =>
    cases i with
    | zero => rfl
    | succ i => exact (congrArg (fieldOffset · fs i) (Nat.add_assoc a b q.1)).trans (ih ..)

theorem fieldBytes_length (fs : List (Nat × Nat)) : (fieldBytes fs).length = (fs.map (·.1)).sum := by
  simp [fieldBytes, List.length_flatMap]

/-- Each field gives back its value as far as its bytes hold it. -/
theorem fieldAt_fieldBytes {fs : List (Nat × Nat)} {i len v : Nat} (h : fs[i]? = some (len, v)) :
    fieldAt (fieldOffset 0 fs i) len (fieldBytes fs) = v % 256 ^ len := by
  induction fs generalizing i with
  | nil => cases h
  | cons q fs ih =>
    rw [fieldBytes, List.flatMap_cons, ← fieldBytes]
    cases i with
    | zero =>
      obtain rfl : q = (len, v) := Option.some.inj h
      rw [fieldOffset, fieldAt_zero_append (beBytes_length ..), beValue_beBytes]
    | succ i =>
      have hoffset : fieldOffset 0 (q :: fs) (i + 1) = q.1 + fieldOffset 0 fs i := by
        rw [← fieldOffset_add, fieldOffset, Nat.add_comm]
      rw [hoffset, fieldAt_append_right (by rw [beBytes_length]; omega), beBytes_length, Nat.add_sub_cancel_left]
      exact ih h

/-- A field ends within its layout. -/
theorem fieldOffset_add_le {fs : List (Nat × Nat)} {i len v : Nat} (h : fs[i]? = some (len, v)) :
    fieldOffset 0 fs i + len ≤ (fieldBytes fs).length := by
  rw [fieldBytes_length]
  induction fs generalizing i with
  | nil => cases h
  | cons q fs ih =>
    rw [List.map_cons, List.sum_cons]
    cases i with
    | zero =>
      obtain rfl : q = (len, v) := Option.some.inj h
      exact (Nat.zero_add len).le.trans (Nat.le_add_right ..)
    | succ i =>
      have hend := ih h
      rw [fieldOffset, Nat.add_comm 0, fieldOffset_add]
      omega

/-! ### A packet around its payload (R160) -/

section Packet
variable (type target : Nat) (payload : List Byte)

theorem framePacket_length : (framePacket type target payload).length = 4 + payload.length + 2 := by
  rw [framePacket_eq, List.length_append, packetBody_length, crcBytes_length]

/-- The check value of a packet is that of all the bytes before it. -/
theorem framePacket_crc :
    (framePacket type target payload).drop (4 + payload.length) =
      crcBytes (crc16 ((framePacket type target payload).take (4 + payload.length))) := by
  have hlen := packetBody_length type target payload
  rw [framePacket_eq, List.drop_left' hlen, List.take_left' hlen]

theorem fieldAt_framePacket_length : fieldAt 2 2 (framePacket type target payload) = payload.length % 65536 := by
  rw [framePacket_eq, fieldAt_append_left (by rw [packetBody_length]; omega), fieldAt_packetBody_length]

/-- The bytes behind the packet's head are the payload's, as far as it goes. -/
theorem framePacket_drop_take {off len : Nat} (h : off + len ≤ payload.length) :
    ((framePacket type target payload).drop (4 + off)).take len = (payload.drop off).take len := by
  rw [framePacket_eq, ← List.drop_drop, List.drop_append_of_le_length (by simp), packetBody_drop,
    List.drop_append_of_le_length (by omega), List.take_append_of_le_length (by rw [List.length_drop]; omega)]

theorem fieldAt_framePacket {off len : Nat} (h : off + len ≤ payload.length) :
    fieldAt (4 + off) len (framePacket type target payload) = fieldAt off len payload := by
  rw [fieldAt, framePacket_drop_take type target payload h, fieldAt]

end Packet

/-! ### The status payload (R164) -/

/-- The fields before the last-refusal record. -/
def State.statusHead (d : StatusDraft) (s : State) : List (Nat × Nat) :=
  [(1, s.straps.board), (1, boolCode (s.group.role == .leader) + 2 * boolCode s.group.participation),
    (4, s.status.frameCount.toNat), (1, d.lock.code), (1, s.scene.phase.code), (2, s.scene.tag),
    (2, s.scene.generation), (1, s.scene.page), (1, s.scene.stack.length), (1, s.scene.threshold),
    (1, 64 - s.scene.tableQ.length), (1, 16 - s.scene.hotQ.length), (1, d.uploadFree), (1, d.readFree),
    (3, s.status.flags.toNat)]

/-- The fields between the last-refusal record and the reply. -/
def State.statusTail (d : StatusDraft) (s : State) : List (Nat × Nat) :=
  [(2, d.late), (2, (d.watch.getD 0).toNat), (1, boolCode d.watch.isSome), (1, s.store.state.code)]

/-- The fields of a last-refusal record. -/
def LastRefusal.fields (r : LastRefusal) : List (Nat × Nat) :=
  [(1, r.packet), (1, r.reason), (1, r.table), (2, r.index)]

/-- The fields of a reply before its data, with the byte that says that one follows. -/
def Reply.fields (r : Reply) : List (Nat × Nat) := [(1, 1), (1, r.target), (1, r.table), (3, r.index), (1, r.result)]

/-- The reply as the packet ends with it, or the byte that says that there is none. -/
def replyPart : Option Reply → List Byte
  | none => beBytes 1 0
  | some r => fieldBytes r.fields ++ padTo 20 r.data

theorem refusalBytes_some (r : LastRefusal) : refusalBytes (some r) = fieldBytes r.fields := by
  simp [refusalBytes, fieldBytes, LastRefusal.fields]

theorem refusalBytes_length (r : Option LastRefusal) : (refusalBytes r).length = 5 := by
  cases r <;> simp [refusalBytes]

theorem padTo_length (n : Nat) (bs : List Byte) : (padTo n bs).length = n := by simp [padTo]

theorem replyPart_some_length (r : Reply) : (replyPart (some r)).length = 27 := by
  rw [replyPart, List.length_append, padTo_length, fieldBytes_length]
  rfl

/-- The payload in its four parts. -/
theorem State.statusPayload_eq (d : StatusDraft) (s : State) :
    s.statusPayload d =
      fieldBytes (s.statusHead d) ++ (refusalBytes s.status.refusal ++
        (fieldBytes (s.statusTail d) ++ replyPart (s.draftReply d))) := by
  unfold State.statusPayload State.statusHead State.statusTail fieldBytes
  cases s.draftReply d <;>
    simp only [List.flatMap_cons, List.flatMap_nil, List.append_nil, List.append_assoc, replyPart, replyBytes,
      fieldBytes, Reply.fields]

section StatusPacket
variable (d : StatusDraft) (s : State)

theorem State.statusPayload_length : (s.statusPayload d).length = 33 + (replyPart (s.draftReply d)).length := by
  rw [State.statusPayload_eq, List.length_append, List.length_append, List.length_append, fieldBytes_length,
    fieldBytes_length, refusalBytes_length]
  have hhead : ((s.statusHead d).map (·.1)).sum = 22 := rfl
  have htail : ((s.statusTail d).map (·.1)).sum = 6 := rfl
  omega

/-- A field before the last-refusal record. -/
theorem State.fieldAt_statusHead {i len v : Nat} (hfield : (s.statusHead d)[i]? = some (len, v)) :
    fieldAt (fieldOffset 4 (s.statusHead d) i) len (s.statusPacket d) = v % 256 ^ len := by
  have hend := fieldOffset_add_le hfield
  rw [show fieldOffset 4 (s.statusHead d) i = 4 + fieldOffset 0 (s.statusHead d) i from fieldOffset_add 4 0 ..,
    State.statusPacket, fieldAt_framePacket, State.statusPayload_eq, fieldAt_append_left hend,
    fieldAt_fieldBytes hfield]
  rw [State.statusPayload_eq, List.length_append]
  omega

/-- A field of the last-refusal record. -/
theorem State.fieldAt_statusRefusal {off len : Nat} (h : off + len ≤ 5) :
    fieldAt (26 + off) len (s.statusPacket d) = fieldAt off len (refusalBytes s.status.refusal) := by
  have hhead : (fieldBytes (s.statusHead d)).length = 22 := fieldBytes_length _
  have hrefusal := refusalBytes_length s.status.refusal
  rw [State.statusPacket, show 26 + off = 4 + (22 + off) by omega, fieldAt_framePacket, State.statusPayload_eq,
    fieldAt_append_right (by omega), hhead, Nat.add_sub_cancel_left, fieldAt_append_left (by omega)]
  rw [State.statusPayload_length]
  omega

/-- A field between the last-refusal record and the reply. -/
theorem State.fieldAt_statusTail {i len v : Nat} (hfield : (s.statusTail d)[i]? = some (len, v)) :
    fieldAt (fieldOffset 31 (s.statusTail d) i) len (s.statusPacket d) = v % 256 ^ len := by
  have hhead : (fieldBytes (s.statusHead d)).length = 22 := fieldBytes_length _
  have hrefusal := refusalBytes_length s.status.refusal
  have htail : (fieldBytes (s.statusTail d)).length = 6 := fieldBytes_length _
  have hend := fieldOffset_add_le hfield
  rw [show fieldOffset 31 (s.statusTail d) i = 4 + (22 + (5 + fieldOffset 0 (s.statusTail d) i)) by
      rw [← fieldOffset_add, ← fieldOffset_add, ← fieldOffset_add],
    State.statusPacket, fieldAt_framePacket, State.statusPayload_eq,
    fieldAt_append_right (by omega), hhead, Nat.add_sub_cancel_left, fieldAt_append_right (by omega), hrefusal,
    Nat.add_sub_cancel_left, fieldAt_append_left hend, fieldAt_fieldBytes hfield]
  rw [State.statusPayload_length]
  omega

/-- The packet from its byte 37 on, before its check value, is the reply. -/
theorem State.statusPacket_drop_take {off len : Nat} (h : off + len ≤ (replyPart (s.draftReply d)).length) :
    ((s.statusPacket d).drop (37 + off)).take len = ((replyPart (s.draftReply d)).drop off).take len := by
  have hhead : (fieldBytes (s.statusHead d)).length = 22 := fieldBytes_length _
  have hrefusal := refusalBytes_length s.status.refusal
  have htail : (fieldBytes (s.statusTail d)).length = 6 := fieldBytes_length _
  rw [State.statusPacket, show 37 + off = 4 + (22 + (5 + (6 + off))) by omega, framePacket_drop_take,
    State.statusPayload_eq, ← List.drop_drop, List.drop_left' hhead, ← List.drop_drop, List.drop_left' hrefusal,
    ← List.drop_drop, List.drop_left' htail]
  rw [State.statusPayload_length]
  omega

/-- Without a reply the payload ends with a byte 0. -/
theorem State.fieldAt_noReply (h : s.draftReply d = none) : fieldAt 37 1 (s.statusPacket d) = 0 := by
  have hpart := s.statusPacket_drop_take d (off := 0) (len := 1) (by rw [h]; exact le_rfl)
  rw [fieldAt, hpart, h]
  rfl

/-- A field of the reply before its data. -/
theorem State.fieldAt_reply {r : Reply} (h : s.draftReply d = some r) {i len v : Nat}
    (hfield : r.fields[i]? = some (len, v)) :
    fieldAt (fieldOffset 37 r.fields i) len (s.statusPacket d) = v % 256 ^ len := by
  have hend := fieldOffset_add_le hfield
  have hfields : (fieldBytes r.fields).length = 7 := fieldBytes_length _
  rw [show fieldOffset 37 r.fields i = 37 + fieldOffset 0 r.fields i from fieldOffset_add 37 0 .., fieldAt,
    State.statusPacket_drop_take, h, ← fieldAt, replyPart, fieldAt_append_left hend,
    fieldAt_fieldBytes hfield]
  rw [h, replyPart_some_length]
  omega

/-- The reply's data, cut or lengthened to 20 bytes. -/
theorem State.statusPacket_replyData {r : Reply} (h : s.draftReply d = some r) :
    ((s.statusPacket d).drop 44).take 20 = padTo 20 r.data := by
  have hfields : (fieldBytes r.fields).length = 7 := fieldBytes_length _
  have hpart := s.statusPacket_drop_take d (off := 7) (len := 20) (by rw [h, replyPart_some_length])
  rw [hpart, h, replyPart, List.drop_left' hfields, List.take_of_length_le (padTo_length ..).le]

end StatusPacket

end Sys2Proof.Machine

/-! SETTLES O53: the layout of a status packet, and the frame start that completes and sends it (R160, R164, R166). -/

namespace Sys2Proof.Machine

/-! ### The fields in their places -/

section StatusPacket
variable (d : StatusDraft) (s : State)

/-- The length of the payload is the packet's length without its head and its check value. -/
theorem State.statusPacket_length : (s.statusPacket d).length = 39 + (replyPart (s.draftReply d)).length := by
  rw [State.statusPacket, framePacket_length, State.statusPayload_length]
  omega

theorem State.statusPacket_length_noReply (h : s.draftReply d = none) : (s.statusPacket d).length = 40 := by
  rw [State.statusPacket_length, h]
  rfl

theorem State.statusPacket_length_reply (h : s.draftReply d ≠ none) : (s.statusPacket d).length = 66 := by
  obtain ⟨r, hr⟩ := Option.ne_none_iff_exists'.1 h
  rw [State.statusPacket_length, hr, replyPart_some_length]

theorem State.statusPacket_head :
    (s.statusPacket d).getD 0 0 = 0x50 ∧ (s.statusPacket d).getD 1 0 = BitVec.ofNat 8 (2 ^ s.straps.board) := by
  simp [State.statusPacket, framePacket_eq, packetBody, beBytes]

theorem State.statusPacket_lengthField : fieldAt 2 2 (s.statusPacket d) + 6 = (s.statusPacket d).length := by
  have hreply : (replyPart (s.draftReply d)).length ≤ 27 := by
    cases s.draftReply d with
    | none => exact Nat.le_of_ble_eq_true rfl
    | some r => rw [replyPart_some_length]
  rw [State.statusPacket_length, State.statusPacket, fieldAt_framePacket_length, State.statusPayload_length]
  omega

theorem State.statusPacket_crc :
    (s.statusPacket d).drop ((s.statusPacket d).length - 2) =
      crcBytes (crc16 ((s.statusPacket d).take ((s.statusPacket d).length - 2))) := by
  rw [State.statusPacket, framePacket_length, Nat.add_sub_cancel]
  exact framePacket_crc ..

/-- A field before the last-refusal record whose bytes hold its value. -/
theorem State.fieldAt_statusHead_of_lt {i len v : Nat} (hfield : (s.statusHead d)[i]? = some (len, v))
    (hfits : v < 256 ^ len) :
    fieldAt (fieldOffset 4 (s.statusHead d) i) len (s.statusPacket d) = v := by
  rw [s.fieldAt_statusHead d hfield, Nat.mod_eq_of_lt hfits]

/-- The board, its group and its frame, and the scene (R164, offsets 0 to 14 of the payload). -/
theorem State.statusPacket_sceneFields (hboard : s.straps.board < 8) :
    fieldAt 4 1 (s.statusPacket d) = s.straps.board ∧
      fieldAt 5 1 (s.statusPacket d) =
        (if s.group.role = .leader then 1 else 0) + (if s.group.participation = true then 2 else 0) ∧
      fieldAt 6 4 (s.statusPacket d) = s.status.frameCount.toNat ∧ fieldAt 10 1 (s.statusPacket d) = d.lock.code ∧
      fieldAt 11 1 (s.statusPacket d) = s.scene.phase.code ∧ fieldAt 12 2 (s.statusPacket d) = s.scene.tag % 65536 ∧
      fieldAt 14 2 (s.statusPacket d) = s.scene.generation % 65536 ∧
      fieldAt 16 1 (s.statusPacket d) = s.scene.page % 256 ∧
      fieldAt 17 1 (s.statusPacket d) = s.scene.stack.length % 256 ∧
      fieldAt 18 1 (s.statusPacket d) = s.scene.threshold % 256 := by
  have hrole : boolCode (s.group.role == .leader) + 2 * boolCode s.group.participation =
      (if s.group.role = .leader then 1 else 0) + (if s.group.participation = true then 2 else 0) := by
    cases s.group.role <;> cases s.group.participation <;> rfl
  have hroleFits : boolCode (s.group.role == .leader) + 2 * boolCode s.group.participation < 256 := by
    cases s.group.role <;> cases s.group.participation <;> decide
  have hlock : d.lock.code < 256 := by cases d.lock <;> decide
  have hphase : s.scene.phase.code < 256 := by cases s.scene.phase <;> decide
  refine ⟨s.fieldAt_statusHead_of_lt d (i := 0) rfl (Nat.lt_trans hboard (by decide)),
    (s.fieldAt_statusHead_of_lt d (i := 1) rfl hroleFits).trans hrole,
    s.fieldAt_statusHead_of_lt d (i := 2) rfl s.status.frameCount.isLt,
    s.fieldAt_statusHead_of_lt d (i := 3) rfl hlock,
    s.fieldAt_statusHead_of_lt d (i := 4) rfl hphase,
    s.fieldAt_statusHead d (i := 5) rfl, s.fieldAt_statusHead d (i := 6) rfl,
    s.fieldAt_statusHead d (i := 7) rfl, s.fieldAt_statusHead d (i := 8) rfl,
    s.fieldAt_statusHead d (i := 9) rfl⟩

/-- The free entries of the queues and the flags (R164). -/
theorem State.statusPacket_queueFields :
    fieldAt 19 1 (s.statusPacket d) = 64 - s.scene.tableQ.length ∧
      fieldAt 20 1 (s.statusPacket d) = 16 - s.scene.hotQ.length ∧
      fieldAt 21 1 (s.statusPacket d) = d.uploadFree % 256 ∧ fieldAt 22 1 (s.statusPacket d) = d.readFree % 256 ∧
      fieldAt 23 3 (s.statusPacket d) = s.status.flags.toNat := by
  have htable : 64 - s.scene.tableQ.length < 256 := by omega
  have hhot : 16 - s.scene.hotQ.length < 256 := by omega
  have hflags : s.status.flags.toNat < 256 ^ 3 := by omega
  exact ⟨s.fieldAt_statusHead_of_lt d (i := 10) rfl htable,
    s.fieldAt_statusHead_of_lt d (i := 11) rfl hhot,
    s.fieldAt_statusHead d (i := 12) rfl, s.fieldAt_statusHead d (i := 13) rfl,
    s.fieldAt_statusHead_of_lt d (i := 14) rfl hflags⟩

/-- Without a refusal the record is 0. -/
theorem State.statusPacket_noRefusal (h : s.status.refusal = none) : fieldAt 26 5 (s.statusPacket d) = 0 := by
  have hfield := s.fieldAt_statusRefusal d (off := 0) (len := 5) le_rfl
  rw [h] at hfield
  exact hfield

/-- A field of the last-refusal record. -/
theorem State.fieldAt_refusal {r : LastRefusal} (h : s.status.refusal = some r) {i len v : Nat}
    (hfield : r.fields[i]? = some (len, v)) :
    fieldAt (fieldOffset 26 r.fields i) len (s.statusPacket d) = v % 256 ^ len := by
  have hend := fieldOffset_add_le hfield
  have hfields : (fieldBytes r.fields).length = 5 := fieldBytes_length _
  rw [show fieldOffset 26 r.fields i = 26 + fieldOffset 0 r.fields i from fieldOffset_add 26 0 ..,
    s.fieldAt_statusRefusal d (by omega), h, refusalBytes_some, fieldAt_fieldBytes hfield]

theorem State.statusPacket_refusalFields {r : LastRefusal} (h : s.status.refusal = some r) :
    fieldAt 26 1 (s.statusPacket d) = r.packet % 256 ∧ fieldAt 27 1 (s.statusPacket d) = r.reason % 256 ∧
      fieldAt 28 1 (s.statusPacket d) = r.table % 256 ∧ fieldAt 29 2 (s.statusPacket d) = r.index % 65536 :=
  ⟨s.fieldAt_refusal d h (i := 0) rfl, s.fieldAt_refusal d h (i := 1) rfl,
    s.fieldAt_refusal d h (i := 2) rfl, s.fieldAt_refusal d h (i := 3) rfl⟩

/-- The late lines, the watch result and the store (R164). -/
theorem State.statusPacket_tailFields :
    fieldAt 31 2 (s.statusPacket d) = d.late % 65536 ∧ fieldAt 33 2 (s.statusPacket d) = (d.watch.getD 0).toNat ∧
      fieldAt 35 1 (s.statusPacket d) = (if d.watch.isSome = true then 1 else 0) ∧
      fieldAt 36 1 (s.statusPacket d) = s.store.state.code := by
  have hvalid : boolCode d.watch.isSome < 256 := by cases d.watch.isSome <;> decide
  have hstore : s.store.state.code < 256 := by cases s.store.state <;> decide
  exact ⟨s.fieldAt_statusTail d (i := 0) rfl,
    (s.fieldAt_statusTail d (i := 1) rfl).trans (Nat.mod_eq_of_lt (d.watch.getD 0).isLt),
    (s.fieldAt_statusTail d (i := 2) rfl).trans (Nat.mod_eq_of_lt hvalid),
    (s.fieldAt_statusTail d (i := 3) rfl).trans (Nat.mod_eq_of_lt hstore)⟩

theorem State.statusPacket_replyFields {r : Reply} (h : s.draftReply d = some r) :
    fieldAt 37 1 (s.statusPacket d) = 1 ∧ fieldAt 38 1 (s.statusPacket d) = r.target % 256 ∧
      fieldAt 39 1 (s.statusPacket d) = r.table % 256 ∧ fieldAt 40 3 (s.statusPacket d) = r.index % 16777216 ∧
      fieldAt 43 1 (s.statusPacket d) = r.result % 256 ∧
      ((s.statusPacket d).drop 44).take 20 = padTo 20 r.data :=
  ⟨s.fieldAt_reply d h (i := 0) rfl, s.fieldAt_reply d h (i := 1) rfl,
    s.fieldAt_reply d h (i := 2) rfl, s.fieldAt_reply d h (i := 3) rfl,
    s.fieldAt_reply d h (i := 4) rfl, s.statusPacket_replyData d h⟩

end StatusPacket

/-! ### The frame start -/

/-- Scene settled sends the packet that the frame start began, and leaves the rest of the status unit but the flags. -/
theorem State.settleScene_sends {s : State} {d : StatusDraft} (h : s.status.draft = some d) :
    s.settleScene.status.frameCount = s.status.frameCount ∧
      s.settleScene.status.laneBefore = s.status.laneBefore ∧ s.settleScene.status.readQ = s.status.readQ ∧
      s.settleScene.status.lane = s.statusPacket d ∧ s.settleScene.status.draft = none := by
  have hstatus := s.completeStatus.freezeView.build_buildsTo.status
  rw [State.settleScene, hstatus, State.freezeView_status, State.completeStatus, h]
  exact ⟨rfl, rfl, rfl, rfl, rfl⟩

/-- Settles O53: the packet is a layout of fields, each read back at its own offset (`fieldAt_fieldBytes`); the frame
start begins it (`State.beginFrame_status`) and scene settled sends it (`State.settleScene_sends`), unless
PAGE_HOLD_EXPIRY comes between. -/
theorem statusPacketsHaveTheirLayout : Obligations.StatusPacketsHaveTheirLayout := by
  unfold Obligations.StatusPacketsHaveTheirLayout
  refine ⟨fun s d hboard => ?_, fun s src => ?_⟩
  · obtain ⟨htype, htarget⟩ := s.statusPacket_head d
    exact ⟨s.statusPacket_length_noReply d, s.statusPacket_length_reply d, htype, htarget,
      s.statusPacket_lengthField d, s.statusPacket_crc d, s.statusPacket_sceneFields d hboard,
      s.statusPacket_queueFields d, s.statusPacket_noRefusal d, fun r hr => s.statusPacket_refusalFields d hr,
      s.statusPacket_tailFields d, s.fieldAt_noReply d, fun r hr => s.statusPacket_replyFields d hr⟩
  · intro u t
    obtain ⟨hcount, hbefore, hlane, hqueue, hdraft⟩ := s.beginFrame_status src
    rcases s.outputFrameStart_cases src with ⟨hdue, ht⟩ | ⟨hdue, ht⟩
    · rw [show t = u from ht]
      exact ⟨hcount, hbefore,
        ⟨s.beginFrame_straps src, rfl, s.beginFrame_store src, rfl, rfl, rfl, rfl, fun _ hg => hg⟩,
        s.newDraft, hdraft, ⟨rfl, rfl, rfl, rfl, by rw [hqueue]; rfl⟩,
        fun hfree => absurd (hdue.symm.trans hfree) (by decide), fun _ => ⟨hlane, hdraft⟩⟩
    · obtain ⟨hcount', hbefore', hqueue', hlane', hdraft'⟩ := State.settleScene_sends hdraft
      rw [show t = u.settleScene from ht]
      have hdue' : u.settleScene.holdDue = false := by rw [State.holdDue, State.settleScene_scene]; exact hdue
      exact ⟨hcount'.trans hcount, hbefore' ▸ hbefore,
        ⟨s.beginFrame_straps src, u.settleScene_group.symm, s.beginFrame_store src, u.settleScene_tables.symm,
          hcount'.symm, u.settleScene_refusal.symm, u.settleScene_scene.symm, fun _ => u.settleScene_flagged⟩,
        s.newDraft, hdraft, ⟨rfl, rfl, rfl, rfl, by rw [hqueue', hqueue]; rfl⟩, fun _ => ⟨hlane', hdraft'⟩,
        fun hheld => absurd (hdue'.symm.trans hheld) (by decide)⟩

end Sys2Proof.Machine

/-! SUPPORT. The event flags under a cause, a clear and a refusal (R167, R168), and the statement O52. -/

namespace Sys2Proof.Machine

/-! ### Flags and refusals (R158, R167, R168) -/

/-- A clear takes away the flags of its mask; the flags end at bit 18, so that bits 19 to 23 are ignored (R167). -/
theorem State.flagged_clearFlags (mask : BitVec 24) (g : Flag) (s : State) :
    (s.clearFlags mask).flagged g = (s.flagged g && !mask.getLsbD g.bit) := by
  simp [State.flagged, State.clearFlags, g.bit_lt]

/-- A refusal is a cause of REFUSED alone (R168). -/
theorem State.flagged_refuse (p : Nat) (why : Reason) (table index : Nat) (g : Flag) (s : State) :
    (s.refuse p why table index).flagged g = (s.flagged g || g == .refused) :=
  (s.flagged_raise_eq .refused g).trans (by rw [Bool.beq_comm])

/-- Settles O52: raising a flag is an `or` with its own bit (`State.flagged_raise_eq`), a clear an `and` with the mask's
complement, and a refusal the cause of REFUSED with the record written. -/
theorem flagsAreStickyAndRefusalsOverwrite : Obligations.FlagsAreStickyAndRefusalsOverwrite :=
  ⟨fun s f g => s.flagged_raise_eq f g,
    fun s mask g => ⟨s.flagged_clearFlags mask g, rfl⟩,
    fun s p why table index =>
      ⟨s.refuse_refusal p why table index, fun g => s.flagged_refuse p why table index g,
        s.refuse_scene p why table index, s.refuse_tables p why table index⟩,
    rfl⟩

end Sys2Proof.Machine

/-! SUPPORT. The watch computation over the clipped rectangle (R170), and the statement O54. -/

namespace Sys2Proof.Machine

/-! ### The rectangle clipped to the canvas -/

theorem State.watchClip_of_no_rect {s : State} (hrect : s.status.watch = none) : s.watchClip = none := by
  rw [State.watchClip, hrect]

/-- The rectangle as it is clipped, or none where it holds no pixel of the canvas. -/
theorem State.watchClip_of_rect {s : State} {r : Rect} (hrect : s.status.watch = some r) :
    s.watchClip =
      if r.x < min (r.x + r.width) s.raster.record.width ∧ r.y < min (r.y + r.height) s.raster.record.height then
        some (r.x, min (r.x + r.width) s.raster.record.width, r.y, min (r.y + r.height) s.raster.record.height)
      else none := by
  rw [State.watchClip, hrect]

/-- With no pixel to watch there is no result, and no line and no cut counts. -/
theorem State.watches_nothing {s : State} (hclip : s.watchClip = none) :
    s.watchResult = none ∧ (∀ y out, s.watchLine y out = s) ∧ ∀ sent, s.watchCut sent = s := by
  refine ⟨?_, fun y out => ?_, fun sent => ?_⟩
  · rw [State.watchResult, hclip]
  · rw [State.watchLine, hclip]
  · rw [State.watchCut, hclip]

/-! ### Lines, cuts and the result over a clipped rectangle -/

/-- A pixel of the rectangle has been missed: the frame's result is lost. -/
def State.missWatched (s : State) : State :=
  { s with status := { s.status with watchRun := { s.status.watchRun with whole := false } } }

/-- A computation that has missed a pixel has no result, whatever the rectangle. -/
theorem State.watchResult_of_not_whole {s : State} (hwhole : s.status.watchRun.whole = false) :
    s.watchResult = none := by
  unfold State.watchResult
  split
  · rfl
  · simp [hwhole]

theorem State.missWatched_watchResult (s : State) : s.missWatched.watchResult = none :=
  State.watchResult_of_not_whole rfl

section Clipped
variable {s : State} {x0 x1 y0 y1 : Nat} (hclip : s.watchClip = some (x0, x1, y0, y1))
include hclip

theorem State.watchLine_outside {y : Nat} (hy : ¬(y0 ≤ y ∧ y < y1)) (out : List Rgb) : s.watchLine y out = s := by
  simp only [State.watchLine, hclip, if_neg hy]

theorem State.watchLine_whole {y : Nat} {out : List Rgb} (hy : y0 ≤ y ∧ y < y1) (hlong : x1 ≤ out.length) :
    (s.watchLine y out).status.watchRun =
      ⟨crcMore s.status.watchRun.crc (((out.drop x0).take (x1 - x0)).flatMap fun c => [c.r, c.g, c.b]),
        s.status.watchRun.rows + 1, s.status.watchRun.whole⟩ := by
  simp only [State.watchLine, hclip, if_pos hy, if_pos hlong, columnBytes_eq_flatMap]

theorem State.watchLine_short {y : Nat} {out : List Rgb} (hy : y0 ≤ y ∧ y < y1) (hshort : out.length < x1) :
    s.watchLine y out = s.missWatched := by
  simp only [State.watchLine, hclip, if_pos hy, if_neg (Nat.not_le.2 hshort), State.missWatched]

/-- The line being sent is the one before the next; a cut misses a pixel where that line crosses the rectangle and its
last watched column had not been sent. -/
theorem State.watchCut_of_clip (sent : Nat) :
    s.watchCut sent =
      if y0 + 1 ≤ s.raster.nextLine ∧ s.raster.nextLine ≤ y1 ∧ sent < x1 then s.missWatched else s := by
  simp only [State.watchCut, hclip, State.missWatched]

theorem State.watchResult_of_clip :
    s.watchResult =
      if s.status.watchRun.whole ∧ s.status.watchRun.rows = y1 - y0 then some s.status.watchRun.crc else none := by
  simp only [State.watchResult, hclip]

end Clipped

/-! ### The frame start and the cut line -/

/-- An output frame start begins the computation afresh, and nothing up to the next line takes part in it. -/
theorem State.outputFrameStart_watchRun (src : Source) (s : State) :
    (s.outputFrameStart src).status.watchRun = ⟨0xFFFF, 0, true⟩ := by
  have hbegin : (s.beginFrame src).status.watchRun = ⟨0xFFFF, 0, true⟩ := (s.beginFrame_controlsTo src).watchRun
  rcases s.outputFrameStart_cases src with ⟨-, h⟩ | ⟨-, h⟩ <;> rw [h]
  · exact hbegin
  · obtain ⟨lane, d, hsettled⟩ := (s.beginFrame src).settleScene_cases
    rw [hsettled.status]
    exact hbegin

/-- Settles O54: over the clipped rectangle each line either lies outside, is taken whole, or misses a pixel; so does a
cut (`State.watchCut_of_clip`), and the result stands where nothing was missed and every line was taken. -/
theorem watchResultCoversTheClippedRectangle : Obligations.WatchResultCoversTheClippedRectangle := by
  unfold Obligations.WatchResultCoversTheClippedRectangle
  refine ⟨fun s src => s.outputFrameStart_watchRun src, fun s => ?_, fun s => ⟨fun hrect => ?_, fun r hrect => ?_⟩⟩
  · rcases s.cutLine_cases with ⟨hnone, h⟩ | ⟨px, hpx, h⟩
    · exact ⟨fun _ => h, fun px hpx => absurd hpx (hnone px)⟩
    · refine ⟨fun hidle => by simp [hpx] at hidle, fun px' hpx' => ?_⟩
      cases hpx.symm.trans hpx'
      exact h.symm
  · exact State.watches_nothing (State.watchClip_of_no_rect hrect)
  · intro x1 y1
    have hclip : s.watchClip = if r.x < x1 ∧ r.y < y1 then some (r.x, x1, r.y, y1) else none :=
      State.watchClip_of_rect hrect
    refine ⟨fun hempty => State.watches_nothing (hclip.trans (if_neg hempty)), fun hx hy => ?_⟩
    rw [if_pos ⟨hx, hy⟩] at hclip
    have hcut := State.watchCut_of_clip hclip
    have hresult := State.watchResult_of_clip hclip
    refine ⟨fun y out hout => State.watchLine_outside hclip hout out,
      fun y out hlow hhigh hlong => State.watchLine_whole hclip ⟨hlow, hhigh⟩ hlong,
      fun y out hlow hhigh hshort => ?_,
      fun hfirst sent => (hcut sent).trans (if_neg (by omega)),
      fun sent y hnext => ⟨fun hlow hhigh hsent => ?_, fun hmiss => (hcut sent).trans (if_neg (by omega))⟩,
      fun hwhole hrows => hresult.trans (if_pos ⟨hwhole, hrows⟩), fun hmissed => hresult.trans (if_neg ?_)⟩
    · rw [State.watchLine_short hclip ⟨hlow, hhigh⟩ hshort]
      exact ⟨rfl, s.missWatched_watchResult⟩
    · rw [hcut sent, if_pos (by omega)]
      exact ⟨rfl, s.missWatched_watchResult⟩
    · rintro ⟨hwhole, hrows⟩
      rcases hmissed with h | h
      · exact absurd (hwhole.symm.trans h) (by decide)
      · exact h hrows

end Sys2Proof.Machine

/-! SUPPORT. Read-back: the head of the read queue taken at an output frame start, the packet that answers it, and the
store read completed (R166, R169), and the statement O55. -/

namespace Sys2Proof.Machine

/-! ### The answer to a table request -/

/-- A table code past the last one names a table of no entry. -/
theorem tableSize_of_five_lt : ∀ {table : Nat}, 5 < table → tableSize table = 0
  | _ + 6, _ => rfl

theorem State.tableReply_of_entry {q : ReadReq} (htable : 1 ≤ q.table) (hindex : q.index < tableSize q.table)
    (s : State) :
    s.tableReply q = ⟨q.target, q.table, q.index, 0,
      padTo 20 ((if q.target = 1 then s.activeBank else s.stagingBank).encodeEntry q.table q.index)⟩ :=
  if_pos ⟨htable, hindex⟩

theorem State.tableReply_of_no_entry {q : ReadReq} (h : q.table = 0 ∨ tableSize q.table ≤ q.index) (s : State) :
    s.tableReply q = ⟨q.target, q.table, q.index, 1, List.replicate 20 0⟩ :=
  if_neg (by omega)

/-! ### The request taken -/

section ServeRead
variable {s : State}

/-- A store reply that waits goes into the packet, and no request is taken. -/
theorem State.serveRead_of_reply {r : Reply} (hreply : s.status.storeReply = some r) :
    s.serveRead = ({ s with status := { s.status with storeReply := none } }, none, some r) := by
  simp only [State.serveRead, hreply]

/-- No request is taken while a store read is outstanding, nor from an empty queue. -/
theorem State.serveRead_of_no_request (hreply : s.status.storeReply = none)
    (h : s.status.storeRead ≠ none ∨ s.status.readQ = []) : s.serveRead = (s, none, none) := by
  cases hread : s.status.storeRead with
  | some n => simp only [State.serveRead, hreply, hread]
  | none =>
    have hqueue : s.status.readQ = [] := h.resolve_left (not_not_intro hread)
    simp only [State.serveRead, hreply, hread, hqueue]

/-- The head of the queue is taken: a store request becomes the read outstanding, any other is answered. -/
theorem State.serveRead_of_request {q : ReadReq} {qs : List ReadReq} (hreply : s.status.storeReply = none)
    (hread : s.status.storeRead = none) (hqueue : s.status.readQ = q :: qs) :
    s.serveRead =
      if q.target = 3 then
        ({ s with status := { s.status with readQ := qs, storeRead := some q } }, none, none)
      else ({ s with status := { s.status with readQ := qs } }, some q, none) := by
  simp only [State.serveRead, hreply, hread, hqueue]

/-- Of the store read and its reply, too, the taking of a request looks at nothing else. -/
theorem State.serveRead_store_congr {t : State} (hreply : t.status.storeReply = s.status.storeReply)
    (hread : t.status.storeRead = s.status.storeRead) (hqueue : t.status.readQ = s.status.readQ) :
    t.serveRead.1.status.storeRead = s.serveRead.1.status.storeRead ∧
      t.serveRead.1.status.storeReply = s.serveRead.1.status.storeReply := by
  unfold State.serveRead
  rw [hreply, hread, hqueue]
  split
  · exact ⟨hread, rfl⟩
  · exact ⟨hread, hreply⟩
  · exact ⟨hread, hreply⟩
  · split
    · exact ⟨rfl, hreply⟩
    · exact ⟨hread, hreply⟩

end ServeRead

/-! ### The store read across an output frame start -/

/-- The frame opened takes the store read and its reply as the taking of a request leaves them. -/
theorem State.openFrame_storeRead (src : Source) (s : State) :
    (s.openFrame src).status.storeRead = s.serveRead.1.status.storeRead ∧
      (s.openFrame src).status.storeReply = s.serveRead.1.status.storeReply := by
  unfold State.openFrame
  simp only
  generalize hclosed : State.closeBuilder _ = c
  obtain ⟨n, k, hcut⟩ := c.cutPacket_cases
  have hstatus : c.status = s.status := by rw [← hclosed]; rfl
  apply State.serveRead_store_congr <;> rw [hcut, ← hstatus]

/-- The scene controller and the group sync unit leave the store read and its reply alone. -/
theorem State.ControlsTo.storeRead {s t : State} (h : s.ControlsTo t) :
    t.status.storeRead = s.status.storeRead ∧ t.status.storeReply = s.status.storeReply := by
  obtain ⟨tb, sc, g, v, r, w, rfl, -, -⟩ := h
  exact ⟨rfl, rfl⟩

theorem State.beginFrame_storeRead (src : Source) (s : State) :
    (s.beginFrame src).status.storeRead = s.serveRead.1.status.storeRead ∧
      (s.beginFrame src).status.storeReply = s.serveRead.1.status.storeReply := by
  obtain ⟨hread, hreply⟩ := (s.beginFrame_controlsTo src).storeRead
  obtain ⟨hread', hreply'⟩ := s.popIfDue.openFrame_storeRead src
  have hpop := s.popIfDue_controlsTo
  obtain ⟨-, -, -, -, hqueue, -⟩ := hpop.sending
  obtain ⟨hpopRead, hpopReply⟩ := State.serveRead_store_congr hpop.storeRead.2 hpop.storeRead.1 hqueue
  exact ⟨(hread.trans hread').trans hpopRead, (hreply.trans hreply').trans hpopReply⟩

theorem State.settleScene_storeRead (s : State) :
    s.settleScene.status.storeRead = s.status.storeRead ∧
      s.settleScene.status.storeReply = s.status.storeReply := by
  obtain ⟨lane, d, h⟩ := s.settleScene_cases
  rw [h.status]
  exact ⟨rfl, rfl⟩

/-! ### The packet that answers -/

/-- The packet begun carries the store reply taken, or else the answer to the table request taken. -/
theorem State.draftReply_newDraft (s u : State) :
    u.draftReply s.newDraft = s.serveRead.2.2.or (s.serveRead.2.1.map u.tableReply) := by
  unfold State.draftReply State.newDraft
  cases s.serveRead.2.2 <;> rfl

/-- What a frame start takes at the status unit stands behind it, and its packet, unless it waits, answers what was
taken, from the tables as scene settled finds them. -/
theorem State.outputFrameStart_answers {s taken : State} {request : Option ReadReq} {reply : Option Reply}
    (h : s.serveRead = (taken, request, reply)) (src : Source) :
    let u := s.beginFrame src
    let t := s.outputFrameStart src
    t.status.storeReply = taken.status.storeReply ∧ t.status.readQ = taken.status.readQ ∧
      t.status.storeRead = taken.status.storeRead ∧ u.tables = t.tables ∧
      (t.holdDue = false →
        ∃ d, t.status.lane = u.statusPacket d ∧ u.draftReply d = reply.or (request.map u.tableReply)) := by
  intro u t
  obtain ⟨-, -, -, hqueue, hdraft⟩ := s.beginFrame_status src
  obtain ⟨hread, hreply⟩ := s.beginFrame_storeRead src
  have hanswer := s.draftReply_newDraft u
  rw [h] at hqueue hread hreply hanswer
  rcases s.outputFrameStart_cases src with ⟨hdue, ht⟩ | ⟨-, ht⟩
  · rw [show t = u from ht]
    exact ⟨hreply, hqueue, hread, rfl, fun hfree => absurd (hdue.symm.trans hfree) (by decide)⟩
  · obtain ⟨-, -, hqueue', hlane, -⟩ := State.settleScene_sends hdraft
    obtain ⟨hread', hreply'⟩ := u.settleScene_storeRead
    rw [show t = u.settleScene from ht]
    exact ⟨hreply'.trans hreply, hqueue'.trans hqueue, hread'.trans hread, u.settleScene_tables.symm,
      fun _ => ⟨s.newDraft, hlane, hanswer⟩⟩

/-! ### The store read completed -/

theorem State.storeReply_names (q : ReadReq) (s : State) :
    (s.storeReply q).target = q.target ∧ (s.storeReply q).table = q.table ∧ (s.storeReply q).index = q.index := by
  unfold State.storeReply
  split
  · exact ⟨rfl, rfl, rfl⟩
  · split <;> exact ⟨rfl, rfl, rfl⟩

theorem State.storeReply_of_no_store {s : State} (hblocks : s.straps.blocks = 0) (q : ReadReq) :
    (s.storeReply q).result = 2 ∧ (s.storeReply q).data = List.replicate 20 0 := by
  rw [State.storeReply, if_pos hblocks]
  exact ⟨rfl, rfl⟩

theorem State.storeReply_of_past_end {s : State} {q : ReadReq} (hblocks : s.straps.blocks ≠ 0)
    (hend : s.straps.blocks * 1048576 < q.index + 16) :
    (s.storeReply q).result = 1 ∧ (s.storeReply q).data = List.replicate 20 0 := by
  rw [State.storeReply, if_neg hblocks, if_pos (show s.storeSize < _ from hend)]
  exact ⟨rfl, rfl⟩

/-- Up to its length a padded list is the list itself and zeros behind it. -/
theorem padTo_getElem? {n i : Nat} (hi : i < n) (bs : List Byte) : (padTo n bs)[i]? = some (bs.getD i 0) := by
  rw [padTo, List.getElem?_take_of_lt hi, List.getElem?_append, List.getD_eq_getElem?_getD]
  split
  · next hin => simp [hin]
  · next hout =>
    rw [List.getElem?_replicate_of_lt (by omega), List.getElem?_eq_none (by omega)]
    rfl

/-- Within the store the reply holds its 16 bytes, those of read-protected blocks as 0, and zeros behind them. -/
theorem State.storeReply_of_inside {s : State} {q : ReadReq} (hblocks : s.straps.blocks ≠ 0)
    (hend : q.index + 16 ≤ s.straps.blocks * 1048576) :
    (s.storeReply q).result = 0 ∧ (s.storeReply q).data.length = 20 ∧
      ∀ i, i < 20 → (s.storeReply q).data[i]? = some
        (if i < 16 ∧ s.store.readMarks.getLsbD ((q.index + i) / 1048576) = true then
          s.flashByte (q.index + i) else 0) := by
  rw [State.storeReply, if_neg hblocks, if_neg (show ¬s.storeSize < _ from Nat.not_lt.2 hend)]
  refine ⟨rfl, padTo_length .., fun i hi => ?_⟩
  rw [padTo_getElem? hi, List.getD_eq_getElem?_getD, List.getElem?_map]
  by_cases h16 : i < 16
  · cases hmark : s.store.readMarks.getLsbD ((q.index + i) / 1048576) <;> simp [h16, hmark, blockSize]
  · simp [h16]

/-- In a quiet state no load and no RECALL is at work; with no SAVE and no protect program either, none of the store
controller's operations is. -/
theorem State.storeOperating_of_quiet {s : State} (hq : s.quiet = true) (hsaving : s.scene.phase ≠ .saving)
    (hjob : s.store.protectJob = none) : s.storeOperating = false := by
  have hquiet : s.storeQuiet = true := (Bool.and_eq_true _ _ ▸ hq : s.nothingDue = true ∧ s.storeQuiet = true).2
  unfold State.storeQuiet at hquiet
  simp only [Bool.and_eq_true, Bool.not_eq_true', bne_iff_ne] at hquiet
  obtain ⟨⟨hloading, hrecalling⟩, -⟩ := hquiet
  simp [State.storeOperating, hloading, hrecalling, hsaving, hjob]

/-- The outstanding store read completes, and its reply waits for the next packet. -/
theorem execStoreReadCompletion_of_read {s : State} {q : ReadReq} (hpre : s.prelude = s)
    (hread : s.status.storeRead = some q) (hidle : s.storeOperating = false) :
    exec .storeReadCompletion s =
      .next { s with status := { s.status with storeRead := none, storeReply := some (s.storeReply q) } } := by
  change execStoreReadCompletion s = _
  unfold execStoreReadCompletion
  simp only [hpre, hread, hidle]

/-- Settles O55: the three cases of `State.serveRead`, each carried through the frame start by
`State.outputFrameStart_answers`; and the store reply by its three cases. -/
theorem readBackIsAnswered : Obligations.ReadBackIsAnswered := by
  unfold Obligations.ReadBackIsAnswered
  refine ⟨fun s q => ⟨fun hlow hhigh hindex => ?_, fun hnone => ?_⟩, fun s src => ⟨fun r hreply => ?_, ?_, ?_⟩, ?_⟩
  · have h := s.tableReply_of_entry hlow hindex
    exact ⟨fun hactive => by rw [h, hactive]; rfl, fun hstaging => by rw [h, hstaging]; rfl⟩
  · refine s.tableReply_of_no_entry (hnone.imp_right ?_)
    rintro (hcode | hindex)
    · exact (tableSize_of_five_lt hcode).le.trans (Nat.zero_le _)
    · exact hindex
  · obtain ⟨hreply', hqueue, hread, -, hlane⟩ := State.outputFrameStart_answers (State.serveRead_of_reply hreply) src
    exact ⟨hreply', hqueue, hread, hlane⟩
  · intro hreply hnone
    obtain ⟨hreply', hqueue, hread, -, hlane⟩ :=
      State.outputFrameStart_answers (State.serveRead_of_no_request hreply hnone) src
    exact ⟨hreply'.trans hreply, hqueue, hread, hlane⟩
  · intro q qs hreply hread hqueue
    have hserve := State.serveRead_of_request hreply hread hqueue
    by_cases htarget : q.target = 3
    · rw [if_pos htarget] at hserve
      obtain ⟨hreply', hqueue', hread', -, hlane⟩ := State.outputFrameStart_answers hserve src
      exact ⟨hreply'.trans hreply, hqueue', fun _ => ⟨hread', hlane⟩, fun hother => absurd htarget hother⟩
    · rw [if_neg htarget] at hserve
      obtain ⟨hreply', hqueue', hread', htables, hlane⟩ := State.outputFrameStart_answers hserve src
      refine ⟨hreply'.trans hreply, hqueue', fun hstore => absurd hstore htarget,
        fun _ => ⟨hread'.trans hread, fun hfree => ?_⟩⟩
      obtain ⟨d, hsent, hanswer⟩ := hlane hfree
      exact ⟨d, hsent, hanswer, htables⟩
  · intro s q hq hread hsaving hjob
    obtain ⟨htarget, htable, hindex⟩ := s.storeReply_names q
    exact ⟨s.storeReply q,
      execStoreReadCompletion_of_read (s.prelude_of_quiet hq) hread (State.storeOperating_of_quiet hq hsaving hjob),
      htarget, htable, hindex, fun hnone => State.storeReply_of_no_store hnone q,
      fun hblocks hend => State.storeReply_of_past_end hblocks hend,
      fun hblocks hend => State.storeReply_of_inside hblocks hend⟩

end Sys2Proof.Machine

/-! SUPPORT. The serial store under erases and page programs (R172), and a save that programs page by page (R177): what
is programmed reads back, and what lies below is left alone; with the statement O56. -/

namespace Sys2Proof.Machine

/-! ### A page program over a range (R172) -/

section Program
variable {m : List Host.Cell} (hwf : memWf flashFill m = true)
include hwf

/-- A page program byte by byte: within its range the bitwise and of old and new, elsewhere the old byte. -/
theorem memRead_flashProgramPage (a c : Nat) (bs : List Byte) :
    memRead flashFill (flashProgramPage m a bs) c =
      if a ≤ c ∧ c < a + bs.length then memRead flashFill m c &&& bs.getD (c - a) 0 else memRead flashFill m c := by
  split
  · rename_i hin
    obtain ⟨i, rfl⟩ := Nat.exists_eq_add_of_le hin.1
    have hi : i < bs.length := by omega
    rw [memRead_flashProgramPage_in bs m a i hwf hi, Nat.add_sub_cancel_left, List.getD_eq_getElem _ _ hi]
  · rename_i hout
    exact memRead_flashProgramPage_out bs m a c (by omega)

/-- A page program turns no bit from 0 to 1. -/
theorem memRead_flashProgramPage_and (a c : Nat) (bs : List Byte) :
    memRead flashFill (flashProgramPage m a bs) c &&& memRead flashFill m c =
      memRead flashFill (flashProgramPage m a bs) c := by
  rw [memRead_flashProgramPage hwf]
  split
  · rw [BitVec.and_comm, ← BitVec.and_assoc, BitVec.and_self]
  · exact BitVec.and_self

end Program

/-! ### Below the place of a save nothing changes (R177) -/

/-- A save's work moves its place upwards and leaves every byte below it as it was. -/
structure KeepsBelow (r r' : SaveJob × List Host.Cell) : Prop where
  addr : r.1.addr ≤ r'.1.addr
  below : ∀ c, c < r.1.addr → memRead flashFill r'.2 c = memRead flashFill r.2 c

theorem KeepsBelow.refl (r : SaveJob × List Host.Cell) : KeepsBelow r r := ⟨le_rfl, fun _ _ => rfl⟩

theorem KeepsBelow.trans {r r' r'' : SaveJob × List Host.Cell} (h : KeepsBelow r r') (k : KeepsBelow r' r'') :
    KeepsBelow r r'' :=
  ⟨h.addr.trans k.addr, fun c hc => (k.below c (hc.trans_le h.addr)).trans (h.below c hc)⟩

/-- An erase before a page clears the page's own sector, which begins with the page. -/
theorem memRead_flashWritePage_below (m : List Host.Cell) {a c : Nat} (bs : List Byte) (hc : c < a) :
    memRead flashFill (flashWritePage m a bs) c = memRead flashFill m c := by
  rw [flashWritePage, memRead_flashProgramPage_out _ _ _ _ (.inl hc)]
  split
  · rw [memRead_flashErase, if_neg (by omega)]
  · rfl

theorem saveProgram_keepsBelow (r : SaveJob × List Host.Cell) : KeepsBelow r (saveProgram r) :=
  ⟨Nat.le_add_right _ _, fun _ hc => memRead_flashWritePage_below _ _ hc⟩

theorem savePiece_keepsBelow (k : Bank) (r : SaveJob × List Host.Cell) : KeepsBelow r (savePiece k r) := by
  rcases savePiece_cases k r with ⟨-, h⟩ | ⟨-, -, h⟩ | ⟨u, us, -, -, h⟩ <;> rw [h]
  · exact saveProgram_keepsBelow r
  · exact .refl r
  · exact ⟨(formUnit_toRead k u { r.1 with units := us }).2.ge, fun _ _ => rfl⟩

theorem saveSome_keepsBelow (k : Bank) (n : Nat) (r : SaveJob × List Host.Cell) : KeepsBelow r (saveSome k n r) := by
  induction n generalizing r with
  | zero => exact .refl r
  | succ n ih => exact (savePiece_keepsBelow k r).trans (ih _)

/-! ### What a save programs reads back (R177) -/

/-- From the place of a save on, the rest of a sector that the save has begun is erased. -/
def ErasedAhead (r : SaveJob × List Host.Cell) : Prop :=
  ∀ c, r.1.addr ≤ c → c / 4096 = r.1.addr / 4096 → r.1.addr % 4096 ≠ 0 → memRead flashFill r.2 c = 0xFF

/-- Pages programmed off the front of what a save has in hand: the rest stays in hand, and over erased bytes what was
programmed reads back. -/
structure Programmed (r r' : SaveJob × List Host.Cell) : Prop extends KeepsBelow r r' where
  total : r'.1.addr + r'.1.page.length = r.1.addr + r.1.page.length
  page : r'.1.page = r.1.page.drop (r'.1.addr - r.1.addr)
  readsBack : memWf flashFill r.2 = true → ErasedAhead r →
    memWf flashFill r'.2 = true ∧ ErasedAhead r' ∧
      ∀ i, r.1.addr + i < r'.1.addr → memRead flashFill r'.2 (r.1.addr + i) = r.1.page.getD i 0

theorem Programmed.refl (r : SaveJob × List Host.Cell) : Programmed r r where
  toKeepsBelow := .refl r
  total := rfl
  page := by rw [Nat.sub_self, List.drop_zero]
  readsBack hwf herased := ⟨hwf, herased, fun i hi => by omega⟩

theorem Programmed.trans {r r' r'' : SaveJob × List Host.Cell} (h : Programmed r r') (k : Programmed r' r'') :
    Programmed r r'' where
  toKeepsBelow := h.toKeepsBelow.trans k.toKeepsBelow
  total := k.total.trans h.total
  page := by
    have haddr := h.addr
    have haddr' := k.addr
    rw [k.page, h.page, List.drop_drop]
    congr 1
    omega
  readsBack hwf herased := by
    obtain ⟨hwf', herased', hfront⟩ := h.readsBack hwf herased
    obtain ⟨hwf'', herased'', hrest⟩ := k.readsBack hwf' herased'
    refine ⟨hwf'', herased'', fun i hi => ?_⟩
    by_cases hfirst : r.1.addr + i < r'.1.addr
    · rw [k.below _ hfirst, hfront i hfirst]
    · have haddr := h.addr
      obtain ⟨n, hn⟩ := Nat.exists_eq_add_of_le (Nat.le_of_not_lt hfirst)
      have hi' : i = r'.1.addr - r.1.addr + n := by omega
      rw [hn, hrest n (hn ▸ hi), h.page, hi']
      simp [List.getD_eq_getElem?_getD, List.getElem?_drop]

/-- A full page in hand ends at its boundary, in the sector in which it begins; the sector is erased from the page on,
by the erase before it or from before. -/
theorem saveProgram_programmed {r : SaveJob × List Host.Cell} (hfull : r.1.pageFull = true) :
    Programmed r (saveProgram r) := by
  have hroom : (r.1.page.take (pageRoom r.1.addr)).length = pageRoom r.1.addr :=
    List.length_take_of_le (r.1.pageFull_iff.1 hfull)
  have hle : pageRoom r.1.addr ≤ r.1.page.length := r.1.pageFull_iff.1 hfull
  have hroomEq : pageRoom r.1.addr = 256 - r.1.addr % 256 := rfl
  obtain ⟨haddr, hpage, -, -, hflash⟩ := saveProgram_fields r
  rw [hroom] at haddr
  refine ⟨saveProgram_keepsBelow r, ?_, ?_, fun hwf herased => ⟨memWf_saveProgram r hwf, ?_⟩⟩
  · rw [haddr, hpage, List.length_drop]
    omega
  · rw [hpage, haddr, Nat.add_sub_cancel_left]
  · have hbase : ∀ c, r.1.addr ≤ c → c / 4096 = r.1.addr / 4096 →
        memRead flashFill (if r.1.addr % 4096 = 0 then flashErase r.2 r.1.addr else r.2) c = 0xFF := by
      intro c hc hsector
      split
      · rw [memRead_flashErase, if_pos hsector]
        rfl
      · rename_i hinside
        exact herased c hc hsector hinside
    have hbaseWf : memWf flashFill (if r.1.addr % 4096 = 0 then flashErase r.2 r.1.addr else r.2) = true := by
      split
      · exact memWf_flashErase _ _ hwf
      · exact hwf
    refine ⟨fun c hc hsector hinside => ?_, fun i hi => ?_⟩ <;> rw [hflash, flashWritePage]
    · rw [haddr] at hc hsector hinside
      rw [memRead_flashProgramPage_out _ _ _ _ (.inr (by rwa [hroom]))]
      exact hbase c (by omega) (by omega)
    · rw [haddr] at hi
      have hlen : i < (r.1.page.take (pageRoom r.1.addr)).length := by omega
      rw [memRead_flashProgramPage_in _ _ _ i hbaseWf hlen, hbase _ (Nat.le_add_right _ _) (by omega),
        List.getElem_take, List.getD_eq_getElem _ _ (by omega)]
      exact BitVec.allOnes_and

theorem programPages_programmed (n : Nat) (r : SaveJob × List Host.Cell) : Programmed r (programPages n r) := by
  induction n generalizing r with
  | zero => exact .refl r
  | succ n ih =>
    rw [programPages]
    split
    · rename_i hfull
      exact (saveProgram_programmed hfull).trans (ih _)
    · exact .refl r

/-! ### O56 -/

/-- Settles O56: the erase, the page program, one page of a save, and all its full pages. -/
theorem serialStoreErasesAndPrograms : Obligations.SerialStoreErasesAndPrograms := by
  refine ⟨memRead_flashErase, fun m a c bs hwf => memRead_flashProgramPage hwf a c bs, fun j m => ?_,
    fun j m hwf herased => ?_⟩
  · have hlength : ((j.page.take (pageRoom j.addr)).length : Nat) = min (256 - j.addr % 256) j.page.length :=
      List.length_take
    obtain ⟨haddr, hpage, -, -, hflash⟩ := saveProgram_fields (j, m)
    rw [hlength] at haddr
    refine ⟨hpage, haddr, fun hfull => ?_, fun hinside => ?_, fun hstart => ?_⟩
    · rw [haddr, min_eq_left hfull]
      change (j.addr + (256 - j.addr % 256)) % 256 = 0
      omega
    · exact hflash.trans (by rw [flashWritePage, if_neg hinside]; rfl)
    · exact hflash.trans (by rw [flashWritePage, if_pos hstart]; rfl)
  · have hprogrammed := programPages_programmed j.page.length (j, m)
    obtain ⟨-, -, hreads⟩ := hprogrammed.readsBack hwf herased
    have hfull : (programPages j.page.length (j, m)).1.pageFull = false := programPages_pageFull le_rfl
    exact ⟨Nat.lt_of_not_le (of_decide_eq_false hfull), hprogrammed.total, hprogrammed.page, hreads,
      hprogrammed.below⟩

end Sys2Proof.Machine

/-! SUPPORT. The checks of STORE_SAVE, STORE_RECALL and STORE_PROTECT in their order, what an accepted one begins (R175,
R176, R178), and the statement O57. -/

namespace Sys2Proof.Machine

/-! ### The store commands at the head of the table queue (R121) -/

section Exec
variable {s : State} {q : List TableCmd} (hquiet : s.quiet = true) (hidle : s.engineBusy = false)
include hquiet hidle

theorem execStoreSave_of_head (hq : s.scene.tableQ = .storeSave :: q) :
    exec .storeSave s = .next s.takeHead.startSave := by
  change execStoreSave s = _
  unfold execStoreSave
  rw [s.prelude_of_quiet hquiet]
  simp only [State.tableHead_of_idle hidle hq]

theorem execStoreRecall_of_head (hq : s.scene.tableQ = .storeRecall :: q) :
    exec .storeRecall s = .next s.takeHead.startRecall := by
  change execStoreRecall s = _
  unfold execStoreRecall
  rw [s.prelude_of_quiet hquiet]
  simp only [State.tableHead_of_idle hidle hq]

theorem execStoreProtect_of_head {named : BitVec 16} (hq : s.scene.tableQ = .storeProtect named :: q) :
    exec .storeProtect s = .next (s.takeHead.startProtect named) := by
  change execStoreProtect s = _
  unfold execStoreProtect
  rw [s.prelude_of_quiet hquiet]
  simp only [State.tableHead_of_idle hidle hq]

end Exec

/-! ### The conditions that are checked (R176, R178) -/

theorem State.storeBusy_iff (s : State) :
    s.storeBusy = true ↔ s.store.protectJob ≠ none ∨ s.status.storeRead ≠ none := by
  rw [State.storeBusy, Bool.or_eq_true, Option.isSome_iff_ne_none, Option.isSome_iff_ne_none]

/-- There is room where a store is strapped and the image leaves its last 4096 bytes free. -/
theorem State.noRoom_iff (s : State) :
    s.noRoom = true ↔
      ¬(s.straps.blocks ≠ 0 ∧ 9997 + s.pinnedAreas.length * 1048587 ≤ s.straps.blocks * 1048576 - 4096) := by
  rw [State.noRoom, Bool.or_eq_true, beq_iff_eq, decide_eq_true_iff, not_and_or, not_not, not_le]
  rfl

/-- A block is protected against the save where it holds a byte of the image and its mark is 0. -/
theorem State.saveProtected_iff (s : State) :
    s.saveProtected = true ↔
      ∃ b, b ≤ (9997 + s.pinnedAreas.length * 1048587 - 1) / 1048576 ∧ s.store.writeMarks.getLsbD b = false := by
  simp only [State.saveProtected, List.any_eq_true, List.mem_range, Nat.lt_succ_iff, Bool.not_eq_true']
  rfl

/-! ### STORE_SAVE (R176) -/

/-- The save that an accepted STORE_SAVE begins: nothing formed, the pinned areas still to read. -/
def State.newSave (s : State) : SaveJob := ⟨false, [], s.pinnedAreas, 0, 0, [], 0xFFFF, s.pinnedAreas.length⟩

section StartSave
variable {s : State}

theorem State.startSave_of_phase (hphase : s.scene.phase ≠ .settled) : s.startSave = s.refuse 0x16 .state 0 0 :=
  if_pos hphase

variable (hphase : s.scene.phase = .settled)
include hphase

theorem State.startSave_of_busy (hbusy : s.storeBusy = true) : s.startSave = s.refuse 0x16 .busy 0 0 := by
  rw [State.startSave, if_neg (not_not.2 hphase), if_pos hbusy]

variable (hfree : ¬s.storeBusy = true)
include hfree

theorem State.startSave_of_noRoom (hroom : s.noRoom = true) : s.startSave = s.refuse 0x16 .noRoom 0 0 := by
  rw [State.startSave, if_neg (not_not.2 hphase), if_neg hfree, if_pos hroom]

variable (hroom : ¬s.noRoom = true)
include hroom

theorem State.startSave_of_protected (hprot : s.saveProtected = true) :
    s.startSave = s.refuse 0x16 .isProtected 0 0 := by
  rw [State.startSave, if_neg (not_not.2 hphase), if_neg hfree, if_neg hroom, if_pos hprot]

theorem State.startSave_of_accepted (hprot : ¬s.saveProtected = true) :
    s.startSave = { s.enter .saving with store := { s.store with save := some s.newSave } } := by
  rw [State.startSave, if_neg (not_not.2 hphase), if_neg hfree, if_neg hroom, if_neg hprot]
  rfl

end StartSave

/-! ### STORE_RECALL (R175) -/

section StartRecall
variable {s : State}

theorem State.startRecall_of_phase (hphase : s.scene.phase ≠ .settled) :
    s.startRecall = s.refuse 0x17 .state 0 0 := if_pos hphase

variable (hphase : s.scene.phase = .settled)
include hphase

theorem State.startRecall_of_busy (hbusy : s.storeBusy = true) : s.startRecall = s.refuse 0x17 .busy 0 0 := by
  rw [State.startRecall, if_neg (not_not.2 hphase), if_pos hbusy]

theorem State.startRecall_of_accepted (hfree : ¬s.storeBusy = true) :
    s.startRecall =
      { (s.setStaging .cleared).enter .recalling with store := { s.store with imagePos := 0 } } := by
  rw [State.startRecall, if_neg (not_not.2 hphase), if_neg hfree]

end StartRecall

/-- Settles O57: the checks of the two commands in their order, and the arithmetic of the room. -/
theorem storeSaveAndRecallAreChecked : Obligations.StoreSaveAndRecallAreChecked := by
  refine ⟨?_, fun n => ⟨by omega, by omega, by omega⟩⟩
  intro s q hquiet hidle busy n roomy protectedBlock
  have hbusy : s.takeHead.storeBusy = true ↔ busy := s.storeBusy_iff
  refine ⟨fun hq => ?_, fun hq => ?_⟩
  · have hroom : s.takeHead.noRoom = true ↔ ¬roomy := s.noRoom_iff
    have hprotected : s.takeHead.saveProtected = true ↔ protectedBlock := s.saveProtected_iff
    rw [execStoreSave_of_head hquiet hidle hq]
    refine ⟨fun h => ?_, fun h hb => ?_, fun h hb hr => ?_, fun h hb hr hp => ?_,
      fun h hb hr hp => ⟨s.newSave, ?_, rfl, rfl, rfl⟩⟩
    · rw [State.startSave_of_phase (by simpa using h)]
    · rw [State.startSave_of_busy (by simpa using h) (hbusy.2 hb)]
    · rw [State.startSave_of_noRoom (by simpa using h) (hbusy.not.2 hb) (hroom.2 hr)]
    · rw [State.startSave_of_protected (by simpa using h) (hbusy.not.2 hb) (by rwa [hroom, not_not])
        (hprotected.2 hp)]
    · rw [State.startSave_of_accepted (by simpa using h) (hbusy.not.2 hb) (by rwa [hroom, not_not])
        (hprotected.not.2 hp), State.takeHead_of_head hq]
      rfl
  · rw [execStoreRecall_of_head hquiet hidle hq]
    refine ⟨fun h => ?_, fun h hb => ?_, fun h hb => ?_⟩
    · rw [State.startRecall_of_phase (by simpa using h)]
    · rw [State.startRecall_of_busy (by simpa using h) (hbusy.2 hb)]
    · rw [State.startRecall_of_accepted (by simpa using h) (hbusy.not.2 hb)]
      exact ⟨_, rfl, rfl, by simp [hq], State.setStaging_stagingBank s.takeHead _,
        State.setStaging_activeBank s.takeHead _, State.setStaging_active s.takeHead _, rfl, rfl, rfl⟩

end Sys2Proof.Machine

/-! SUPPORT. The protect record and its page program, ended or stopped (R162, R165, R178), a save stopped (R177), and
the statements O59 and O60. -/

namespace Sys2Proof.Machine

/-! ### The page program of the protect record (R178) -/

/-- A record byte holds the two marks of its block above six bits of 1 (R165). -/
theorem recordByte_bits (st : Store) (b : Nat) :
    (recordByte st b).getLsbD 7 = st.writeMarks.getLsbD b ∧ (recordByte st b).getLsbD 6 = st.readMarks.getLsbD b ∧
      ∀ i, i < 6 → (recordByte st b).getLsbD i = true := by
  unfold recordByte
  cases st.writeMarks.getLsbD b <;> cases st.readMarks.getLsbD b <;> decide

theorem recordAddr_eq (blocks b : Nat) : recordAddr blocks b = blocks * 1048576 - 16 + b := by
  rw [recordAddr, blockSize]

theorem recordAddr_eq_add (blocks b : Nat) : recordAddr blocks b = recordAddr blocks 0 + b := by
  rw [recordAddr, recordAddr, Nat.add_zero]

section Record
variable {m : List Host.Cell} (hwf : memWf flashFill m = true)
include hwf

/-- The record byte of a block: cleared as far as reached where the block is named, else as it was. -/
theorem memRead_programRecord_at {b : Nat} (hb : b < 16) (blocks : Nat) (st : Store) (notReached : Nat → Byte)
    (named : BitVec 16) :
    memRead flashFill (programRecord blocks st notReached named m) (recordAddr blocks b) =
      if named.getLsbD b = true then
        memRead flashFill m (recordAddr blocks b) &&& (recordByte st b ||| notReached b)
      else memRead flashFill m (recordAddr blocks b) := by
  rw [recordAddr_eq_add, programRecord, memRead_flashProgramPage_in _ _ _ b hwf (by simpa using hb)]
  simp only [List.getElem_map, List.getElem_range]
  split
  · rfl
  · exact BitVec.and_allOnes

/-- No other byte of the store is reached (R162). -/
theorem memRead_programRecord_other (blocks : Nat) (st : Store) (notReached : Nat → Byte) {named : BitVec 16} {a : Nat}
    (ha : ∀ b, b < 16 → named.getLsbD b = true → a ≠ recordAddr blocks b) :
    memRead flashFill (programRecord blocks st notReached named m) a = memRead flashFill m a := by
  by_cases hin : ∃ b, b < 16 ∧ a = recordAddr blocks b
  · obtain ⟨b, hb, rfl⟩ := hin
    rw [memRead_programRecord_at hwf hb, if_neg fun hnamed => ha b hb hnamed rfl]
  · refine memRead_flashProgramPage_out _ _ _ _ ?_
    rw [List.length_map, List.length_range]
    by_contra hinside
    refine hin ⟨a - recordAddr blocks 0, by omega, ?_⟩
    rw [recordAddr_eq_add]
    omega

/-- The program only clears bits (R172). -/
theorem memRead_programRecord_and (blocks : Nat) (st : Store) (notReached : Nat → Byte) (named : BitVec 16) (a : Nat) :
    memRead flashFill (programRecord blocks st notReached named m) a &&& memRead flashFill m a =
      memRead flashFill (programRecord blocks st notReached named m) a := memRead_flashProgramPage_and hwf _ _ _

end Record

/-! ### STORE_PROTECT on the copy of the marks (R178) -/

/-- The write-protect mark of each block named is cleared, or, where it was clear, the read-protect mark. -/
theorem Store.protect_marks (named : BitVec 16) (st : Store) {b : Nat} (hb : b < 16) :
    (st.protect named).writeMarks.getLsbD b = (st.writeMarks.getLsbD b && !named.getLsbD b) ∧
      (st.protect named).readMarks.getLsbD b =
        (st.readMarks.getLsbD b && !(named.getLsbD b && !st.writeMarks.getLsbD b)) := by
  simp [Store.protect, hb]

section StartProtect
variable {s : State} (named : BitVec 16)

theorem State.startProtect_of_busy (hbusy : s.storeBusy = true) :
    s.startProtect named = s.refuse 0x18 .busy 0 0 := if_pos hbusy

variable (hfree : ¬s.storeBusy = true)
include hfree

theorem State.startProtect_of_no_store (hblocks : s.straps.blocks = 0) :
    s.startProtect named = s.raise .storeFault := by
  rw [State.startProtect, if_neg hfree, if_pos hblocks]

theorem State.startProtect_of_store (hblocks : s.straps.blocks ≠ 0) :
    s.startProtect named = { s with store := s.store.protect named } := by
  rw [State.startProtect, if_neg hfree, if_neg hblocks]

end StartProtect

/-! ### The page program ends, or stops (R178) -/

section Job
variable {s : State} {named : BitVec 16} (hjob : s.store.protectJob = some named)
include hjob

/-- At its end the program has reached every bit. -/
theorem State.protectEnds_of_job :
    s.protectEnds =
      { s with
        store :=
          { s.store with
            flash := programRecord s.straps.blocks s.store (fun _ => 0) named s.store.flash
            protectJob := none } } := by
  simp only [State.protectEnds, hjob]

theorem State.protectStops_of_job :
    s.protectStops =
      { s.nextTick with
        store :=
          { s.store with
            flash := programRecord s.straps.blocks s.store
              (fun b => Config.bitsNotReached s.tick (recordAddr s.straps.blocks b % pageSize)) named s.store.flash
            protectJob := none } } := by
  simp only [State.protectStops, hjob]

theorem State.programTimeout_of_job (hphase : s.scene.phase ≠ .saving) :
    s.programTimeout = s.protectStops.raise .storeFault := by
  unfold State.programTimeout
  split
  · rename_i hsaving _
    exact absurd hsaving hphase
  · rfl
  · rename_i hnone _
    cases hjob.symm.trans hnone

end Job

theorem execProtectProgramCompletion_of_quiet {s : State} (hquiet : s.quiet = true) :
    exec .protectProgramCompletion s = .next s.protectEnds := by
  change execProtectProgramCompletion s = _
  rw [execProtectProgramCompletion, s.prelude_of_quiet hquiet]

/-- Settles O59: the command by its three outcomes, then the program at its end, byte by byte. -/
theorem storeProtectClearsMarks : Obligations.StoreProtectClearsMarks := by
  refine ⟨?_, fun s named hquiet ⟨_, hwf⟩ hblocks hjob => ?_⟩
  · intro s named q hquiet hidle hq busy
    have hbusy : s.takeHead.storeBusy = true ↔ busy := s.storeBusy_iff
    rw [execStoreProtect_of_head hquiet hidle hq]
    refine ⟨fun hb => ?_, fun hb hblocks => ?_, fun hb hblocks => ?_⟩
    · rw [State.startProtect_of_busy _ (hbusy.2 hb)]
    · rw [State.startProtect_of_no_store _ (hbusy.not.2 hb) hblocks]
    · rw [State.startProtect_of_store _ (hbusy.not.2 hb) hblocks, State.takeHead_of_head hq]
      exact ⟨_, rfl, rfl, rfl, rfl, rfl, rfl, rfl, rfl, fun b hb => s.store.protect_marks named hb⟩
  · rw [execProtectProgramCompletion_of_quiet hquiet, State.protectEnds_of_job hjob]
    simp only [← recordAddr_eq]
    refine ⟨_, rfl, rfl, rfl, rfl, rfl, rfl, rfl, rfl, fun b hb hnamed => ?_, fun a ha => ?_⟩ <;>
      simp only [State.flashByte]
    · obtain ⟨hwrite, hread, hones⟩ := recordByte_bits s.store b
      refine ⟨recordByte s.store b, hwrite, hread, hones, ?_⟩
      have hbyte := memRead_programRecord_at hwf hb s.straps.blocks s.store (fun _ => 0) named
      rwa [if_pos hnamed, show recordByte s.store b ||| 0 = recordByte s.store b from BitVec.or_zero] at hbyte
    · exact memRead_programRecord_other hwf _ _ _ ha

/-! ### A save that stops (R177) -/

/-- The page in hand, or the erase before it, lies at or above its address. -/
theorem memRead_flashStopPage_below (tick : Nat) (m : List Host.Cell) {a c : Nat} (bs : List Byte) (hc : c < a) :
    memRead flashFill (flashStopPage tick m a bs) c = memRead flashFill m c := by
  unfold flashStopPage
  split
  · exact memRead_memWriteBytes_out _ _ _ _ _ (.inl hc)
  · exact memRead_flashProgramPage_out _ _ _ _ (.inl hc)

section Stop
variable {s : State} {j : SaveJob} (hj : s.store.save = some j) (hseeded : j.seeded = true)
include hj hseeded

theorem State.saveStops_of_seeded :
    s.saveStops =
      { s.nextTick with
        store := { s.store with flash := flashStopPage s.tick s.store.flash j.addr j.page, save := none } } := by
  simp only [State.saveStops, hj, hseeded, if_true]

theorem State.programTimeout_of_save (hphase : s.scene.phase = .saving) :
    s.programTimeout = (s.saveStops.raise .storeFault).enter .settled := by
  simp only [State.programTimeout, hphase, hj, hseeded, if_true]

end Stop

/-- Settles O60: the save stops behind the pieces that it got done before the time-out, none of them below its place;
the protect program stops as far as it had reached. -/
theorem programTimeoutSetsStoreFault : Obligations.ProgramTimeoutSetsStoreFault := by
  refine ⟨fun s j hdue hload hphase hj hseeded => ?_, fun s named hquiet ⟨_, hwf⟩ hphase hjob => ?_⟩
  · obtain ⟨hseeded', -⟩ := s.saved_toRead j
    have hbelow : KeepsBelow (j, s.store.flash) (s.saved j) := saveSome_keepsBelow _ _ _
    have hsave : (s.nextTick.setSave (s.saved j)).store.save = some (s.saved j).1 := rfl
    have htimeout : exec .storeProgramTimeout s =
        .next (((s.nextTick.setSave (s.saved j)).saveStops.raise .storeFault).enter .settled) := by
      change execStoreProgramTimeout s = _
      rw [execStoreProgramTimeout, State.prelude_of_saving hdue hload hphase hj hseeded,
        State.programTimeout_of_save hsave (hseeded'.trans hseeded) hphase]
    rw [State.saveStops_of_seeded hsave (hseeded'.trans hseeded)] at htimeout
    generalize hstop : flashStopPage _ _ _ _ = m at htimeout
    refine ⟨_, htimeout, State.flagged_raise .storeFault _, rfl, rfl, rfl, by simp, by simp, by simp, fun a ha => ?_⟩
    simp only [State.flashByte, State.enter_store, State.raise_store, ← hstop]
    exact (memRead_flashStopPage_below _ _ _ (ha.trans_le hbelow.addr)).trans (hbelow.below a ha)
  · have htimeout : exec .storeProgramTimeout s = .next (s.protectStops.raise .storeFault) := by
      change execStoreProgramTimeout s = _
      rw [execStoreProgramTimeout, s.prelude_of_quiet hquiet, State.programTimeout_of_job hjob hphase]
    rw [State.protectStops_of_job hjob] at htimeout
    generalize hstop : programRecord _ _ _ _ _ = m at htimeout
    refine ⟨_, htimeout, State.flagged_raise .storeFault _, rfl, rfl, rfl, rfl, rfl, rfl, fun a => ?_,
      fun a ha => ?_⟩ <;> simp only [State.flashByte, State.raise_store, ← hstop]
    · exact memRead_programRecord_and hwf _ _ _ _ a
    · exact memRead_programRecord_other hwf _ _ _ ha

end Sys2Proof.Machine

/-! SUPPORT. The first fallback frame behind a reset of every block: its view is frozen during the load, so that the
builder takes up four empty lines (R46, R48, R67), and every block stands at its reset values (R173, R179). -/

namespace Sys2Proof.Machine

/-! ### The builder during the start-up load (R67) -/

/-- A line under a view of the load has no region and sets no flag. -/
theorem lineList_of_loading {v : View} (hload : v.duringLoad = true) (k : Bank) (y : Nat) :
    lineList k v y = ([], []) := by
  simp [lineList, somePhotoMissing, selectedRegions_of_loading hload, hload]

/-- A line without a region is taken up and done with at once. -/
theorem runBuilder_of_empty_line (n : Nat) {s : State} {v : View} (hview : s.builder.view = some v)
    (hwork : s.builder.work = none) (hload : v.duringLoad = true)
    (hroom : s.builder.nextLine < v.height ∧ s.builder.ring.length < 4) :
    runBuilder (n + 2) s =
      runBuilder n
        { s with
          builder :=
            { s.builder with
              work := none
              nextLine := s.builder.nextLine + 1
              reader := .idle
              ring := s.builder.ring ++ [⟨s.builder.nextLine, []⟩] } } := by
  have htaken : s.takeUp = some (s.tookUp v) := by rw [State.takeUp_of_view hview, if_pos hroom]
  rw [runBuilder, hwork]
  simp only [htaken]
  simp only [State.tookUp, lineList_of_loading hload, State.raiseAll, runBuilder, workList, Reader.idle]
  rfl

/-- The builder as it stands once it has taken up the four lines that the ring holds, under a view of the load. -/
def Builder.loading (v : View) : Builder where
  view := some v
  work := none
  nextLine := 4
  reader := .idle
  ring := [⟨0, []⟩, ⟨1, []⟩, ⟨2, []⟩, ⟨3, []⟩]
  late := 0

theorem State.build_of_loading {s : State} {v : View} (hbuilder : s.builder = { Builder.atReset with view := some v })
    (hload : v.duringLoad = true) (hheight : 4 ≤ v.height) : s.build = { s with builder := .loading v } := by
  have hfull : ∀ u : State, u.builder = .loading v → runBuilder 2 u = u := by
    intro u hu
    have hstop : u.takeUp = none := by
      rw [State.takeUp_of_view (v := v) (by rw [hu]; rfl), if_neg (by rw [hu]; simp [Builder.loading])]
    rw [runBuilder, hstop, hu]
    rfl
  unfold State.build
  rw [runBuilder_of_empty_line 8 (by rw [hbuilder]) (by rw [hbuilder]; rfl) hload,
    runBuilder_of_empty_line 6 (by rw [hbuilder]) rfl hload,
    runBuilder_of_empty_line 4 (by rw [hbuilder]) rfl hload,
    runBuilder_of_empty_line 2 (by rw [hbuilder]) rfl hload]
  · rw [hbuilder]
    exact hfull _ rfl
  all_goals
    rw [hbuilder]
    simp only [Builder.atReset, List.length_append, List.length_nil, List.length_cons]
    omega

/-- The packet completed at scene settled changes lane and draft alone (R166). -/
theorem State.completeStatus_eq (s : State) :
    ∃ lane d, s.completeStatus = { s with status := { s.status with lane := lane, draft := d } } := by
  unfold State.completeStatus
  split
  · exact ⟨s.status.lane, s.status.draft, rfl⟩
  · exact ⟨_, _, rfl⟩

/-- Scene settled during the load: the view frozen, four empty lines taken up, no flag set. -/
theorem State.settleScene_of_loading {s : State} (hbuilder : s.builder = .atReset) (hload : s.loading = true)
    (hheight : 4 ≤ s.raster.record.height) :
    ∃ lane d, s.settleScene =
      { s with
        builder := .loading ⟨s.tables.active, s.scene.page, s.scene.threshold, s.raster.record.width,
          s.raster.record.height, true⟩
        status := { s.status with lane := lane, draft := d } } := by
  obtain ⟨lane, d, hstatus⟩ := s.completeStatus_eq
  refine ⟨lane, d, ?_⟩
  unfold State.settleScene
  have hfrozen : s.completeStatus.freezeView.builder = { Builder.atReset with
      view := some ⟨s.tables.active, s.scene.page, s.scene.threshold, s.raster.record.width, s.raster.record.height,
        s.loading⟩ } := by
    rw [hstatus, State.freezeView, hbuilder]
    rfl
  rw [hload] at hfrozen
  rw [State.build_of_loading hfrozen rfl hheight, hstatus]
  rfl

/-! ### The first frame behind a reset (R19, R138, R171) -/

/-- The update of the first frame finds no pop, no flip and no hot entry due. -/
theorem State.resetBlocks_hotUpdate (s : State) : s.resetBlocks.hotUpdate = (s.resetBlocks, false) := rfl

theorem State.resetBlocks_groupFrameStart (s : State) : s.resetBlocks.groupFrameStart = s.resetBlocks := rfl

theorem State.resetBlocks_serveRead (s : State) : s.resetBlocks.serveRead = (s.resetBlocks, none, none) := rfl

/-- Behind a reset and its first frame every block stands at its reset values, for the straps held. -/
theorem State.resetBlocks_outputFrameStart_atResetValues (s : State) :
    (s.resetBlocks.outputFrameStart .fallback).atResetValues := by
  obtain ⟨htables, hscene, hgroup, hflags, hrefusal, hwatch⟩ := s.resetBlocks.beginFrame_update .fallback
  obtain ⟨hcount, -, -, hqueue, -⟩ := s.resetBlocks.beginFrame_status .fallback
  obtain ⟨hread, hreply⟩ := s.resetBlocks.beginFrame_storeRead .fallback
  have hraster := s.resetBlocks.beginFrame_raster .fallback
  have hstore := s.resetBlocks.beginFrame_store .fallback
  have hlibrary := s.resetBlocks.beginFrame_library .fallback
  have hcache := s.resetBlocks.beginFrame_cache .fallback
  have hstraps := s.resetBlocks.beginFrame_straps .fallback
  have hbuilder := s.resetBlocks.beginFrame_builder .fallback
  have hdue : (s.resetBlocks.beginFrame .fallback).holdDue = false := s.resetBlocks.beginFrame_holdDue .fallback
  rw [State.outputFrameStart, hdue]
  rw [State.resetBlocks_hotUpdate] at htables hscene hgroup hflags hrefusal hwatch
  rw [State.resetBlocks_groupFrameStart] at hscene hgroup
  rw [State.resetBlocks_serveRead] at hqueue hread hreply
  generalize s.resetBlocks.beginFrame .fallback = u at *
  have hheight : 4 ≤ u.raster.record.height := by
    rw [hraster]
    exact (by decide : 4 ≤ 1080)
  obtain ⟨lane, d, hsettled⟩ := State.settleScene_of_loading hbuilder (State.loading_congr (s := s.resetBlocks) hstore)
    hheight
  rw [if_neg Bool.false_ne_true, hsettled]
  refine ⟨hraster, htables, hscene, hcache, ?_, congrArg Library.uploads hlibrary,
    congrArg Library.creditLines hlibrary, congrArg Library.creditLimit hlibrary, congrArg Library.window hlibrary, ?_,
    ?_, congrArg Group.window hgroup, congrArg Group.pulse hgroup, congrArg Group.filterHigh hgroup,
    congrArg Group.filterRun hgroup, hcount, hflags, hrefusal, hqueue, hread, hreply, hwatch,
    congrArg Store.state hstore, congrArg Store.imagePos hstore, congrArg Store.save hstore,
    congrArg Store.protectJob hstore⟩
  · simp only [htables, hscene, hraster]
    rfl
  · simp only [hgroup, hstraps]
    rfl
  · simp only [hgroup, hstraps]
    rfl

theorem getLsbD_setMark (v : BitVec 16) (n : Nat) {b : Nat} (hb : b < 16) :
    (v ||| ((1 : BitVec 16) <<< n)).getLsbD b = (v.getLsbD b || decide (b = n)) := by
  have hbit : ((1 : BitVec 16) <<< n).getLsbD b = decide (b = n) := by
    have hone : (1 : BitVec 16).getLsbD (b - n) = decide (b - n = 0) := BitVec.getLsbD_one.trans (by simp)
    rw [BitVec.getLsbD_shiftLeft, hone, Bool.eq_iff_iff]
    simp only [Bool.and_eq_true, Bool.not_eq_true', decide_eq_true_iff, decide_eq_false_iff_not]
    omega
  rw [BitVec.getLsbD_or, hbit]

/-- Sixteen marks, each as the function of the block gives it. -/
theorem marksOf_getLsbD (f : Nat → Bool) {b : Nat} (hb : b < 16) : (marksOf f).getLsbD b = f b := by
  have hfold : ∀ n, ((List.range n).foldl (fun v b => if f b then v ||| ((1 : BitVec 16) <<< b) else v) 0).getLsbD b =
      (decide (b < n) && f b) := by
    intro n
    induction n with
    | zero => simp
    | succ n ih =>
      rw [List.range_succ, List.foldl_append, List.foldl_cons, List.foldl_nil]
      generalize (List.range n).foldl _ (0 : BitVec 16) = v at ih ⊢
      by_cases hbn : b = n
      · subst hbn
        cases hf : f b <;> simp only [Bool.false_eq_true, if_false, if_true, ih, getLsbD_setMark _ _ hb, hf] <;> simp
      · have hlt : b < n + 1 ↔ b < n := by omega
        cases f n <;>
          simp only [Bool.false_eq_true, if_false, if_true, ih, getLsbD_setMark _ _ hb, hbn, hlt, decide_false,
            Bool.or_false]
  rw [marksOf, hfold, decide_eq_true hb, Bool.true_and]

/-- A reset reads the protect record of the store, or finds every block unprotected without one (R173). -/
theorem State.resetBlocks_outputFrameStart_recordCopied (s : State) :
    (s.resetBlocks.outputFrameStart .fallback).recordCopied := by
  intro b hb
  have hmark : ∀ bit, (recordMarks s.straps.blocks bit s.store.flash).getLsbD b =
      (s.straps.blocks == 0 || (s.flashByte (recordAddr s.straps.blocks b)).getLsbD bit) := by
    intro bit
    by_cases hblocks : s.straps.blocks = 0
    · rw [recordMarks, if_pos hblocks, hblocks, beq_self_eq_true, Bool.true_or]
      exact (by decide : ∀ b, b < 16 → (0xFFFF : BitVec 16).getLsbD b = true) b hb
    · rw [recordMarks, if_neg hblocks, marksOf_getLsbD _ hb, beq_eq_false_iff_ne.2 hblocks, Bool.false_or]
      rfl
  rw [State.outputFrameStart_store, State.outputFrameStart_straps,
    State.flashByte_congr (s := s) (by rw [State.outputFrameStart_store]; rfl)]
  exact ⟨hmark 7, hmark 6⟩

end Sys2Proof.Machine

/-! SUPPORT. What POWER_ON and RESTART leave of the serial store: the save gone on at its free pace, then the operation
in progress stopped where it stands (R177, R178, R179; log 16, log 17, log 30), and the statement O20. -/

namespace Sys2Proof.Machine

/-! ### What a stopped page program leaves (R177) -/

section StopPage
variable (tick : Nat) (m : List Host.Cell) {a : Nat} (bs : List Byte)

/-- An erase that stops is kept within its sector. -/
theorem memRead_flashStopPage_sector (ha : a % 4096 = 0) {c : Nat} (hc : c / 4096 ≠ a / 4096) :
    memRead flashFill (flashStopPage tick m a bs) c = memRead flashFill m c := by
  rw [flashStopPage, if_pos ha, memRead_memWriteBytes_out]
  rw [List.length_map, List.length_range]
  omega

variable (ha : a % 4096 ≠ 0)
include ha

/-- A page program that stops is kept within its page, from its address on. -/
theorem memRead_flashStopPage_page {c : Nat} (hc : c < a ∨ c / 256 ≠ a / 256) :
    memRead flashFill (flashStopPage tick m a bs) c = memRead flashFill m c := by
  have hroom : pageRoom a = 256 - a % 256 := rfl
  rw [flashStopPage, if_neg ha, memRead_flashProgramPage_out]
  rw [List.length_map, List.length_range, hroom]
  omega

theorem memRead_flashStopPage_and (hwf : memWf flashFill m = true) (c : Nat) :
    memRead flashFill (flashStopPage tick m a bs) c &&& memRead flashFill m c =
      memRead flashFill (flashStopPage tick m a bs) c := by
  rw [flashStopPage, if_neg ha]
  exact memRead_flashProgramPage_and hwf _ _ _

end StopPage

/-! ### The operations stopped -/

theorem State.protectStops_of_none {s : State} (hjob : s.store.protectJob = none) : s.protectStops = s := by
  simp only [State.protectStops, hjob]

/-- A save whose seed copy still runs leaves the store as it is. -/
theorem State.saveStops_of_idle {s : State} (h : ∀ j, s.store.save = some j → j.seeded = false) :
    s.saveStops.store.flash = s.store.flash := by
  unfold State.saveStops
  split
  · rfl
  · rename_i j hj
    rw [h j hj]
    rfl

/-- Stopping the operations in progress changes the store alone, and the model's counter. -/
theorem State.stops_eq (s : State) :
    ∃ k st, s.protectStops.saveStops = { s with tick := k, store := st } := by
  obtain ⟨k, m, hprotect⟩ := s.protectStops_cases
  obtain ⟨k', m', hsave⟩ := s.protectStops.saveStops_cases
  rw [hsave, hprotect]
  exact ⟨_, _, rfl⟩

/-! ### The store controller's work beside the load (log 13, log 16) -/

/-- How many pieces a save gets done before the next command. -/
def State.pieces (s : State) : Nat := if s.scene.phase = .saving then Config.storePace s.tick else 0

/-- What the store controller's own work leaves beside the load: straps, panel, library and scene controller stand, and
of the store changes what a save has done by a number of pieces. -/
structure State.GoneOn (s u : State) (pieces : Nat) : Prop where
  straps : u.straps = s.straps
  panel : u.panel = s.panel
  library : u.library = s.library
  scene : u.scene = s.scene
  protectJob : u.store.protectJob = s.store.protectJob
  idle : (∀ j, s.store.save = some j → j.seeded = false) →
    u.store.save = s.store.save ∧ u.store.flash = s.store.flash
  writes : ∀ j, s.store.save = some j → j.seeded = true →
    let done := saveSome s.stagingBank pieces (j, s.store.flash)
    u.store.save = some done.1 ∧ u.store.flash = done.2

theorem State.saveGoesOn_goneOn (s : State) : s.GoneOn s.saveGoesOn s.pieces := by
  rcases s.saveGoesOn_cases with ⟨hidle, h⟩ | ⟨j, hphase, hj, hseeded, h⟩ <;> rw [h]
  · refine ⟨rfl, rfl, rfl, rfl, rfl, fun _ => ⟨rfl, rfl⟩, fun j hj hseeded => ?_⟩
    have hphase : s.scene.phase ≠ .saving := fun hphase => by
      cases (hidle j hphase hj).symm.trans hseeded
    rw [State.pieces, if_neg hphase]
    exact ⟨hj, rfl⟩
  · rw [State.pieces, if_pos hphase]
    refine ⟨rfl, rfl, rfl, rfl, rfl, fun hidle => ?_, fun j' hj' _ => ?_⟩
    · cases (hidle j hj).symm.trans hseeded
    · cases hj.symm.trans hj'
      exact ⟨rfl, rfl⟩

/-- A RECALL's work on the image writes staging, and moves its place in the image (R175). -/
theorem State.applyImage_recallAct_eq (n : Nat) (s : State) :
    ∃ tb k, s.applyImage recallAct n = { s with tables := tb, store := { s.store with imagePos := k } } := by
  refine s.applyImage_keeps (P := fun u => ∃ tb k, u =
    { s with tables := tb, store := { s.store with imagePos := k } }) n ?_ ?_ ⟨s.tables, s.store.imagePos, rfl⟩
  · rintro a - u ⟨tb, k, rfl⟩
    cases a with
    | config f => exact ⟨tb, k, rfl⟩
    | sector t n bs => exact ⟨tb, k, rfl⟩
    | entry table i bs =>
      simp only [recallAct]
      split
      · exact ⟨_, k, rfl⟩
      · exact ⟨tb, k, rfl⟩
  · rintro u k ⟨tb, k', rfl⟩
    exact ⟨tb, k, rfl⟩

theorem State.background_goneOn {s : State} (hload : s.loading = false) : s.GoneOn s.background s.pieces := by
  unfold State.background
  rw [hload, if_neg Bool.false_ne_true]
  split
  · rename_i hphase
    obtain ⟨tb, k, himage⟩ := s.applyImage_recallAct_eq (Config.loaderPace s.tick)
    rw [himage, State.pieces, if_neg (by rw [hphase]; decide)]
    exact ⟨rfl, rfl, rfl, rfl, rfl, fun _ => ⟨rfl, rfl⟩, fun j hj _ => ⟨hj, rfl⟩⟩
  · exact s.saveGoesOn_goneOn

/-! ### What is left of the store (R179) -/

/-- An image whose first byte is erased has no signature (R174). -/
theorem State.imageOutcome_of_erased {t : State} (hblocks : t.straps.blocks ≠ 0) (hfirst : t.flashByte 0 = 0xFF) :
    t.imageOutcome = .unprogrammed := by
  have hsign : flashBytes t.store.flash 0 4 ≠ [0x4D, 0x45, 0x4E, 0x55] := by
    intro h
    have hhead : t.flashByte 0 = 0x4D := (List.cons.inj h).1
    rw [hfirst] at hhead
    exact absurd hhead (by decide)
  rw [State.imageOutcome, readImage, if_neg hblocks, if_pos hsign]

section Abandon
variable {s u t : State} {pieces : Nat} (hgone : s.GoneOn u pieces)
include hgone

/-- A save not begun, or none, leaves the store to a protect program alone. -/
theorem State.GoneOn.flash_of_idle (hidle : ∀ j, s.store.save = some j → j.seeded = false) :
    u.protectStops.saveStops.store.flash = u.protectStops.store.flash := by
  obtain ⟨hsave, -⟩ := hgone.idle hidle
  obtain ⟨k, m, hstops⟩ := u.protectStops_cases
  refine State.saveStops_of_idle fun j hj => hidle j ?_
  rw [hstops] at hj
  exact hsave.symm.trans hj

/-- A save that writes stops with the page in hand, behind the pieces it got done. -/
theorem State.GoneOn.flash_of_writes {j : SaveJob} (hjob : s.store.protectJob = none) (hj : s.store.save = some j)
    (hseeded : j.seeded = true) :
    let done := saveSome s.stagingBank pieces (j, s.store.flash)
    u.protectStops.saveStops.store.flash = flashStopPage u.tick done.2 done.1.addr done.1.page := by
  intro done
  obtain ⟨hsave, hflash⟩ := hgone.writes j hj hseeded
  have hkept : done.1.toRead = j.toRead := (saveSome_keeps s.stagingBank pieces (j, s.store.flash)).toRead
  simp only [SaveJob.toRead, Prod.mk.injEq] at hkept
  rw [State.protectStops_of_none (hgone.protectJob.trans hjob),
    State.saveStops_of_seeded hsave (hkept.1.trans hseeded), hflash]

/-- What POWER_ON and RESTART leave of the store is what the operation in progress had reached. -/
theorem State.GoneOn.abandonsStore (hwf : memWf flashFill s.store.flash = true)
    (hflash : t.store.flash = u.protectStops.saveStops.store.flash) : s.abandonsStore t pieces := by
  have hidle : (¬∃ j, s.store.save = some j ∧ j.seeded = true) → ∀ j, s.store.save = some j → j.seeded = false :=
    fun hnot j hj => Bool.eq_false_of_not_eq_true fun hseeded => hnot ⟨j, hj, hseeded⟩
  refine ⟨fun hjob hnot => ?_, fun named hjob hnot => ?_, fun j hjob hj hseeded => ?_⟩
  · refine State.flashByte_congr ?_
    rw [hflash, hgone.flash_of_idle (hidle hnot), State.protectStops_of_none (hgone.protectJob.trans hjob)]
    exact (hgone.idle (hidle hnot)).2
  · rw [hgone.flash_of_idle (hidle hnot), State.protectStops_of_job (hgone.protectJob.trans hjob), hgone.straps,
      (hgone.idle (hidle hnot)).2] at hflash
    simp only [State.flashByte, hflash]
    exact ⟨fun a => memRead_programRecord_and hwf _ _ _ _ a, fun a ha => memRead_programRecord_other hwf _ _ _ ha⟩
  · rw [hgone.flash_of_writes hjob hj hseeded] at hflash
    have hbelow := saveSome_keepsBelow s.stagingBank pieces (j, s.store.flash)
    have hwf' := memWf_saveSome s.stagingBank pieces (j, s.store.flash) hwf
    intro done place
    change KeepsBelow _ done at hbelow
    change memWf flashFill done.2 = true at hwf'
    have hlow : ∀ a, a < j.addr → t.flashByte a = s.flashByte a := fun a ha => by
      rw [State.flashByte, hflash, memRead_flashStopPage_below _ _ _ (ha.trans_le hbelow.addr)]
      exact hbelow.below a ha
    simp only [State.flashByte, hflash] at hlow ⊢
    refine ⟨hlow, fun hstart a ha => memRead_flashStopPage_sector _ _ _ hstart ha,
      fun hinside a => ⟨memRead_flashStopPage_and _ _ _ hinside hwf' a,
        fun ha => memRead_flashStopPage_page _ _ _ hinside ha⟩,
      fun haddr hheader hblocks => State.imageOutcome_of_erased hblocks ?_⟩
    rw [State.flashByte, hflash]
    exact (hlow 0 (by omega)).trans (hheader 0 (by decide))

end Abandon

/-! ### The two commands -/

section ResetBlocks
variable (s : State)

@[simp] theorem State.resetBlocks_straps : s.resetBlocks.straps = s.straps := rfl
@[simp] theorem State.resetBlocks_panel : s.resetBlocks.panel = s.panel := rfl
@[simp] theorem State.resetBlocks_mem : s.resetBlocks.library.mem = s.library.mem := rfl
@[simp] theorem State.resetBlocks_flash : s.resetBlocks.store.flash = s.store.flash := rfl

end ResetBlocks

/-- Ending the line in progress leaves the panel output as R19 and R79 say, the frame start behind it adding nothing. -/
theorem State.endsLine_of_cutLine {s t : State} (hpanel : t.panel = { s.cutLine.panel with inProgress := false }) :
    s.endsLine t := by
  obtain ⟨hkept, hcut⟩ := s.cutLine_panel_watchResult
  refine ⟨fun hidle => ?_, fun px hpx => ?_⟩
  · rw [hpanel, (hkept hidle).1, ← hidle]
  · rcases hcut px hpx with ⟨sent, hsent, hcut, -⟩ | ⟨hcut, -⟩
    · exact .inl ⟨sent, hsent, by rw [hpanel, hcut]⟩
    · exact .inr (by rw [hpanel, hcut])

/-- The line in progress is the same whatever else was stopped before it. -/
theorem State.endsLine_congr {s u t : State} (hpanel : u.panel = s.panel) (h : u.endsLine t) : s.endsLine t := by
  unfold State.endsLine at h ⊢
  rwa [hpanel] at h

section Restart
variable {s : State} {q : List TableCmd} (hdue : s.nothingButHoldDue = true) (hload : s.loading = false)
  (hq : s.scene.tableQ = .restart :: q)
include hdue hload hq

theorem execRestart_of_head : exec .restart s = .next s.background.warmRestart := by
  have hgone := State.background_goneOn hload
  change execRestart s = _
  unfold execRestart
  rw [s.rasterPrelude_of_nothingButHoldDue hdue]
  simp only [hgone.scene, hq]

end Restart

/-- Settles O20: the blocks at their reset values behind `State.resetBlocks`, the store as the stopped operation leaves
it. -/
theorem powerOnAndRestartLeaveResetValues : Obligations.PowerOnAndRestartLeaveResetValues := by
  refine ⟨fun p s hp => ?_, fun s q hdue hload hq => ?_⟩
  · have hexec : exec (.powerOn p) s = execPowerOn p s := rfl
    rw [hexec, execPowerOn, if_pos hp]
    refine ⟨_, rfl, ?_, State.resetBlocks_outputFrameStart_atResetValues _,
      State.resetBlocks_outputFrameStart_recordCopied _, ?_, fun hmem => ?_⟩
    · rw [State.outputFrameStart_straps]
      rfl
    · rw [State.outputFrameStart_panel]
      rfl
    · refine s.saveGoesOn_goneOn.abandonsStore hmem.2 ?_
      rw [State.outputFrameStart_store]
      rfl
  · have hgone := State.background_goneOn hload
    obtain ⟨k, st, hstops⟩ := s.background.stops_eq
    rw [execRestart_of_head hdue hload hq, State.warmRestart]
    refine ⟨_, rfl, ?_, State.resetBlocks_outputFrameStart_atResetValues _,
      State.resetBlocks_outputFrameStart_recordCopied _, fun a => ?_, ?_, fun hmem => ?_⟩
    · rw [State.outputFrameStart_straps, State.resetBlocks_straps, State.cutLine_straps, hstops, hgone.straps]
    · rw [State.libByte, State.libByte, State.outputFrameStart_library, State.resetBlocks_mem, State.cutLine_library,
        hstops, hgone.library]
    · refine State.endsLine_congr (u := s.background.protectStops.saveStops) ?_ (State.endsLine_of_cutLine ?_)
      · rw [hstops, hgone.panel]
      · rw [State.outputFrameStart_panel, State.resetBlocks_panel]
    · refine hgone.abandonsStore hmem.2 ?_
      rw [State.outputFrameStart_store, State.resetBlocks_flash, State.cutLine_store]

end Sys2Proof.Machine

/-! SUPPORT. What an image in the store is read as: its header, its sections in order up to the first fault, and what
the payload of each gives (R165, R174; log 14). -/

namespace Sys2Proof.Machine

/-! ### The payload of a section (R165) -/

/-- The `j`-th of the pieces of one size that follow one another in a payload. -/
def pieceAt (size : Nat) (bs : List Byte) (j : Nat) : List Byte := (bs.drop (j * size)).take size

theorem pieceAt_zero (size : Nat) (bs : List Byte) : pieceAt size bs 0 = bs.take size := by
  rw [pieceAt, Nat.zero_mul, List.drop_zero]

theorem pieceAt_drop (size : Nat) (bs : List Byte) (j : Nat) :
    pieceAt size (bs.drop size) j = pieceAt size bs (j + 1) := by
  rw [pieceAt, pieceAt, List.drop_drop, Nat.succ_mul, Nat.add_comm]

/-- The entries of a table section are sound exactly where each names an entry of its table with values in range. -/
theorem entryActs_sound_iff (table n first : Nat) (bs : List Byte) :
    (entryActs table n first bs).2 = true ↔
      ∀ j, j < n → first + j < tableSize table ∧ entryValid table (pieceAt (fieldSizes table).sum bs j) = true := by
  induction n generalizing first bs with
  | zero => simp [entryActs]
  | succ n ih =>
    have hshift : ∀ j, first + 1 + j = first + (j + 1) := fun j => by omega
    simp only [Nat.forall_lt_succ_left', pieceAt_zero, Nat.add_zero, entryActs]
    split
    · rename_i hfirst
      simp only [ih, pieceAt_drop, hshift]
      exact (and_iff_right hfirst).symm
    · rename_i hfirst
      exact ⟨Bool.noConfusion, fun h => absurd h.1 hfirst⟩

/-- Where they are sound, every one of them is applied, in order. -/
theorem entryActs_of_sound {table n first : Nat} {bs : List Byte} (h : (entryActs table n first bs).2 = true) :
    (entryActs table n first bs).1 =
      (List.range n).map fun j => ImageAct.entry table (first + j) (pieceAt (fieldSizes table).sum bs j) := by
  induction n generalizing first bs with
  | zero => rfl
  | succ n ih =>
    have hshift : ∀ j, first + 1 + j = first + (j + 1) := fun j => by omega
    rw [entryActs] at h ⊢
    split at h
    · rename_i hfirst
      rw [if_pos hfirst, List.range_succ_eq_map, List.map_cons, List.map_map, pieceAt_zero, Nat.add_zero]
      simp only [ih h, pieceAt_drop, hshift]
      rfl
    · cases h

theorem sectorActs_eq (first n k : Nat) (bs : List Byte) :
    sectorActs first n k bs =
      (List.range n).map fun j => ImageAct.sector (first + (k + j) / 4) ((k + j) % 4) (pieceAt 256 bs j) := by
  induction n generalizing k bs with
  | zero => rfl
  | succ n ih =>
    have hshift : ∀ j, k + 1 + j = k + (j + 1) := fun j => by omega
    rw [sectorActs, ih, List.range_succ_eq_map, List.map_cons, List.map_map, pieceAt_zero, Nat.add_zero]
    simp only [pieceAt_drop, hshift]
    rfl

/-- A kind that R165 does not know is a fault. -/
theorem sectionActs_of_unknown {kind : Nat} (h : kind = 0 ∨ 6 < kind) (payload : List Byte) :
    sectionActs kind payload = ([], false) := by
  rcases h with rfl | h
  · rfl
  · obtain ⟨n, rfl⟩ := Nat.exists_eq_add_of_le' h
    rfl

theorem sectionActs_of_config {payload : List Byte}
    (hlen : payload.length = 2 + maskedSize (fieldAt 0 2 payload) configSizes 0) :
    sectionActs 1 payload = ([.config (configFields (fieldAt 0 2 payload) (payload.drop 2))], true) :=
  if_pos ⟨by omega, hlen⟩

/-- A table section of the right length is its entries (R165). -/
theorem sectionActs_of_table {kind table size : Nat} {payload : List Byte}
    (hkind : (kind, table, size) ∈ [(2, 3, 20), (3, 2, 16), (4, 1, 19), (5, 4, 6)])
    (hlen : payload.length = 4 + fieldAt 2 2 payload * size) :
    (fieldSizes table).sum = size ∧
      sectionActs kind payload =
        entryActs table (fieldAt 2 2 payload) (fieldAt 0 2 payload) (payload.drop 4) := by
  have hboth : 4 ≤ payload.length ∧ payload.length = 4 + fieldAt 2 2 payload * size := ⟨by omega, hlen⟩
  simp only [List.mem_cons, Prod.mk.injEq, List.not_mem_nil, or_false] at hkind
  rcases hkind with ⟨rfl, rfl, rfl⟩ | ⟨rfl, rfl, rfl⟩ | ⟨rfl, rfl, rfl⟩ | ⟨rfl, rfl, rfl⟩ <;>
    exact ⟨rfl, if_pos hboth⟩

theorem sectionActs_of_tiles {payload : List Byte} (hlen : payload.length = 4 + fieldAt 2 2 payload * 1024) :
    sectionActs 6 payload =
      if fieldAt 0 2 payload + fieldAt 2 2 payload ≤ 32768 then
        (sectorActs (fieldAt 0 2 payload) (fieldAt 2 2 payload * 4) 0 (payload.drop 4), true)
      else ([], false) := by
  have hlong : 4 ≤ payload.length := by omega
  have hunfold : sectionActs 6 payload =
      if 4 ≤ payload.length ∧ payload.length = 4 + fieldAt 2 2 payload * 1024 ∧
          fieldAt 0 2 payload + fieldAt 2 2 payload ≤ 32768 then
        (sectorActs (fieldAt 0 2 payload) (fieldAt 2 2 payload * 4) 0 (payload.drop 4), true)
      else ([], false) := rfl
  simp only [hunfold, hlong, ← hlen, true_and]

/-- What the payload of each kind of section gives. -/
theorem sectionActs_spec (kind : Nat) (payload : List Byte) :
    let first := fieldAt 0 2 payload
    let count := fieldAt 2 2 payload
    (kind = 0 ∨ 6 < kind → sectionActs kind payload = ([], false)) ∧
    (kind = 1 → payload.length = 2 + maskedSize first configSizes 0 →
      sectionActs kind payload = ([ImageAct.config (configFields first (payload.drop 2))], true)) ∧
    (∀ table size, (kind, table, size) ∈ [(2, 3, 20), (3, 2, 16), (4, 1, 19), (5, 4, 6)] →
      payload.length = 4 + count * size →
      let entry := fun j => (payload.drop (4 + j * size)).take size
      ((sectionActs kind payload).2 = true ↔
        ∀ j, j < count → first + j < tableSize table ∧ entryValid table (entry j) = true) ∧
      ((sectionActs kind payload).2 = true →
        (sectionActs kind payload).1 =
          (List.range count).map fun j => ImageAct.entry table (first + j) (entry j))) ∧
    (kind = 6 → payload.length = 4 + count * 1024 →
      (32768 < first + count → sectionActs kind payload = ([], false)) ∧
      (first + count ≤ 32768 →
        sectionActs kind payload =
          ((List.range (count * 4)).map fun j =>
            ImageAct.sector (first + j / 4) (j % 4) ((payload.drop (4 + j * 256)).take 256), true))) := by
  intro first count
  have hpiece : ∀ size j, pieceAt size (payload.drop 4) j = (payload.drop (4 + j * size)).take size :=
    fun size j => by rw [pieceAt, List.drop_drop]
  refine ⟨fun h => sectionActs_of_unknown h payload, ?_, fun table size hkind hlen => ?_, ?_⟩
  · rintro rfl hlen
    exact sectionActs_of_config hlen
  · obtain ⟨hsize, hacts⟩ := sectionActs_of_table hkind hlen
    rw [hacts]
    refine ⟨?_, fun h => ?_⟩
    · simp only [entryActs_sound_iff, hsize, hpiece]
      rfl
    · simp only [entryActs_of_sound h, hsize, hpiece]
      rfl
  · rintro rfl hlen
    rw [sectionActs_of_tiles hlen]
    refine ⟨fun hpast => if_neg (Nat.not_le.2 hpast), fun hin => ?_⟩
    rw [if_pos hin, sectorActs_eq]
    simp only [hpiece, Nat.zero_add]
    rfl

/-! ### The sections and the header (R165, R174) -/

/-- Where the sections go on, and where they break off. -/
theorem imageSections_spec (m : List Host.Cell) (len n a : Nat) :
    let plen := beValue (flashBytes m (a + 1) 4)
    let next := a + 5 + plen + 2
    let acts := sectionActs (beValue (flashBytes m a 1)) (flashBytes m (a + 5) plen)
    let sound := acts.2 = true ∧
      crcBytes (crc16 (flashBytes m a (5 + plen))) = flashBytes m (a + 5 + plen) 2 ∧ (n = 0 → next = len)
    let rest := imageSections m len n next
    (len < next → imageSections m len (n + 1) a = ([], false)) ∧
    (next ≤ len → ¬sound → imageSections m len (n + 1) a = (acts.1, false)) ∧
    (next ≤ len → sound → imageSections m len (n + 1) a = (acts.1 ++ rest.1, rest.2)) := by
  intro plen next acts sound rest
  have hfault : (!acts.2 || crcBytes (crc16 (flashBytes m a (5 + plen))) != flashBytes m (a + 5 + plen) 2
      || (n == 0 && next != len)) = true ↔ ¬sound := by
    simp only [Bool.or_eq_true, Bool.not_eq_true', Bool.and_eq_true, beq_iff_eq, bne_iff_ne, sound]
    rw [← Bool.not_eq_true]
    tauto
  have hunfold : imageSections m len (n + 1) a =
      if len < next then ([], false)
      else if (!acts.2 || crcBytes (crc16 (flashBytes m a (5 + plen))) != flashBytes m (a + 5 + plen) 2
          || (n == 0 && next != len)) = true then (acts.1, false)
      else (acts.1 ++ rest.1, rest.2) := rfl
  rw [hunfold]
  refine ⟨fun hlong => if_pos hlong, fun hfits hbad => ?_, fun hfits hgood => ?_⟩ <;> rw [if_neg (Nat.not_lt.2 hfits)]
  · rw [if_pos (hfault.2 hbad)]
  · rw [if_neg (hfault.not.2 (not_not.2 hgood))]

/-- How a store is read: without one, without the signature, with a length that does not fit, and with an image. -/
theorem readImage_spec (blocks : Nat) (m : List Host.Cell) :
    let field := fun a n : Nat => beValue (flashBytes m a n)
    let signed := flashBytes m 0 4 = [0x4D, 0x45, 0x4E, 0x55]
    let body := imageSections m (field 4 4) (field 10 1) 11
    (blocks = 0 → readImage blocks m = ([], .noStore)) ∧
    (blocks ≠ 0 → ¬signed → readImage blocks m = ([], .unprogrammed)) ∧
    (blocks ≠ 0 → signed → blocks * blockSize - 4096 < field 4 4 → readImage blocks m = ([], .failed)) ∧
    (blocks ≠ 0 → signed → field 4 4 ≤ blocks * blockSize - 4096 →
      readImage blocks m = (body.1, if body.2 = true then .loaded (field 8 2) else .failed)) := by
  intro field signed body
  refine ⟨fun hnone => if_pos hnone, fun hblocks hsign => ?_, fun hblocks hsign hlong => ?_,
    fun hblocks hsign hfits => ?_⟩ <;> rw [readImage, if_neg hblocks]
  · rw [if_pos hsign]
  · rw [if_neg (not_not.2 hsign)]
    exact if_pos hlong
  · rw [if_neg (not_not.2 hsign)]
    exact if_neg (Nat.not_lt.2 hfits)

end Sys2Proof.Machine

/-! SUPPORT. The end of a load and of a RECALL, the same whatever had been applied before (log 13), by its outcome (R43,
R137, R174, R175), and the statement O21. -/

namespace Sys2Proof.Machine

/-! ### The work on the image does not depend on its pace (log 13) -/

/-- How far into the image the work has come. -/
def State.setImagePos (k : Nat) (s : State) : State := { s with store := { s.store with imagePos := k } }

/-- Up to a number of applications of a list are those of its front. -/
theorem applyActs_eq_foldl (f : ImageAct → State → State) (acts : List ImageAct) (n : Nat) (s : State) :
    applyActs f acts n s = ((acts.take n).foldl (fun u a => f a u) s, min n acts.length) := by
  induction acts generalizing n s with
  | nil => simp [applyActs]
  | cons a acts ih =>
    cases n with
    | zero => simp [applyActs]
    | succ n => simp [applyActs, ih, Nat.succ_min_succ]

theorem State.applyImage_eq_foldl (f : ImageAct → State → State) (n : Nat) (s : State) :
    s.applyImage f n =
      ((s.imageRest.take n).foldl (fun u a => f a u) s).setImagePos
        (s.store.imagePos + min n s.imageRest.length) := by
  rw [State.applyImage, applyActs_eq_foldl]
  rfl

theorem State.applyImageRest_eq_foldl (f : ImageAct → State → State) (s : State) :
    s.applyImageRest f =
      (s.imageRest.foldl (fun u a => f a u) s).setImagePos (s.store.imagePos + s.imageRest.length) := by
  rw [State.applyImageRest, State.applyImage_eq_foldl, List.take_length, min_self]

/-- What an application may neither look at nor touch: the place in the image and the model's counter; straps and
contents of the store, by which the image is read, it leaves alone. -/
structure PaceFree (f : ImageAct → State → State) : Prop where
  setImagePos : ∀ a k s, f a (State.setImagePos k s) = (f a s).setImagePos k
  nextTick : ∀ a s, f a (State.nextTick s) = (f a s).nextTick
  straps : ∀ a s, (f a s).straps = s.straps
  flash : ∀ a s, (f a s).store.flash = s.store.flash

@[simp] theorem State.setActive_stagingBank (k : Bank) (s : State) : (s.setActive k).stagingBank = s.stagingBank := by
  unfold State.stagingBank State.setActive Tables.setBank Tables.bank BankId.other
  cases s.tables.active <;> rfl

/-- A bank written with what it holds is left as it was. -/
theorem Tables.setBank_bank_self (tb : Tables) (i : BankId) : tb.setBank i (tb.bank i) = tb := by
  cases i <;> rfl

theorem State.setActive_activeBank_self (s : State) : s.setActive s.activeBank = s :=
  congrArg (fun tb => { s with tables := tb }) (s.tables.setBank_bank_self _)

theorem State.setStaging_stagingBank_self (s : State) : s.setStaging s.stagingBank = s :=
  congrArg (fun tb => { s with tables := tb }) (s.tables.setBank_bank_self _)

/-- An entry applied by the loader writes the active bank, or nothing where it cannot be written. -/
theorem loadAct_entry (table i : Nat) (bs : List Byte) (s : State) :
    loadAct (.entry table i bs) s =
      s.setActive ((s.activeBank.writeEntry table (fullMask table) i bs).getD s.activeBank) := by
  rw [loadAct]
  cases s.activeBank.writeEntry table (fullMask table) i bs with
  | some k => rfl
  | none => exact s.setActive_activeBank_self.symm

/-- An entry applied by a RECALL writes staging, or nothing where it cannot be written. -/
theorem recallAct_entry (table i : Nat) (bs : List Byte) (s : State) :
    recallAct (.entry table i bs) s =
      s.setStaging ((s.stagingBank.writeEntry table (fullMask table) i bs).getD s.stagingBank) := by
  rw [recallAct]
  cases s.stagingBank.writeEntry table (fullMask table) i bs with
  | some k => rfl
  | none => exact s.setStaging_stagingBank_self.symm

theorem loadAct_paceFree : PaceFree loadAct := by
  refine ⟨fun a k s => ?_, fun a s => ?_, fun a s => ?_, fun a s => ?_⟩ <;> cases a with
  | config f => rfl
  | sector t n bs => rfl
  | entry table i bs =>
    simp only [loadAct_entry]
    rfl

theorem recallAct_paceFree : PaceFree recallAct := by
  refine ⟨fun a k s => ?_, fun a s => ?_, fun a s => ?_, fun a s => ?_⟩ <;> cases a with
  | config f => rfl
  | sector t n bs => rfl
  | entry table i bs =>
    simp only [recallAct_entry]
    rfl

section PaceFree
variable {f : ImageAct → State → State} (hf : PaceFree f)
include hf

theorem PaceFree.foldl_setImagePos (acts : List ImageAct) (k : Nat) (s : State) :
    acts.foldl (fun u a => f a u) (s.setImagePos k) = (acts.foldl (fun u a => f a u) s).setImagePos k :=
  List.foldl_hom (State.setImagePos k) fun u a => hf.setImagePos a k u

theorem PaceFree.foldl_nextTick (acts : List ImageAct) (s : State) :
    acts.foldl (fun u a => f a u) s.nextTick = (acts.foldl (fun u a => f a u) s).nextTick :=
  List.foldl_hom State.nextTick fun u a => hf.nextTick a u

/-- The image is read alike whatever has been applied of it. -/
theorem PaceFree.readImage_foldl (acts : List ImageAct) (s : State) :
    readImage (acts.foldl (fun u a => f a u) s).straps.blocks (acts.foldl (fun u a => f a u) s).store.flash =
      readImage s.straps.blocks s.store.flash := by
  induction acts generalizing s with
  | nil => rfl
  | cons a acts ih => rw [List.foldl_cons, ih, hf.straps, hf.flash]

theorem PaceFree.imageOutcome_applyImage (n : Nat) (s : State) : (s.applyImage f n).imageOutcome = s.imageOutcome := by
  rw [State.applyImage_eq_foldl]
  exact congrArg Prod.snd (hf.readImage_foldl _ s)

/-- What is left of the image is what had not been applied before. -/
theorem PaceFree.imageRest_applyImage (n : Nat) (s : State) : (s.applyImage f n).imageRest = s.imageRest.drop n := by
  have hread : ∀ u : State, readImage u.straps.blocks u.store.flash = readImage s.straps.blocks s.store.flash →
      ∀ k, (u.setImagePos (s.store.imagePos + k)).imageRest = s.imageRest.drop k := fun u hu k => by
    rw [State.imageRest, State.imageRest, List.drop_drop]
    exact congrArg (fun r => r.1.drop (s.store.imagePos + k)) hu
  rw [State.applyImage_eq_foldl, hread _ (hf.readImage_foldl _ s)]
  rcases le_total n s.imageRest.length with h | h
  · rw [min_eq_left h]
  · rw [min_eq_right h, List.drop_eq_nil_of_le h, List.drop_length]

/-- The whole image has been applied in the end, however much of it was before. -/
theorem PaceFree.applyImageRest_applyImage (n : Nat) (s : State) :
    (s.applyImage f n).nextTick.applyImageRest f = s.nextTick.applyImageRest f := by
  have hrest : (s.applyImage f n).nextTick.imageRest = s.imageRest.drop n := hf.imageRest_applyImage n s
  have hpos : (s.applyImage f n).nextTick.store.imagePos = s.store.imagePos + min n s.imageRest.length := by
    rw [State.applyImage_eq_foldl]
    rfl
  have hwhole : s.nextTick.imageRest = s.imageRest := rfl
  rw [State.applyImageRest_eq_foldl, State.applyImageRest_eq_foldl, hrest, hpos, hwhole, hf.foldl_nextTick,
    hf.foldl_nextTick, State.applyImage_eq_foldl, hf.foldl_setImagePos, ← List.foldl_append, List.take_append_drop,
    List.length_drop]
  have hsum : s.store.imagePos + min n s.imageRest.length + (s.imageRest.length - n) =
      s.nextTick.store.imagePos + s.imageRest.length := by
    change _ = s.store.imagePos + _
    omega
  rw [hsum]
  rfl

end PaceFree

/-- The load ends alike whatever had been applied before. -/
theorem State.loadEnds_applyImage (n : Nat) (s : State) :
    (s.applyImage loadAct n).nextTick.loadEnds = s.nextTick.loadEnds := by
  have houtcome : (s.applyImage loadAct n).nextTick.imageOutcome = s.nextTick.imageOutcome :=
    loadAct_paceFree.imageOutcome_applyImage n s
  unfold State.loadEnds
  rw [loadAct_paceFree.applyImageRest_applyImage, houtcome]

/-- So does a RECALL. -/
theorem State.recallEnds_applyImage (n : Nat) (s : State) :
    (s.applyImage recallAct n).nextTick.recallEnds = s.nextTick.recallEnds := by
  have houtcome : (s.applyImage recallAct n).nextTick.imageOutcome = s.nextTick.imageOutcome :=
    recallAct_paceFree.imageOutcome_applyImage n s
  unfold State.recallEnds
  rw [recallAct_paceFree.applyImageRest_applyImage, houtcome]

/-! ### LOAD_COMPLETION (R43, R174) -/

/-- The work of the loader leaves selector, staging and generation alone. -/
theorem State.applyImage_loadAct_frame (n : Nat) (s : State) :
    (s.applyImage loadAct n).tables.active = s.tables.active ∧
      (s.applyImage loadAct n).stagingBank = s.stagingBank := by
  refine s.applyImage_keeps (P := fun u => u.tables.active = s.tables.active ∧ u.stagingBank = s.stagingBank) n
    (fun a _ u hu => ?_) (fun _ _ hu => hu) ⟨rfl, rfl⟩
  cases a with
  | config f => exact hu
  | sector t n bs => exact hu
  | entry table i bs => rwa [loadAct_entry, State.setActive_active, State.setActive_stagingBank]

/-- Where the reading ends before the first section, nothing is applied (R174). -/
theorem readImage_acts_of_outcome {blocks : Nat} {m : List Host.Cell}
    (h : (readImage blocks m).2 = .noStore ∨ (readImage blocks m).2 = .unprogrammed) : (readImage blocks m).1 = [] := by
  obtain ⟨hnone, hunsigned, hlong, himage⟩ := readImage_spec blocks m
  by_cases hblocks : blocks = 0
  · rw [hnone hblocks]
  · by_cases hsigned : flashBytes m 0 4 = [0x4D, 0x45, 0x4E, 0x55]
    · rcases Nat.lt_or_ge (blocks * blockSize - 4096) (beValue (flashBytes m 4 4)) with hlen | hlen
      · rw [hlong hblocks hsigned hlen]
      · rw [himage hblocks hsigned hlen] at h
        dsimp only at h
        split at h <;> simp at h
    · rw [hunsigned hblocks hsigned]

theorem State.applyImageRest_of_outcome (f : ImageAct → State → State) {s : State}
    (h : s.imageOutcome = .noStore ∨ s.imageOutcome = .unprogrammed) : s.applyImageRest f = s := by
  have hrest : s.imageRest = [] := by
    rw [State.imageRest, readImage_acts_of_outcome h, List.drop_nil]
  rw [State.applyImageRest_eq_foldl, hrest]
  rfl

/-- What the end of a load leaves, by its outcome. -/
theorem State.loadEnds_spec (s : State) :
    s.loadEnds.store.state = s.imageOutcome.storeState ∧ s.loadEnds.tables.active = s.tables.active ∧
      s.loadEnds.stagingBank = s.stagingBank ∧ s.loadEnds.scene.generation = s.scene.generation ∧
      (∀ tag, s.imageOutcome = .loaded tag → s.loadEnds.scene.tag = tag) ∧
      ((∀ tag, s.imageOutcome ≠ .loaded tag) → s.loadEnds.scene.tag = s.scene.tag) ∧
      (s.imageOutcome = .unprogrammed → s.loadEnds.tables = s.tables) ∧
      (s.imageOutcome = .failed → s.loadEnds.activeBank = .cleared ∧ s.loadEnds.flagged .storeFault = true) := by
  obtain ⟨hactive, hstaging⟩ := s.applyImage_loadAct_frame s.imageRest.length
  have hscene : (s.applyImageRest loadAct).scene = s.scene := (s.applyImage_loadsTo _).scene
  have htables : s.imageOutcome = .unprogrammed → (s.applyImageRest loadAct).tables = s.tables := fun h =>
    congrArg State.tables (s.applyImageRest_of_outcome loadAct (.inr h))
  change (s.applyImageRest loadAct).tables.active = _ at hactive
  change (s.applyImageRest loadAct).stagingBank = _ at hstaging
  unfold State.loadEnds
  generalize s.applyImageRest loadAct = u at *
  have hgeneration : u.scene.generation = s.scene.generation := by rw [hscene]
  have htag : u.scene.tag = s.scene.tag := by rw [hscene]
  cases houtcome : s.imageOutcome with
  | noStore => exact ⟨rfl, hactive, hstaging, hgeneration, nofun, fun _ => htag, nofun, nofun⟩
  | unprogrammed =>
    exact ⟨rfl, hactive, hstaging, hgeneration, nofun, fun _ => htag,
      fun _ => htables houtcome, nofun⟩
  | failed =>
    exact ⟨rfl, (u.setActive_active _).trans hactive, (u.setActive_stagingBank _).trans hstaging, hgeneration, nofun,
      fun _ => htag, nofun, fun _ => ⟨u.setActive_activeBank _, State.flagged_raise .storeFault _⟩⟩
  | loaded tag =>
    exact ⟨rfl, hactive, hstaging, hgeneration, fun tag' h => LoadOutcome.loaded.inj h,
      fun hnot => absurd rfl (hnot tag), nofun, nofun⟩

theorem execLoadCompletion_of_loading {s : State} (hdue : s.nothingDue = true) (hload : s.loading = true) :
    exec .loadCompletion s = .next s.nextTick.loadEnds := by
  have hnot : s.loadDue = false := (s.nothingDue_iff.1 hdue).1
  have hpre : s.prelude = (s.applyImage loadAct (Config.loaderPace s.tick)).nextTick := by
    rw [s.prelude_of_nothingDue hdue, State.background, if_pos hload]
  have hload' : s.prelude.loading = true := by rw [s.prelude_of_nothingDue hdue, s.background_loading, hload]
  have hexec : exec .loadCompletion s = execLoadCompletion s := rfl
  rw [hexec, execLoadCompletion, hnot, if_neg Bool.false_ne_true]
  dsimp only
  rw [if_pos hload', hpre, State.loadEnds_applyImage]

/-! ### A load without a store (R174, log 13) -/

section NoStore
variable {s : State} (hload : s.loading = true) (hblocks : s.straps.blocks = 0)
include hload hblocks

theorem State.settleLoad_of_no_store : s.settleLoad = s.setStoreState .none := by
  have hdue : s.loadDue = true := by rw [State.loadDue, hload, hblocks]; rfl
  have houtcome : s.imageOutcome = .noStore := by rw [State.imageOutcome, readImage, if_pos hblocks]
  rw [State.settleLoad, if_pos hdue, State.loadEnds, s.applyImageRest_of_outcome loadAct (.inl houtcome), houtcome]

theorem execLoadCompletion_of_no_store : exec .loadCompletion s = .next (s.setStoreState .none) := by
  have hdue : s.loadDue = true := by rw [State.loadDue, hload, hblocks]; rfl
  have hexec : exec .loadCompletion s = execLoadCompletion s := rfl
  rw [hexec, execLoadCompletion, if_pos hdue, State.settleLoad_of_no_store hload hblocks]

end NoStore

/-- But for POWER_ON and LOAD_COMPLETION every command begins with the load settled, and looks at nothing before. -/
theorem exec_congr_settleLoad {s t : State} (h : s.settleLoad = t.settleLoad) {c : Instr} (hpower : ∀ p, c ≠ .powerOn p)
    (hcompletion : c ≠ .loadCompletion) : exec c s = exec c t := by
  have hpre : s.prelude = t.prelude := by rw [State.prelude, State.prelude, State.settleDue, State.settleDue, h]
  have hraster : s.rasterPrelude = t.rasterPrelude := by rw [State.rasterPrelude, State.rasterPrelude, h]
  unfold exec
  cases c with
  | powerOn p => exact absurd rfl (hpower p)
  | loadCompletion => exact absurd rfl hcompletion
  | pageHoldExpiry | leaderWindowEnd | memberWindowEnd | pulseEnd | uploadsAheadDrained | creditWindowRestart =>
    dsimp only [execPageHoldExpiry, execLeaderWindowEnd, execMemberWindowEnd, execPulseEnd,
      execUploadsAheadDrained, execCreditWindowRestart]
    rw [h]
  | restart | inputFrameStart ready | controlLine cols | blankingLine | activeLine cols flip
  | lossIntervalExpiry ready | fallbackFrameStart ready | fallbackLineStart flip | fallbackBlankingLinePeriod =>
    dsimp only [execRestart, execInputFrameStart, execControlLine, execBlankingLine, execActiveLine,
      execLossIntervalExpiry, execFallbackFrameStart, execFallbackLineStart, execFallbackBlankingLinePeriod]
    rw [hraster]
  | fillGrant | fillCompletion | tileWrite | saveReadGrant | stageOpen | seedCompletion | tableWrite | flipArm
  | flipCancel | stageDiscard | configWrite | storeSave | saveCompletion | storeRecall | recallCompletion
  | storeProtect | protectProgramCompletion | storeProgramTimeout | storeReadCompletion =>
    dsimp only [execFillGrant, execFillCompletion, execTileWrite, execSaveReadGrant, execStageOpen,
      execSeedCompletion, execTableWrite, execFlipArm, execFlipCancel, execStageDiscard, execConfigWrite,
      execStoreSave, execSaveCompletion, execStoreRecall, execRecallCompletion, execStoreProtect,
      execProtectProgramCompletion, execStoreProgramTimeout, execStoreReadCompletion]
    rw [hpre]

/-! ### RECALL_COMPLETION (R137, R175) -/

theorem State.applyImage_recallAct_activeBank (n : Nat) (s : State) :
    (s.applyImage recallAct n).activeBank = s.activeBank := by
  refine s.applyImage_keeps (P := fun u => u.activeBank = s.activeBank) n (fun a _ u hu => ?_) (fun _ _ hu => hu) rfl
  cases a with
  | config f => exact hu
  | sector t n bs => exact hu
  | entry table i bs => rwa [recallAct_entry, State.setStaging_activeBank]

/-- What the end of a RECALL leaves, by its outcome. -/
theorem State.recallEnds_spec (s : State) :
    s.recallEnds.store.state = s.imageOutcome.storeState ∧ s.recallEnds.activeBank = s.activeBank ∧
      s.recallEnds.scene.tag = s.scene.tag ∧ s.recallEnds.library = s.library ∧ s.recallEnds.raster = s.raster ∧
      (∀ tag, s.imageOutcome = .loaded tag → s.recallEnds.scene.phase = .editing) ∧
      ((∀ tag, s.imageOutcome ≠ .loaded tag) →
        s.recallEnds.scene.phase = .settled ∧ s.recallEnds.flagged .storeFault = true) := by
  have hactive : (s.applyImageRest recallAct).activeBank = s.activeBank := s.applyImage_recallAct_activeBank _
  obtain ⟨tb, k, himage⟩ := s.applyImage_recallAct_eq s.imageRest.length
  change s.applyImageRest recallAct = _ at himage
  have hscene : (s.applyImageRest recallAct).scene = s.scene := by rw [himage]
  have hlibrary : (s.applyImageRest recallAct).library = s.library := by rw [himage]
  have hraster : (s.applyImageRest recallAct).raster = s.raster := by rw [himage]
  unfold State.recallEnds
  generalize s.applyImageRest recallAct = u at *
  have htag : u.scene.tag = s.scene.tag := by rw [hscene]
  cases s.imageOutcome with
  | loaded tag => exact ⟨rfl, hactive, htag, hlibrary, hraster, fun _ _ => rfl, fun hnot => absurd rfl (hnot tag)⟩
  | noStore | unprogrammed | failed =>
    exact ⟨rfl, hactive, htag, hlibrary, hraster, nofun, fun _ => ⟨rfl, State.flagged_raise .storeFault _⟩⟩

theorem execRecallCompletion_of_recalling {s : State} (hdue : s.nothingDue = true) (hload : s.loading = false)
    (hphase : s.scene.phase = .recalling) : exec .recallCompletion s = .next s.nextTick.recallEnds := by
  have hpre : s.prelude = (s.applyImage recallAct (Config.loaderPace s.tick)).nextTick := by
    rw [s.prelude_of_nothingDue hdue, State.background, hload, if_neg Bool.false_ne_true, if_pos hphase]
  have hphase' : s.prelude.scene.phase = .recalling := by
    rw [s.prelude_of_nothingDue hdue, (State.background_goneOn hload).scene, hphase]
  have hexec : exec .recallCompletion s = execRecallCompletion s := rfl
  rw [hexec, execRecallCompletion, if_pos hphase', hpre, State.recallEnds_applyImage]

/-- Settles O21: the three ends, what an image is read as, and what load and RECALL do with each of its parts. -/
theorem loadAndRecallEndByTheirOutcome : Obligations.LoadAndRecallEndByTheirOutcome := by
  refine ⟨⟨fun s hdue hload => ⟨_, execLoadCompletion_of_loading hdue hload, rfl, s.nextTick.loadEnds_spec⟩,
      fun s hload hblocks => ⟨_, execLoadCompletion_of_no_store hload hblocks, rfl, fun c hpower hcompletion => ?_⟩,
      fun s hdue hload hphase =>
        ⟨_, execRecallCompletion_of_recalling hdue hload hphase, rfl, s.nextTick.recallEnds_spec⟩⟩,
    readImage_spec, fun m len n a => ⟨rfl, imageSections_spec m len n a⟩, sectionActs_spec,
    fun s f tile n table i bs => ⟨rfl, rfl, rfl, rfl, fun k hk => ?_, fun k hk => ?_⟩⟩
  · refine exec_congr_settleLoad ?_ hpower hcompletion
    have hsettled : (s.setStoreState .none).loading = false := rfl
    rw [State.settleLoad_of_no_store hload hblocks,
      State.settleLoad_of_not_due _ (State.loadDue_of_not_loading _ hsettled)]
  · rw [loadAct_entry, hk, Option.getD_some]
  · rw [recallAct_entry, hk, Option.getD_some]

end Sys2Proof.Machine

/-! SUPPORT. No operation of the part reaches the queue of waiting commands (95_what_each_step_holds.md). -/

namespace Sys2Proof.Machine

/-! ### The builder, the scene controller and the group sync unit -/

theorem State.BuildsTo.pending {s t : State} (h : s.BuildsTo t) : t.pending = s.pending := by
  obtain ⟨b, c, v, rfl, -, -⟩ := h
  rfl

theorem State.ControlsTo.pending {s t : State} (h : s.ControlsTo t) : t.pending = s.pending := by
  obtain ⟨tb, sc, g, v, r, w, rfl, -, -⟩ := h
  rfl

section Pending
variable (s : State)

@[simp] theorem State.completeFill_pending (r : GrantedRead) (rest : List GrantedRead) :
    (s.completeFill r rest).pending = s.pending := (s.completeFill_buildsTo r rest).pending

@[simp] theorem State.settleScene_pending : s.settleScene.pending = s.pending := by
  obtain ⟨lane, d, h⟩ := s.settleScene_cases
  exact h.pending

@[simp] theorem State.enterArmed_pending : s.enterArmed.pending = s.pending := s.enterArmed_controlsTo.pending

/-! ### The steps that a counter brings due -/

@[simp] theorem State.settleHold_pending : s.settleHold.pending = s.pending := by
  unfold State.settleHold
  split
  · rw [State.settleScene_pending, s.holdPop_controlsTo.pending]
  · rfl

@[simp] theorem State.settleCredit_pending : s.settleCredit.pending = s.pending := by
  unfold State.settleCredit
  split <;> rfl

@[simp] theorem State.settleDrained_pending : s.settleDrained.pending = s.pending :=
  s.settleDrained_controlsTo.pending

@[simp] theorem State.settlePulse_pending : s.settlePulse.pending = s.pending := s.settlePulse_controlsTo.pending

@[simp] theorem State.settleLeaderWindow_pending : s.settleLeaderWindow.pending = s.pending :=
  s.settleLeaderWindow_controlsTo.pending

@[simp] theorem State.settleMemberWindow_pending : s.settleMemberWindow.pending = s.pending :=
  s.settleMemberWindow_controlsTo.pending

@[simp] theorem State.settleCounters_pending : s.settleCounters.pending = s.pending := by simp [State.settleCounters]

/-! ### The image and what stands before a command -/

theorem loadAct_pending (a : ImageAct) : (loadAct a s).pending = s.pending := by
  cases a with
  | config f => rfl
  | entry table i bs =>
    simp only [loadAct]
    split <;> rfl
  | sector t n bs => rfl

theorem recallAct_pending (a : ImageAct) : (recallAct a s).pending = s.pending := by
  cases a with
  | config f => rfl
  | entry table i bs =>
    simp only [recallAct]
    split <;> rfl
  | sector t n bs => rfl

@[simp] theorem State.applyImage_loadAct_pending (n : Nat) : (s.applyImage loadAct n).pending = s.pending :=
  s.applyImage_keeps (P := fun u => u.pending = s.pending) n (fun a _ u hu => (loadAct_pending u a).trans hu)
    (fun _ _ hu => hu) rfl

@[simp] theorem State.applyImage_recallAct_pending (n : Nat) : (s.applyImage recallAct n).pending = s.pending :=
  s.applyImage_keeps (P := fun u => u.pending = s.pending) n (fun a _ u hu => (recallAct_pending u a).trans hu)
    (fun _ _ hu => hu) rfl

@[simp] theorem State.loadEnds_pending : s.loadEnds.pending = s.pending := by
  have himage : (s.applyImageRest loadAct).pending = s.pending := s.applyImage_loadAct_pending _
  unfold State.loadEnds
  generalize s.applyImageRest loadAct = u at himage ⊢
  cases s.imageOutcome <;> exact himage

@[simp] theorem State.recallEnds_pending : s.recallEnds.pending = s.pending := by
  have himage : (s.applyImageRest recallAct).pending = s.pending := s.applyImage_recallAct_pending _
  unfold State.recallEnds
  generalize s.applyImageRest recallAct = u at himage ⊢
  cases s.imageOutcome <;> exact himage

@[simp] theorem State.settleLoad_pending : s.settleLoad.pending = s.pending := by
  unfold State.settleLoad
  split
  · exact s.loadEnds_pending
  · rfl

@[simp] theorem State.saveGoesOn_pending : s.saveGoesOn.pending = s.pending := by
  rcases s.saveGoesOn_cases with ⟨-, h⟩ | ⟨j, -, -, -, h⟩ <;> simp [h]

@[simp] theorem State.background_pending : s.background.pending = s.pending := by
  unfold State.background
  split
  · exact s.applyImage_loadAct_pending _
  · split
    · exact s.applyImage_recallAct_pending _
    · exact s.saveGoesOn_pending

@[simp] theorem State.prelude_pending : s.prelude.pending = s.pending := by simp [State.prelude, State.settleDue]

@[simp] theorem State.rasterPrelude_pending : s.rasterPrelude.pending = s.pending := by simp [State.rasterPrelude]

/-! ### Frame starts and line starts -/

@[simp] theorem State.outputFrameStart_pending (src : Source) : (s.outputFrameStart src).pending = s.pending := by
  have hbegin : (s.beginFrame src).pending = s.pending := by
    obtain ⟨k, st, d, hopen, -⟩ := s.popIfDue.openFrame_cases src
    rw [(s.beginFrame_controlsTo src).pending, hopen, ← s.popIfDue_controlsTo.pending]
  rcases s.outputFrameStart_cases src with ⟨-, h⟩ | ⟨-, h⟩ <;> rw [h]
  · exact hbegin
  · rw [State.settleScene_pending, hbegin]

@[simp] theorem State.outputLineStart_pending (background : List Rgb) :
    (s.outputLineStart background).pending = s.pending := by
  obtain ⟨b, c, v, hcompose, -⟩ := s.composeLine_cases background
  rw [State.outputLineStart_eq, State.clockLine_eq, (State.sampleFlip_controlsTo _).pending, hcompose]

@[simp] theorem State.cutLine_pending : s.cutLine.pending = s.pending := by
  obtain ⟨p, k, r, h⟩ := s.cutLine_eq
  rw [h]

@[simp] theorem State.judgeFrame_pending : s.judgeFrame.pending = s.pending := by
  obtain ⟨v, h⟩ := s.judgeFrame_eq
  rw [h]

@[simp] theorem State.inputFrameOutput_pending (before : Lock) :
    (s.inputFrameOutput before).pending = s.pending := by
  unfold State.inputFrameOutput
  split
  · rw [State.outputFrameStart_pending]
    split
    · rfl
    · exact s.cutLine_pending
  · split
    · exact s.outputFrameStart_pending _
    · rfl

@[simp] theorem State.loseInput_pending : s.loseInput.pending = s.pending := by
  cases hlock : s.raster.lock.follows
  · rw [State.loseInput_of_not_follows hlock]
  · rw [State.loseInput_of_follows hlock, State.outputFrameStart_pending]
    exact State.cutLine_pending _

/-! ### The receiver and the library -/

theorem dispatch_pending (k : Packet) : (dispatch k s).pending = s.pending := by
  rcases dispatch_cases k s with ⟨c, -, -, h⟩ | ⟨c, -, -, h⟩ | ⟨u, -, -, h⟩ | ⟨r, -, -, h⟩ | ⟨f, h⟩ <;> simp [h]

@[simp] theorem State.receiveControl_pending (f : InFrame) (cols : List Rgb) :
    (s.receiveControl f cols).pending = s.pending := by
  unfold State.receiveControl
  dsimp only
  split
  · rfl
  · split
    · rfl
    · exact parseFrom_keeps (P := fun u => u.pending = s.pending) (fun _ _ hu => hu)
        (fun k u hu => (dispatch_pending u k).trans hu) _ _ rfl

@[simp] theorem State.blankIfInput_pending : s.blankIfInput.pending = s.pending := by
  obtain ⟨p, h⟩ := s.blankIfInput_eq
  rw [h]

@[simp] theorem State.measureLine_pending (f : InFrame) (columns : Nat) :
    (s.measureLine f columns).pending = s.pending := rfl

@[simp] theorem State.grantUpload_pending (u : Upload) (rest : List Upload) :
    (s.grantUpload u rest).pending = s.pending := by
  unfold State.grantUpload
  dsimp only
  split <;> rfl

/-! ### The commands of the table queue and of the store -/

@[simp] theorem State.openStage_pending : s.openStage.pending = s.pending := by
  unfold State.openStage
  split <;> rfl

@[simp] theorem State.seedCopy_pending : s.seedCopy.pending = s.pending := rfl

@[simp] theorem State.writeTable_pending (w : TableWriteCmd) : (s.writeTable w).pending = s.pending := by
  unfold State.writeTable
  repeat' split
  all_goals rfl

@[simp] theorem State.armFlip_pending (f : FlipArmCmd) : (s.armFlip f).pending = s.pending := by
  unfold State.armFlip
  split
  · rfl
  · split
    · rfl
    · split
      · rfl
      · dsimp only
        split
        · exact State.enterArmed_pending _
        · rfl

@[simp] theorem State.cancelFlip_pending : s.cancelFlip.pending = s.pending := by
  unfold State.cancelFlip
  split <;> rfl

@[simp] theorem State.discardStage_pending : s.discardStage.pending = s.pending := by
  unfold State.discardStage
  split <;> rfl

@[simp] theorem State.writeConfig_pending (mask : Nat) (data : List Byte) :
    (s.writeConfig mask data).pending = s.pending := by
  unfold State.writeConfig
  split <;> rfl

@[simp] theorem State.startSave_pending : s.startSave.pending = s.pending := by
  unfold State.startSave
  repeat' split
  all_goals rfl

@[simp] theorem State.startRecall_pending : s.startRecall.pending = s.pending := by
  unfold State.startRecall
  repeat' split
  all_goals rfl

@[simp] theorem State.startProtect_pending (named : BitVec 16) : (s.startProtect named).pending = s.pending := by
  unfold State.startProtect
  repeat' split
  all_goals rfl

@[simp] theorem State.beginSaving_pending (j : SaveJob) : (s.beginSaving j).pending = s.pending := rfl

@[simp] theorem State.saveSector_pending (j : SaveJob) (area : Nat) (rest : List Nat) :
    (s.saveSector j area rest).pending = s.pending := by
  unfold State.saveSector
  dsimp only
  split <;> rfl

@[simp] theorem State.saveEnds_pending (j : SaveJob) : (s.saveEnds j).pending = s.pending := rfl

@[simp] theorem State.saveStops_pending : s.saveStops.pending = s.pending := by
  obtain ⟨k, m, h⟩ := s.saveStops_cases
  rw [h]

@[simp] theorem State.protectStops_pending : s.protectStops.pending = s.pending := by
  obtain ⟨k, m, h⟩ := s.protectStops_cases
  rw [h]

@[simp] theorem State.protectEnds_pending : s.protectEnds.pending = s.pending := by
  unfold State.protectEnds
  split <;> rfl

@[simp] theorem State.programTimeout_pending : s.programTimeout.pending = s.pending := by
  unfold State.programTimeout
  split
  · split
    · exact s.saveStops_pending
    · rfl
  · exact s.protectStops_pending
  · rfl

/-! ### The resets -/

@[simp] theorem State.resetBlocks_pending : s.resetBlocks.pending = s.pending := rfl

@[simp] theorem State.warmRestart_pending : s.warmRestart.pending = s.pending := by simp [State.warmRestart]

end Pending

end Sys2Proof.Machine

/-! SUPPORT. The queue of waiting commands behind a command and at a step: O2 and O1. -/

namespace Sys2Proof.Machine

/-- The queue is `q` in the state that the outcome answers, where it answers one. -/
def LeavesQueue (q : List Instr) (o : Host.Outcome State Fault Refusal) : Prop := ∀ t, o = .next t → t.pending = q

@[simp] theorem leavesQueue_next {q : List Instr} {t : State} : LeavesQueue q (.next t) ↔ t.pending = q :=
  ⟨fun h => h t rfl, fun h _ ht => Host.Outcome.next.inj ht ▸ h⟩

theorem leavesQueue_refused (q : List Instr) (r : Refusal) : LeavesQueue q (.refused r) := fun _ h => nomatch h

theorem execPowerOn_leavesQueue (straps : Straps) (s : State) : LeavesQueue s.pending (execPowerOn straps s) := by
  unfold execPowerOn
  split
  · rw [leavesQueue_next, State.outputFrameStart_pending, State.resetBlocks_pending]
    simp
  · exact leavesQueue_refused _ _

theorem execLoadCompletion_leavesQueue (s : State) : LeavesQueue s.pending (execLoadCompletion s) := by
  unfold execLoadCompletion
  split
  · simp
  · rw [← s.prelude_pending]
    generalize s.prelude = u
    dsimp only
    split <;> simp

/-- No command reaches the queue: a step that is due, a command of the table queue, a command of the library or of the
store, and an event of the raster each answer operations that leave it, behind the steps that stand before them. What
those steps answer is generalized before the branches are split, so that it is never evaluated. -/
theorem exec_leavesQueue (c : Instr) (s : State) : LeavesQueue s.pending (exec c s) := by
  cases c with
  | powerOn straps => exact execPowerOn_leavesQueue straps s
  | loadCompletion => exact execLoadCompletion_leavesQueue s
  | pageHoldExpiry | uploadsAheadDrained | creditWindowRestart | leaderWindowEnd | memberWindowEnd | pulseEnd =>
    simp [exec, execPageHoldExpiry, execUploadsAheadDrained, execCreditWindowRestart, execLeaderWindowEnd,
      execMemberWindowEnd, execPulseEnd]
  | inputFrameStart | protectProgramCompletion | storeProgramTimeout =>
    simp [exec, execInputFrameStart, execProtectProgramCompletion, execStoreProgramTimeout]
  | stageOpen | tableWrite | flipArm | flipCancel | stageDiscard | configWrite | storeSave | storeRecall
  | storeProtect =>
    delta exec execStageOpen execTableWrite execFlipArm execFlipCancel execStageDiscard execConfigWrite
      execStoreSave execStoreRecall execStoreProtect
    rw [← s.prelude_pending]
    generalize s.prelude = u
    dsimp only
    split <;> simp
  | fillGrant | fillCompletion | tileWrite | saveReadGrant | seedCompletion | saveCompletion | recallCompletion
  | storeReadCompletion =>
    delta exec execFillGrant execFillCompletion execTileWrite execSaveReadGrant execSeedCompletion
      execSaveCompletion execRecallCompletion execStoreReadCompletion
    rw [← s.prelude_pending]
    generalize s.prelude = u
    dsimp only
    repeat' split
    all_goals simp
  | restart | lossIntervalExpiry | controlLine | blankingLine | activeLine | fallbackFrameStart
  | fallbackBlankingLinePeriod | fallbackLineStart =>
    delta exec execRestart execLossIntervalExpiry execControlLine execBlankingLine execActiveLine
      execFallbackFrameStart execFallbackBlankingLinePeriod execFallbackLineStart
    rw [← s.rasterPrelude_pending]
    generalize s.rasterPrelude = u
    dsimp only
    repeat' split
    all_goals simp

/-- Settles O2: what a command answers leaves the queue before it. -/
theorem commandsLeaveTheQueue : Obligations.CommandsLeaveTheQueue := exec_leavesQueue

/-- Settles O1, by the two equations of `step`, one for each shape of the queue. -/
theorem stepRunsFrontCommandOrIdles : Obligations.StepRunsFrontCommandOrIdles := by
  refine ⟨fun c rest s hfront => ?_, step_nil⟩
  have hstep := step_cons (s := s) c rest
  rwa [← hfront] at hstep

end Sys2Proof.Machine
